-- ==== Sys2Proof/Word.lean ====
section
/-! DEFINITION. The word types of the serial link (R172: values wider than one byte are sent high byte first). -/

namespace Sys2Proof

/-- One byte on the link. -/
abbrev Byte := BitVec 8

/-- A two-byte value carried in a request body. -/
abbrev Half := BitVec 16

/-- A four-byte value carried in a request body; also a lane position, which is 32 bits wide. -/
abbrev Quad := BitVec 32

/-- An index of the product table, 0 to 15 (R1). -/
abbrev ProductIx := Fin 16

end Sys2Proof
end

