-- ==== Sys2Proof/Syntax.lean ====
section
/-! DEFINITION. The commands of the block: one constructor of Instr for each row of the opcode table. Request rows carry
the tag of their frame and the body fields of R182 in the widths the link carries them, so that a value outside its range
can be sent and refused. Event rows carry typed operands: no lane but A or B exists. -/

namespace Sys2Proof

/-- The two lanes (00_scope.md, Names and numbers). -/
inductive Lane where
  | a
  | b
deriving DecidableEq, Repr

/-- The two bag heads; clip tiers take the number of their head. -/
inductive Head where
  | one
  | two
deriving DecidableEq, Repr

/-- An edge of a completion input: it becomes asserted, or it clears. -/
inductive Edge where
  | rises
  | falls
deriving DecidableEq, Repr

/-- The step lines of a tier as they come to be seen: at a tick of its encoder, or as they change between two ticks. -/
inductive StepLines where
  | tick (lines : BitVec 4)
  | still (lines : BitVec 4)
deriving DecidableEq, Repr

/-- The field bytes of WRITE PRODUCT after the index (R182). -/
structure ProductBody where
  article : Half
  tNom : Half
  tMin : Half
  tMax : Half
  heel : Half
  kerf : Byte
  nMax : Byte
  crumbFactor : Byte
  wholeOk : Byte
  shelfClass : Byte
deriving DecidableEq, Repr

/-- One pair of WRITE DAY CODES: an index byte and three character bytes (R182). -/
structure DayPair where
  index : Byte
  c1 : Byte
  c2 : Byte
  c3 : Byte
deriving DecidableEq, Repr

/-- One pair of a settings list: an item byte and a four-byte value (section 11.5). -/
structure Setting where
  item : Byte
  value : Quad
deriving DecidableEq, Repr

/-- One pair of CONNECT (R182). -/
structure SourcePair where
  head : Byte
  source : Byte
deriving DecidableEq, Repr

/-- The field bytes of WRITE WATCH after the entry number (R182). -/
structure WatchBody where
  enable : Byte
  productValue : Byte
  productMask : Byte
  laneSelect : Byte
  lengthMode : Byte
  lengthLow : Half
  lengthHigh : Half
  heightMode : Byte
  heightLow : Half
  heightHigh : Half
  requiredFlags : Byte
  outcomes : Byte
  combine : Byte
  chained : Byte
  armWindow : Byte
  actions : Byte
deriving DecidableEq, Repr

/-- A well-formed frame without its start byte, length and check: kind, tag, body (R172). -/
structure Frame where
  kind : Byte
  tag : Byte
  body : List Byte
deriving DecidableEq, Repr

/-- The result codes (R175). -/
inductive ResultCode where
  | ok
  | unknownKind
  | badLength
  | badValue
  | wrongState
  | inUse
  | busy
  | notPresent
deriving DecidableEq, Repr

/-- The commands of the coordinator, in the table's order. -/
inductive Instr where
  -- power and link
  | powerOn
  | frameComplete (check : Byte)
  | interByteTimeout
  | replySent
  -- requests of the catalogue (section 11.5)
  | identify (tag : Byte)
  | readNotices (tag count : Byte)
  | flushNotices (tag : Byte)
  | setNoticeClasses (tag classes : Byte)
  | setLoafReports (tag mode : Byte)
  | start (tag : Byte)
  | stop (tag form : Byte)
  | resume (tag : Byte)
  | clear (tag : Byte)
  | readLineStatus (tag : Byte)
  | writeProduct (tag index : Byte) (fields : ProductBody) (signature : Option Half)
  | eraseProduct (tag index : Byte)
  | readProduct (tag index : Byte)
  | assignProduct (tag lane product : Byte)
  | readAssignment (tag : Byte)
  | writeDayCodes (tag : Byte) (pairs : List DayPair)
  | laneSettings (tag lane : Byte) (pairs : List Setting)
  | readLaneSettings (tag lane : Byte)
  | readQueue (tag lane place : Byte)
  | readLoaf (tag : Byte) (loaf : Half)
  | trialPlan (tag lane : Byte) (length height : Half) (product : Byte)
  | readPlannerStatus (tag : Byte)
  | setWearRate (tag lane : Byte) (rate : Half)
  | bladeChange (tag lane : Byte)
  | readSlicer (tag lane : Byte)
  | writeWatch (tag entry : Byte) (fields : WatchBody)
  | readWatch (tag : Byte)
  | readCapture (tag place : Byte)
  | flushCapture (tag : Byte)
  | connect (tag : Byte) (first : SourcePair) (second : Option SourcePair)
  | headSettings (tag head : Byte) (pairs : List Setting)
  | readRouter (tag : Byte)
  | readHead (tag head : Byte)
  | reloadMagazine (tag head : Byte) (count : Half)
  | learnSignature (tag head order : Byte)
  | setSignature (tag index present : Byte) (value : Half)
  | tieCheck (tag head setting : Byte)
  | readTier (tag head : Byte)
  | crumbSettings (tag lane : Byte) (pairs : List Setting)
  | setCrumbMode (tag lane mode : Byte)
  | purgeStart (tag lane : Byte)
  | purgeStop (tag lane : Byte)
  | singlePurge (tag lane : Byte)
  | crumbReset (tag lane : Byte)
  | readCrumb (tag lane : Byte)
  | closeShift (tag : Byte)
  | readTotals (tag first : Byte)
  | readLaneTotals (tag : Byte)
  | readSnapshot (tag part : Byte)
  -- events of the gauge; travel is the belt's travel in counts since the lane's last event
  | leadingEdge (lane : Lane) (travel : Quad) (beams : BitVec 48)
  | highestBeamRaise (lane : Lane) (travel : Quad) (beams : BitVec 48)
  | trailingEdge (lane : Lane) (travel : Quad)
  | voidClose (lane : Lane) (travel : Quad)
  -- positional events of a record
  | bladeLineArrival (lane : Lane) (loaf : Nat)
  | trailingEdgePastBlade (lane : Lane) (loaf : Nat)
  | rejectGateArrival (lane : Lane) (loaf : Nat)
  | diverterPulseEnd (lane : Lane)
  | routerGateArrival (lane : Lane) (loaf : Nat)
  -- planner
  | gaugeRequestArrival (lane : Lane) (loaf : Nat)
  | planCompletion
  | trialPlanCompletion
  -- slicer stations
  | cutDue (lane : Lane)
  | strokeCompletion (lane : Lane)
  | strokeTimeout (lane : Lane)
  | bladeHomeLost (lane : Lane)
  | bladeHomeSeen (lane : Lane)
  | homingCompletion (lane : Lane)
  | homingTimeout (lane : Lane)
  -- bag heads and clip tiers
  | bagOpen (head : Head) (edge : Edge)
  | openingTimeout (head : Head)
  | bagFeedPulseEnd (head : Head)
  | loafIn (head : Head) (edge : Edge)
  | gatherDone (head : Head) (edge : Edge)
  | tieDone (head : Head) (edge : Edge)
  | headStateTimeout (head : Head)
  | dischargeClear (head : Head) (edge : Edge)
  -- crumb controllers
  | gapWaitExpiry (lane : Lane)
  | holdOffExpiry (lane : Lane)
  | purgeTimeExpiry (lane : Lane)
  | settleExpiry (lane : Lane)
  -- safety inputs and resume window
  | eStopAsserted
  | eStopReleased
  | guardOpens (guard : Fin 4)
  | guardCloses (guard : Fin 4)
  | resumeWindowExpiry
  -- link bytes and tier encoder
  | byteReceived (byte : Byte)
  | tierEncoderTick (head : Head) (lines : StepLines)
deriving DecidableEq, Repr

end Sys2Proof
end

