-- ==== Sys2Proof/WellFormed.lean ====
section
/-! DEFINITION. Which terms of Instr stand for a command the coordinator can be given. A list body must fit a frame
(R172: length 2..250, so a body of at most 248 bytes); a gauge event blocks some beam (R19, R20); a loaf number is
1..65535 (00_scope.md, Names and numbers). -/

namespace Sys2Proof

/-- A loaf number a record can carry. -/
def loafNumberOk (n : Nat) : Bool := decide (1 ≤ n) && decide (n ≤ 65535)

/-- A settings list of a body of 2 + 5 × count bytes, at most 248. -/
def settingsFit (pairs : List Setting) : Bool := decide (2 + 5 * pairs.length ≤ 248)

/-- The command can be given: see the file's header for the rules. -/
def Instr.wellFormed : Instr → Bool
  | .writeDayCodes _ pairs => decide (1 + 4 * pairs.length ≤ 248)
  | .laneSettings _ _ pairs => settingsFit pairs
  | .headSettings _ _ pairs => settingsFit pairs
  | .crumbSettings _ _ pairs => settingsFit pairs
  | .leadingEdge _ _ beams => decide (beams ≠ 0)
  | .highestBeamRaise _ _ beams => decide (beams ≠ 0)
  | .bladeLineArrival _ n => loafNumberOk n
  | .trailingEdgePastBlade _ n => loafNumberOk n
  | .rejectGateArrival _ n => loafNumberOk n
  | .routerGateArrival _ n => loafNumberOk n
  | .gaugeRequestArrival _ n => loafNumberOk n
  | _ => true

end Sys2Proof
end

