-- ==== Sys2Proof/Decode.lean ====
section
/-! DEFINITION. The request frames of the link (R172, R182): byte order, the decoder of a frame's kind and body, and the
encoder of a request. The table of operations gives no row a bit pattern, so decodeTableWord spells no command. -/

namespace Sys2Proof

/-! ### Byte order: high byte first (R172) -/

/-- The high byte of a two-byte value. -/
def hiByte (h : Half) : Byte := BitVec.ofNat 8 (h.toNat / 256)

/-- The low byte of a two-byte value. -/
def loByte (h : Half) : Byte := BitVec.ofNat 8 h.toNat

/-- A two-byte value, high byte first. -/
def halfOf (hi lo : Byte) : Half := BitVec.ofNat 16 (hi.toNat * 256 + lo.toNat)

/-- A two-byte value as bytes, high byte first. -/
def halfBytes (h : Half) : List Byte := [hiByte h, loByte h]

/-- Byte `k` of a four-byte value, counted from the low end. -/
def quadByte (q : Quad) (k : Nat) : Byte := BitVec.ofNat 8 (q.toNat / 256 ^ k)

/-- A four-byte value, high byte first. -/
def quadOf (a b c d : Byte) : Quad := BitVec.ofNat 32 (((a.toNat * 256 + b.toNat) * 256 + c.toNat) * 256 + d.toNat)

/-- A number in `k` bytes, high byte first (R172); the bytes of replies and notices. -/
def beBytes : Nat → Nat → List Byte
  | 0, _ => []
  | k + 1, n => BitVec.ofNat 8 (n / 256 ^ k) :: beBytes k n

/-! ### The result codes (R175) -/

def ResultCode.byte : ResultCode → Byte
  | .ok => 0x00
  | .unknownKind => 0x01
  | .badLength => 0x02
  | .badValue => 0x03
  | .wrongState => 0x04
  | .inUse => 0x05
  | .busy => 0x06
  | .notPresent => 0x07

/-! ### Request bodies (R182) -/

/-- The pairs of a settings list: an item byte and a four-byte value each. -/
def settingsOf : List Byte → Option (List Setting)
  | [] => some []
  | i :: a :: b :: c :: d :: rest => (settingsOf rest).map (⟨i, quadOf a b c d⟩ :: ·)
  | _ => none

/-- A settings list as bytes. -/
def settingsBytes : List Setting → List Byte
  | [] => []
  | p :: rest => p.item :: quadByte p.value 3 :: quadByte p.value 2 :: quadByte p.value 1 :: quadByte p.value 0 :: settingsBytes rest

/-- The pairs of WRITE DAY CODES. -/
def dayPairsOf : List Byte → Option (List DayPair)
  | [] => some []
  | i :: a :: b :: c :: rest => (dayPairsOf rest).map (⟨i, a, b, c⟩ :: ·)
  | _ => none

/-- The pairs of WRITE DAY CODES as bytes. -/
def dayPairsBytes : List DayPair → List Byte
  | [] => []
  | p :: rest => p.index :: p.c1 :: p.c2 :: p.c3 :: dayPairsBytes rest

/-- A body of a selector byte, a count and that many settings; the length is the one the count gives (R175). -/
def settingsBody (make : Byte → List Setting → Instr) : List Byte → Option Instr
  | sel :: count :: rest =>
    match settingsOf rest with
    | some pairs => if pairs.length = count.toNat then some (make sel pairs) else none
    | none => none
  | _ => none

/-- A body of no bytes. -/
def noBody (i : Instr) : List Byte → Option Instr
  | [] => some i
  | _ => none

/-- A body of one byte. -/
def oneByte (make : Byte → Instr) : List Byte → Option Instr
  | [a] => some (make a)
  | _ => none

/-- A body of two bytes. -/
def twoBytes (make : Byte → Byte → Instr) : List Byte → Option Instr
  | [a, b] => some (make a b)
  | _ => none

/-- A body of one byte and a two-byte value. -/
def byteHalf (make : Byte → Half → Instr) : List Byte → Option Instr
  | [a, b, c] => some (make a (halfOf b c))
  | _ => none

/-- The body of WRITE PRODUCT: 16 bytes, or 18 with an expected signature. -/
def writeProductBody (tag : Byte) : List Byte → Option Instr
  | [i, a1, a0, n1, n0, l1, l0, u1, u0, h1, h0, k, nm, f, w, sc] =>
    some (.writeProduct tag i ⟨halfOf a1 a0, halfOf n1 n0, halfOf l1 l0, halfOf u1 u0, halfOf h1 h0, k, nm, f, w, sc⟩ none)
  | [i, a1, a0, n1, n0, l1, l0, u1, u0, h1, h0, k, nm, f, w, sc, s1, s0] =>
    some (.writeProduct tag i ⟨halfOf a1 a0, halfOf n1 n0, halfOf l1 l0, halfOf u1 u0, halfOf h1 h0, k, nm, f, w, sc⟩ (some (halfOf s1 s0)))
  | _ => none

/-- The body of WRITE WATCH: 21 bytes. -/
def writeWatchBody (tag : Byte) : List Byte → Option Instr
  | [e, en, pv, pm, ls, lm, ll1, ll0, lh1, lh0, hm, hl1, hl0, hh1, hh0, rf, os, cb, ch, aw, ac] =>
    some (.writeWatch tag e ⟨en, pv, pm, ls, lm, halfOf ll1 ll0, halfOf lh1 lh0, hm, halfOf hl1 hl0, halfOf hh1 hh0, rf, os, cb, ch, aw, ac⟩)
  | _ => none

/-- The body of WRITE DAY CODES. -/
def writeDayCodesBody (tag : Byte) : List Byte → Option Instr
  | count :: rest =>
    match dayPairsOf rest with
    | some pairs => if pairs.length = count.toNat then some (.writeDayCodes tag pairs) else none
    | none => none
  | _ => none

/-- The body of READ LOAF. -/
def readLoafBody (tag : Byte) : List Byte → Option Instr
  | [a, b] => some (.readLoaf tag (halfOf a b))
  | _ => none

/-- The body of TRIAL PLAN. -/
def trialPlanBody (tag : Byte) : List Byte → Option Instr
  | [l, n1, n0, h1, h0, p] => some (.trialPlan tag l (halfOf n1 n0) (halfOf h1 h0) p)
  | _ => none

/-- The body of CONNECT: one or two pairs. -/
def connectBody (tag : Byte) : List Byte → Option Instr
  | [h, s] => some (.connect tag ⟨h, s⟩ none)
  | [h, s, h2, s2] => some (.connect tag ⟨h, s⟩ (some ⟨h2, s2⟩))
  | _ => none

/-- The body of SET SIGNATURE. -/
def setSignatureBody (tag : Byte) : List Byte → Option Instr
  | [i, p, v1, v0] => some (.setSignature tag i p (halfOf v1 v0))
  | _ => none

/-- The request of a body whose kind is listed (steps 1 and 2 of R175): `none` for a kind not in the catalogue,
`some none` for a body of a wrong length. -/
def requestOf (kind tag : Byte) (body : List Byte) : Option (Option Instr) :=
  match kind with
  | 0x01#8 => some (noBody (.identify tag) body)
  | 0x02#8 => some (oneByte (.readNotices tag) body)
  | 0x03#8 => some (noBody (.flushNotices tag) body)
  | 0x04#8 => some (oneByte (.setNoticeClasses tag) body)
  | 0x05#8 => some (oneByte (.setLoafReports tag) body)
  | 0x10#8 => some (noBody (.start tag) body)
  | 0x11#8 => some (oneByte (.stop tag) body)
  | 0x12#8 => some (noBody (.resume tag) body)
  | 0x13#8 => some (noBody (.clear tag) body)
  | 0x14#8 => some (noBody (.readLineStatus tag) body)
  | 0x18#8 => some (writeProductBody tag body)
  | 0x19#8 => some (oneByte (.eraseProduct tag) body)
  | 0x1A#8 => some (oneByte (.readProduct tag) body)
  | 0x1B#8 => some (twoBytes (.assignProduct tag) body)
  | 0x1C#8 => some (noBody (.readAssignment tag) body)
  | 0x1D#8 => some (writeDayCodesBody tag body)
  | 0x20#8 => some (settingsBody (.laneSettings tag) body)
  | 0x21#8 => some (oneByte (.readLaneSettings tag) body)
  | 0x22#8 => some (twoBytes (.readQueue tag) body)
  | 0x23#8 => some (readLoafBody tag body)
  | 0x28#8 => some (trialPlanBody tag body)
  | 0x29#8 => some (noBody (.readPlannerStatus tag) body)
  | 0x2C#8 => some (byteHalf (.setWearRate tag) body)
  | 0x2D#8 => some (oneByte (.bladeChange tag) body)
  | 0x2E#8 => some (oneByte (.readSlicer tag) body)
  | 0x30#8 => some (writeWatchBody tag body)
  | 0x31#8 => some (noBody (.readWatch tag) body)
  | 0x32#8 => some (oneByte (.readCapture tag) body)
  | 0x33#8 => some (noBody (.flushCapture tag) body)
  | 0x38#8 => some (connectBody tag body)
  | 0x39#8 => some (settingsBody (.headSettings tag) body)
  | 0x3A#8 => some (noBody (.readRouter tag) body)
  | 0x3B#8 => some (oneByte (.readHead tag) body)
  | 0x40#8 => some (byteHalf (.reloadMagazine tag) body)
  | 0x41#8 => some (twoBytes (.learnSignature tag) body)
  | 0x42#8 => some (setSignatureBody tag body)
  | 0x43#8 => some (twoBytes (.tieCheck tag) body)
  | 0x44#8 => some (oneByte (.readTier tag) body)
  | 0x48#8 => some (settingsBody (.crumbSettings tag) body)
  | 0x49#8 => some (twoBytes (.setCrumbMode tag) body)
  | 0x4A#8 => some (oneByte (.purgeStart tag) body)
  | 0x4B#8 => some (oneByte (.purgeStop tag) body)
  | 0x4C#8 => some (oneByte (.singlePurge tag) body)
  | 0x4D#8 => some (oneByte (.crumbReset tag) body)
  | 0x4E#8 => some (oneByte (.readCrumb tag) body)
  | 0x50#8 => some (noBody (.closeShift tag) body)
  | 0x51#8 => some (oneByte (.readTotals tag) body)
  | 0x52#8 => some (noBody (.readLaneTotals tag) body)
  | 0x53#8 => some (oneByte (.readSnapshot tag) body)
  | _ => none

/-- Steps 1 and 2 of R175 on a frame: the request it carries, or UNKNOWN_KIND or BAD_LENGTH. -/
def decodeRequest (f : Frame) : Except ResultCode Instr :=
  match requestOf f.kind f.tag f.body with
  | none => .error .unknownKind
  | some none => .error .badLength
  | some (some i) => .ok i

/-! ### The encoder -/

/-- The kind, tag and body of a request; `none` for a row that is no request (section 11.5, R182). -/
def encode : Instr → Option Frame
  | .identify tag => some ⟨0x01, tag, []⟩
  | .readNotices tag count => some ⟨0x02, tag, [count]⟩
  | .flushNotices tag => some ⟨0x03, tag, []⟩
  | .setNoticeClasses tag classes => some ⟨0x04, tag, [classes]⟩
  | .setLoafReports tag mode => some ⟨0x05, tag, [mode]⟩
  | .start tag => some ⟨0x10, tag, []⟩
  | .stop tag form => some ⟨0x11, tag, [form]⟩
  | .resume tag => some ⟨0x12, tag, []⟩
  | .clear tag => some ⟨0x13, tag, []⟩
  | .readLineStatus tag => some ⟨0x14, tag, []⟩
  | .writeProduct tag index p sig => some ⟨0x18, tag, index :: (halfBytes p.article ++ halfBytes p.tNom ++ halfBytes p.tMin ++ halfBytes p.tMax ++ halfBytes p.heel ++
      [p.kerf, p.nMax, p.crumbFactor, p.wholeOk, p.shelfClass] ++ (match sig with | none => [] | some v => halfBytes v))⟩
  | .eraseProduct tag index => some ⟨0x19, tag, [index]⟩
  | .readProduct tag index => some ⟨0x1A, tag, [index]⟩
  | .assignProduct tag lane product => some ⟨0x1B, tag, [lane, product]⟩
  | .readAssignment tag => some ⟨0x1C, tag, []⟩
  | .writeDayCodes tag pairs => some ⟨0x1D, tag, BitVec.ofNat 8 pairs.length :: dayPairsBytes pairs⟩
  | .laneSettings tag lane pairs => some ⟨0x20, tag, lane :: BitVec.ofNat 8 pairs.length :: settingsBytes pairs⟩
  | .readLaneSettings tag lane => some ⟨0x21, tag, [lane]⟩
  | .readQueue tag lane place => some ⟨0x22, tag, [lane, place]⟩
  | .readLoaf tag loaf => some ⟨0x23, tag, halfBytes loaf⟩
  | .trialPlan tag lane length height product => some ⟨0x28, tag, lane :: (halfBytes length ++ halfBytes height ++ [product])⟩
  | .readPlannerStatus tag => some ⟨0x29, tag, []⟩
  | .setWearRate tag lane rate => some ⟨0x2C, tag, lane :: halfBytes rate⟩
  | .bladeChange tag lane => some ⟨0x2D, tag, [lane]⟩
  | .readSlicer tag lane => some ⟨0x2E, tag, [lane]⟩
  | .writeWatch tag entry w => some ⟨0x30, tag, [entry, w.enable, w.productValue, w.productMask, w.laneSelect, w.lengthMode] ++ halfBytes w.lengthLow ++ halfBytes w.lengthHigh ++
      [w.heightMode] ++ halfBytes w.heightLow ++ halfBytes w.heightHigh ++ [w.requiredFlags, w.outcomes, w.combine, w.chained, w.armWindow, w.actions]⟩
  | .readWatch tag => some ⟨0x31, tag, []⟩
  | .readCapture tag place => some ⟨0x32, tag, [place]⟩
  | .flushCapture tag => some ⟨0x33, tag, []⟩
  | .connect tag p q => some ⟨0x38, tag, p.head :: p.source :: (match q with | none => [] | some r => [r.head, r.source])⟩
  | .headSettings tag head pairs => some ⟨0x39, tag, head :: BitVec.ofNat 8 pairs.length :: settingsBytes pairs⟩
  | .readRouter tag => some ⟨0x3A, tag, []⟩
  | .readHead tag head => some ⟨0x3B, tag, [head]⟩
  | .reloadMagazine tag head count => some ⟨0x40, tag, head :: halfBytes count⟩
  | .learnSignature tag head order => some ⟨0x41, tag, [head, order]⟩
  | .setSignature tag index present value => some ⟨0x42, tag, index :: present :: halfBytes value⟩
  | .tieCheck tag head setting => some ⟨0x43, tag, [head, setting]⟩
  | .readTier tag head => some ⟨0x44, tag, [head]⟩
  | .crumbSettings tag lane pairs => some ⟨0x48, tag, lane :: BitVec.ofNat 8 pairs.length :: settingsBytes pairs⟩
  | .setCrumbMode tag lane mode => some ⟨0x49, tag, [lane, mode]⟩
  | .purgeStart tag lane => some ⟨0x4A, tag, [lane]⟩
  | .purgeStop tag lane => some ⟨0x4B, tag, [lane]⟩
  | .singlePurge tag lane => some ⟨0x4C, tag, [lane]⟩
  | .crumbReset tag lane => some ⟨0x4D, tag, [lane]⟩
  | .readCrumb tag lane => some ⟨0x4E, tag, [lane]⟩
  | .closeShift tag => some ⟨0x50, tag, []⟩
  | .readTotals tag first => some ⟨0x51, tag, [first]⟩
  | .readLaneTotals tag => some ⟨0x52, tag, []⟩
  | .readSnapshot tag part => some ⟨0x53, tag, [part]⟩
  | _ => none

/-- The frame of a request; a frame of no kind for a row that is no request. -/
def requestFrame (i : Instr) : Frame := (encode i).getD ⟨0, 0, []⟩

/-- The command that a word spells by the table's bits: the table gives no row any (opcode_table.json, "fields"), so none. -/
def decodeTableWord (_nbits _w : Nat) : Option Instr := none

end Sys2Proof
end

