-- ==== Sys2Proof/Machine/Limits.lean ====
section
/-! DEFINITION. The fixed numbers of the manual: capacities, fixed times in milliseconds, saturation limits. -/

namespace Sys2Proof.Machine

/-- R28: places of a tracking queue. -/
def Limits.queuePlaces : Nat := 24
/-- R36: the fill source is present from this many records on. -/
def Limits.queueFill : Nat := 23
/-- R28: places of a waiting zone. -/
def Limits.waitingZone : Nat := 2
/-- R42: places of the planner's queue. -/
def Limits.plannerPlaces : Nat := 4
/-- R90: summaries of the capture log. -/
def Limits.capturePlaces : Nat := 16
/-- R177: notices of the notice queue. -/
def Limits.noticePlaces : Nat := 32
/-- R24: the longest length L. -/
def Limits.lengthMax : Nat := 16383
/-- R20: the greatest peak height. -/
def Limits.heightMax : Nat := 2000
/-- R24: the gap before held as its greatest value. -/
def Limits.gapMax : Nat := 65535
/-- R26: the greatest loaf number; R168: the greatest shift number. -/
def Limits.numberMax : Nat := 65535
/-- R32: diverter output, ms. -/
def Limits.diverterMs : Nat := 300
/-- R60: stroke timer, ms. -/
def Limits.strokeMs : Nat := 150
/-- R100: bag-feed pulse, ms. -/
def Limits.feedPulseMs : Nat := 100
/-- R130: gap-wait limit, ms. -/
def Limits.gapWaitMs : Nat := 10000
/-- R130: hold-off, ms. -/
def Limits.holdOffMs : Nat := 30000
/-- R147: resume window, ms. -/
def Limits.resumeWindowMs : Nat := 2000
/-- R173: inter-byte time, ms. -/
def Limits.interByteMs : Nat := 20
/-- R49: the wear term's clamp, sub-counts. -/
def Limits.wearClamp : Nat := 5120
/-- R57: the crumb per cut's clamp. -/
def Limits.crumbPerCutMax : Nat := 65535
/-- R60: stroke count limit; R130: crumb load limit (24 bits). -/
def Limits.max24 : Nat := 16777215
/-- R163, R164: 32-bit figures. -/
def Limits.max32 : Nat := 4294967295
/-- R163: crumb units added (48 bits). -/
def Limits.max48 : Nat := 281474976710655
/-- R114: clips of a magazine. -/
def Limits.magazineMax : Nat := 2000
/-- R117: the magazine count that issues MAGAZINE_LOW. -/
def Limits.magazineLow : Nat := 50
/-- R123: warm-up ties. -/
def Limits.warmUpTies : Nat := 2
/-- R122: mismatches in a row that raise TIE_FAULT. -/
def Limits.streakFault : Nat := 3
/-- R73: the greatest wear rate. -/
def Limits.wearRateMax : Nat := 255
/-- R130: purge count limit. -/
def Limits.purgeCountMax : Nat := 255
/-- R76: fire count limit; R120: step-tick limit. -/
def Limits.max16 : Nat := 65535

/-- A saturating increment (00_scope.md, Counters): the sum, held at the limit. -/
def satAdd (limit n k : Nat) : Nat := min limit (n + k)

end Sys2Proof.Machine
end

