-- ==== Sys2Proof/Machine/Types.lean ====
section
/-! DEFINITION. The data of each block of the coordinator. -/

namespace Sys2Proof.Machine

/-- One value per lane. -/
structure PerLane (α : Type) where
  a : α
  b : α
deriving DecidableEq, Repr

/-- One value per bag head or clip tier. -/
structure PerHead (α : Type) where
  one : α
  two : α
deriving DecidableEq, Repr

def PerLane.get {α : Type} (p : PerLane α) : Lane → α
  | .a => p.a
  | .b => p.b

def PerLane.set {α : Type} (p : PerLane α) (l : Lane) (x : α) : PerLane α :=
  match l with
  | .a => { p with a := x }
  | .b => { p with b := x }

def PerHead.get {α : Type} (p : PerHead α) : Head → α
  | .one => p.one
  | .two => p.two

def PerHead.set {α : Type} (p : PerHead α) (h : Head) (x : α) : PerHead α :=
  match h with
  | .one => { p with one := x }
  | .two => { p with two := x }

/-! ### Products (R1, R7, R13) -/

/-- A DEFINED product entry (R1). -/
structure ProductEntry where
  article : Nat
  tNom : Nat
  tMin : Nat
  tMax : Nat
  heel : Nat
  kerf : Nat
  nMax : Nat
  crumbFactor : Nat
  wholeOk : Bool
  shelfClass : Fin 8
  signature : Option Half
deriving DecidableEq, Repr

/-- A lane's active product (NONE is `none`) and pending product (absent is `none`, a pending NONE is `some none`); R7. -/
structure Assignment where
  active : Option ProductIx
  pending : Option (Option ProductIx)
deriving DecidableEq, Repr

/-- A day code: three characters (R13). -/
structure DayCode where
  c1 : Byte
  c2 : Byte
  c3 : Byte
deriving DecidableEq, Repr

/-- The clip code of R119: day code, shift letter, line id. -/
structure ClipCode where
  day : DayCode
  shift : Byte
  line : Byte
deriving DecidableEq, Repr

/-! ### Loaf records and lanes (R15, R18, R25, R28) -/

/-- Plan outcomes (R58). -/
inductive PlanOutcome where
  | even
  | heelLong
  | heelShort
  | noSpan
  | noPlan
  | latePlan
deriving DecidableEq, Repr

/-- A plan record (R58). Lengths named in sub-counts are 1/256 count. -/
structure Plan where
  outcome : PlanOutcome
  slices : Nat
  pitch : Nat
  thickness : Nat
  trailingHeel : Nat
  cuts : List Nat
  crumbPerCut : Nat
  wearTerm : Nat
  wearClamped : Bool
  crumbClamped : Bool
deriving DecidableEq, Repr

/-- Stages of a loaf record (R25). -/
inductive Stage where
  | gauged
  | planWait
  | planned
  | slicing
  | sliced
  | waiting
  | atHead
deriving DecidableEq, Repr

/-- The reason of a REJECT disposition (R25). -/
inductive Reason where
  | watch
  | noPlan
  | latePlan
  | noSpan
  | miscut
  | untied
deriving DecidableEq, Repr

/-- Tie results (R25). -/
inductive TieResult where
  | good
  | unchecked
  | mismatch
  | noClip
deriving DecidableEq, Repr

/-- The flags of a record (R25). -/
structure LoafFlags where
  closeGap : Bool
  overlong : Bool
  lateCut : Bool
  miscut : Bool
  uncheckedTie : Bool
deriving DecidableEq, Repr

/-- The positional events of a record already taken: each is taken once per record (R29). The model's own field. -/
structure Passed where
  bladeLine : Bool
  trailing : Bool
  rejectGate : Bool
  routerGate : Bool
deriving DecidableEq, Repr

/-- A loaf record (R25). -/
structure LoafRecord where
  number : Nat
  lane : Lane
  product : ProductIx
  lead : Quad
  length : Nat
  height : Nat
  gapBefore : Nat
  flags : LoafFlags
  stage : Stage
  plan : Option Plan
  cutsDone : Nat
  disposition : Option Reason
  marked : Bool
  hits : Vector Bool 4
  head : Option Head
  tie : Option TieResult
  passed : Passed
deriving DecidableEq, Repr

/-- The six geometry settings of a lane (R15). -/
structure Geometry where
  dBlade : Nat
  dReject : Nat
  dRouter : Nat
  minGap : Nat
  debrisLen : Nat
  beamPitch : Nat
deriving DecidableEq, Repr

/-- The gauge state with what it holds: an open SPAN has its lead position, highest beam and fixed product (R18). -/
inductive Window where
  | clear
  | span (lead : Quad) (highest : Nat) (product : Option ProductIx)
  | void
deriving DecidableEq, Repr

/-- A lane: position, geometry, infeed gauge, tracking queue (oldest record first), the gate-held record's number (the lane
hold is asserted exactly while there is one, R34), the infeed hold output (R37) and the diverter pulse (R32). -/
structure LaneState where
  position : Quad
  geometry : Geometry
  window : Window
  previous : Option Quad
  queue : List LoafRecord
  gateHeld : Option Nat
  holdInEffect : Bool
  diverter : Option Nat
deriving DecidableEq, Repr

/-! ### Slice planner (R42, R44) -/

/-- A gauge request on its way to the planner: issued, its arrival not yet taken (R43, R46). -/
structure IssuedRequest where
  lane : Lane
  loaf : Nat
  withdrawn : Bool
deriving DecidableEq, Repr

/-- A request of the planner's queue (R42). -/
inductive PlanRequest where
  | gauge (lane : Lane) (loaf : Nat)
  | trial (lane : Lane) (length height : Nat) (product : ProductIx)
deriving DecidableEq, Repr

/-- The inputs a plan works on (R48). -/
structure PlanInputs where
  length : Nat
  height : Nat
  tNom : Nat
  tMin : Nat
  tMax : Nat
  heel : Nat
  kerf : Nat
  nMax : Nat
  crumbFactor : Nat
  wholeOk : Bool
  strokes : Nat
  wearRate : Nat
deriving DecidableEq, Repr

/-- The plan in progress: its request, the inputs read at its start (R44) and whether it has been withdrawn (R42). -/
structure CurrentPlan where
  request : PlanRequest
  inputs : PlanInputs
  withdrawn : Bool
deriving DecidableEq, Repr

structure Planner where
  issued : List IssuedRequest
  queue : List PlanRequest
  current : Option CurrentPlan
  overflow : Bool
  count : Nat
deriving DecidableEq, Repr

/-! ### Slicer stations (R60, R62) -/

/-- A cut given to the blade: loaf number, cut index, product, and the crumb per cut taken with it (R60, R66). -/
structure Cut where
  loaf : Nat
  index : Nat
  product : ProductIx
  crumb : Nat
deriving DecidableEq, Repr

/-- The blade state with the stroke in progress, or whether a homing move is in progress (R60). -/
inductive Blade where
  | home
  | stroking (cut : Cut)
  | homing (moving : Bool)
deriving DecidableEq, Repr

/-- An entry of the cut schedule (R62). -/
structure ScheduleEntry where
  loaf : Nat
  next : Nat
deriving DecidableEq, Repr

structure Slicer where
  blade : Blade
  pending : Option Cut
  schedule : List ScheduleEntry
  timer : Option Nat
  strokes : Nat
  wearRate : Nat
  wearLimit : Bool
deriving DecidableEq, Repr

/-! ### Quality watch and capture log (R76, R85, R90) -/

inductive LaneSelect where
  | a
  | b
  | either
deriving DecidableEq, Repr

/-- The mode of a length or height test (R81). -/
inductive TestMode where
  | off
  | below
  | inside
  | outside
deriving DecidableEq, Repr

inductive Combine where
  | all
  | any
deriving DecidableEq, Repr

/-- A set of plan outcomes (R76). -/
structure OutcomeSet where
  even : Bool
  heelLong : Bool
  heelShort : Bool
  noSpan : Bool
  noPlan : Bool
  latePlan : Bool
deriving DecidableEq, Repr

/-- A set of watch actions (R76). -/
structure Actions where
  reject : Bool
  mark : Bool
  stop : Bool
  captureStart : Bool
  captureStop : Bool
deriving DecidableEq, Repr

/-- A watch entry (R76). -/
structure WatchEntry where
  enable : Bool
  productValue : BitVec 4
  productMask : BitVec 4
  laneSelect : LaneSelect
  lengthMode : TestMode
  lengthLow : Nat
  lengthHigh : Nat
  heightMode : TestMode
  heightLow : Nat
  heightHigh : Nat
  needCloseGap : Bool
  needOverlong : Bool
  outcomes : OutcomeSet
  combine : Combine
  chained : Bool
  armWindow : Nat
  actions : Actions
  fireCount : Nat
deriving DecidableEq, Repr

/-- A captured summary (R90). -/
structure Summary where
  number : Nat
  lane : Lane
  product : ProductIx
  length : Nat
  height : Nat
  gapBefore : Nat
  flags : LoafFlags
  outcome : PlanOutcome
  slices : Nat
  thickness : Nat
  disposition : Option Reason
  marked : Bool
  hits : Vector Bool 4
deriving DecidableEq, Repr

/-- The Quality Watch: four entries, the chain of each pair (`none` disarmed, `some w` armed with w loaves remaining), and
the capture log. -/
structure Watch where
  entries : Vector WatchEntry 4
  chains : Vector (Option Nat) 2
  capture : List Summary
  recording : Bool
deriving DecidableEq, Repr

/-! ### Router, bag heads and clip tiers (R95, R100, R114) -/

/-- A head's source (R95). -/
inductive Source where
  | none
  | a
  | b
  | both
deriving DecidableEq, Repr

/-- The Lane Router (R95). -/
structure Router where
  active : PerHead Source
  pending : PerHead (Option Source)
  idleOrder : List Head
  waitingOrder : List (Nat × Lane)
deriving DecidableEq, Repr

inductive HeadStep where
  | idle
  | opening
  | loading
  | gathering
  | tying
  | discharging
  | bagOut
deriving DecidableEq, Repr

/-- The five timeouts of a head, in ms (R112). -/
structure Timeouts where
  opening : Nat
  loading : Nat
  gathering : Nat
  tying : Nat
  discharging : Nat
deriving DecidableEq, Repr

/-- A bag head (R100). -/
structure HeadState where
  step : HeadStep
  record : Option LoafRecord
  direct : Bool
  misses : Nat
  timer : Option Nat
  timeouts : Timeouts
  feedPulse : Option Nat
deriving DecidableEq, Repr

/-- A tie in flight (R114). -/
structure Tie where
  loaf : Nat
  product : ProductIx
  ticks : Nat
  signature : Half
  interrupted : Bool
deriving DecidableEq, Repr

/-- A tier's learn (R114, R124). -/
inductive Learn where
  | none
  | armed
  | bound (product : ProductIx)
deriving DecidableEq, Repr

/-- A clip tier (R114). `printed` is the model's own record of the print line: every message sent on it since power-on, oldest
first (entry 34). -/
structure Tier where
  magazine : Nat
  loaded : Nat
  used : Nat
  tie : Option Tie
  warmUp : Nat
  streak : Nat
  check : Bool
  learn : Learn
  lastProduct : Option ProductIx
  lastSignature : Option Half
  lastCode : Option ClipCode
  printed : List ClipCode
deriving DecidableEq, Repr

/-! ### Crumb controllers and air arbiter (R130, R140) -/

inductive CrumbMode where
  | disabled
  | auto
  | commanded
  | manual
deriving DecidableEq, Repr

inductive CrumbStep where
  | disabled
  | watching
  | gapWait
  | purging
  | settling
deriving DecidableEq, Repr

/-- How PURGING ended (R138, R139). -/
inductive PurgeEnd where
  | fullTime
  | purgeStop
  | leadingEdge
deriving DecidableEq, Repr

structure Crumb where
  mode : CrumbMode
  step : CrumbStep
  last : CrumbStep
  load : Nat
  tLow : Nat
  tHigh : Nat
  purgeTime : Nat
  settleTime : Nat
  phase : Option Nat
  holdOff : Option Nat
  single : Bool
  count : Nat
  manual : Bool
  ended : PurgeEnd
deriving DecidableEq, Repr

/-- The Air Arbiter (R140). -/
structure Air where
  holder : Option Lane
  waiting : Option Lane
deriving DecidableEq, Repr

/-! ### Line control (R147) -/

inductive LineState where
  | stopped
  | running
  | draining
  | halted
deriving DecidableEq, Repr

/-- A stop cause with the place of one raise (R147, R152 to R156). -/
inductive Cause where
  | eStop
  | guardOpen (guard : Fin 4)
  | repeatFault
  | slicerJam (lane : Lane)
  | headJam (head : Head) (step : HeadStep)
  | bagEmpty (head : Head)
  | commandHalt
  | clipEmpty (head : Head)
  | tieFault (head : Head)
  | watchStop (entry : Fin 4)
  | commandStop
deriving DecidableEq, Repr

/-- The event causes now present, each with its detail (R147, R150). Level causes are read from their conditions. -/
structure EventCauses where
  repeatFault : Bool
  slicerJam : PerLane Bool
  headJam : PerHead (Option HeadStep)
  bagEmpty : PerHead Bool
  commandHalt : Bool
  tieFault : PerHead Bool
  watchStop : Vector Bool 4
  commandStop : Bool
deriving DecidableEq, Repr

structure Line where
  state : LineState
  causes : EventCauses
  latched : Option Cause
  window : Option Nat
deriving DecidableEq, Repr

/-! ### Shift totals (R162 to R168) -/

/-- The figures of one product (R162). -/
structure ProductTotals where
  admitted : Nat
  carriedIn : Nat
  bagged : Nat
  baggedWhole : Nat
  baggedUnchecked : Nat
  rejWatch : Nat
  rejNoPlan : Nat
  rejLatePlan : Nat
  rejNoSpan : Nat
  rejMiscut : Nat
  rejUntied : Nat
  cleared : Nat
  marked : Nat
  slices : Nat
deriving DecidableEq, Repr

/-- The figures of one lane (R163). -/
structure LaneTotals where
  debris : Nat
  purges : Nat
  crumb : Nat
  lateCuts : Nat
deriving DecidableEq, Repr

/-- The figures of one head (R163). -/
structure HeadTotals where
  good : Nat
  unchecked : Nat
  mismatch : Nat
  noClip : Nat
  clipsUsed : Nat
  bagMisses : Nat
deriving DecidableEq, Repr

/-- The closed-shift snapshot (R167). -/
structure Snapshot where
  shift : Nat
  products : Vector ProductTotals 16
  carriedOut : Vector Nat 16
  lanes : PerLane LaneTotals
  heads : PerHead HeadTotals
  automatic : Bool
deriving DecidableEq, Repr

structure Totals where
  products : Vector ProductTotals 16
  lanes : PerLane LaneTotals
  heads : PerHead HeadTotals
  shift : Nat
  snapshot : Option Snapshot
deriving DecidableEq, Repr

/-! ### Notices and link (R173 to R180) -/

/-- How a record left (R180). -/
inductive LeftBy where
  | rejectGate
  | head
  | lineClear
deriving DecidableEq, Repr

/-- The loaf report's data (R180). -/
structure LoafReport where
  number : Nat
  lane : Lane
  product : ProductIx
  flags : LoafFlags
  marked : Bool
  disposition : Option Reason
  leftBy : LeftBy
  head : Option Head
  tie : Option TieResult
deriving DecidableEq, Repr

/-- The sixteen notices (section 11.6). -/
inductive Notice where
  | lineState (left entered : LineState) (latched : Option Cause)
  | stopCause (cause : Cause) (state : LineState)
  | productActive (lane : Lane) (before after : Option ProductIx)
  | queueOverrun (lane : Lane) (lead span : Quad)
  | watchFired (entry : Fin 4) (loaf : Nat) (lane : Lane)
  | captureFull (loaf : Nat)
  | plannerFull (lane : Lane) (loaf : Nat)
  | bladeWear (lane : Lane) (strokes wearRate : Nat)
  | magazineLow (head : Head) (count : Nat)
  | tieMismatch (head : Head) (loaf : Nat) (product : ProductIx) (found expected : Half)
  | signatureLearned (head : Head) (loaf : Nat) (product : ProductIx) (signature : Half)
  | purgeDone (lane : Lane) (load count : Nat) (ended : PurgeEnd)
  | purgeNoGap (lane : Lane) (load : Nat) (grantHeld : Bool)
  | purgeAborted (lane : Lane) (step : CrumbStep) (load : Nat) (byClear : Bool)
  | shiftClosed (closed new carried : Nat) (automatic : Bool)
  | loafReport (report : LoafReport)
deriving DecidableEq, Repr

/-- The loaf-report mode (R180). -/
inductive ReportMode where
  | off
  | every
  | once
deriving DecidableEq, Repr

/-- The Notice Queue (R177). `enabled` is the class set as the link carries it: one bit per class (R179). -/
structure Notices where
  queue : List Notice
  lost : Bool
  enabled : Byte
  reports : ReportMode
deriving DecidableEq, Repr

/-- The receiver: hunting, or in a frame with what it has gathered since the start byte (R173). `content n got` has taken
the length n and the bytes `got` after it. -/
inductive Receiver where
  | hunting
  | length
  | content (n : Nat) (got : List Byte)
deriving DecidableEq, Repr

/-- A frame being handled, with its reply once formed: kind, tag and body of the reply frame (R172, R174). -/
structure Handled where
  request : Frame
  reply : Option Frame
deriving DecidableEq, Repr

/-- The Link Port (R173, R174). -/
structure LinkPort where
  receiver : Receiver
  interByte : Option Nat
  handled : Option Handled
  waiting : Option Frame
  overrun : Bool
deriving DecidableEq, Repr

/-! ### Plant inputs as last seen -/

/-- The four completion inputs of a head (R100). -/
structure HeadInputs where
  bagOpen : Bool
  loafIn : Bool
  gatherDone : Bool
  dischargeClear : Bool
deriving DecidableEq, Repr

/-- The step lines (bit 0 wire feed, 1 jaw closed, 2 twist, 3 cut) and cycle-complete of a tier (R114, R120). -/
structure TierInputs where
  lines : BitVec 4
  cycleComplete : Bool
deriving DecidableEq, Repr

structure Inputs where
  eStop : Bool
  guards : Vector Bool 4
  curtain : PerLane (BitVec 48)
  bladeHome : PerLane Bool
  heads : PerHead HeadInputs
  tiers : PerHead TierInputs
deriving DecidableEq, Repr

end Sys2Proof.Machine
end

