-- ==== Sys2Proof/Machine/PowerOn.lean ====
section
/-! DEFINITION. The power-on values of each block, beside the rules that give them. -/

namespace Sys2Proof.Machine

/-- R76, power-on values. -/
def WatchEntry.initial : WatchEntry :=
  { enable := false, productValue := 0, productMask := 0, laneSelect := .either, lengthMode := .off, lengthLow := 0,
    lengthHigh := 0, heightMode := .off, heightLow := 0, heightHigh := 0, needCloseGap := false, needOverlong := false,
    outcomes := ⟨false, false, false, false, false, false⟩, combine := .all, chained := false, armWindow := 1,
    actions := ⟨false, false, false, false, false⟩, fireCount := 0 }

/-- R18: the gauge is VOID if any beam is blocked, CLEAR if none is. -/
def Window.fromCurtain (beams : BitVec 48) : Window := if beams = 0 then .clear else .void

/-- R15, R18, R28, R34, R36: a lane at power-on. -/
def LaneState.initial (beams : BitVec 48) : LaneState :=
  { position := 0, geometry := ⟨3000, 6000, 9000, 300, 150, 40⟩, window := Window.fromCurtain beams, previous := none,
    queue := [], gateHeld := none, holdInEffect := true, diverter := none }

/-- R60: a slicer station at power-on. -/
def Slicer.initial (bladeHome : Bool) : Slicer :=
  { blade := if bladeHome then .home else .homing false, pending := none, schedule := [], timer := none, strokes := 0,
    wearRate := 0, wearLimit := false }

/-- R100, R112: a bag head at power-on. -/
def HeadState.initial : HeadState :=
  { step := .idle, record := none, direct := false, misses := 0, timer := none, timeouts := ⟨400, 800, 300, 600, 500⟩,
    feedPulse := none }

/-- R114: a clip tier at power-on. -/
def Tier.initial : Tier :=
  { magazine := 0, loaded := 0, used := 0, tie := none, warmUp := 2, streak := 0, check := true, learn := .none,
    lastProduct := none, lastSignature := none, lastCode := none, printed := [] }

/-- R130: a crumb controller at power-on. -/
def Crumb.initial : Crumb :=
  { mode := .disabled, step := .disabled, last := .disabled, load := 0, tLow := 200000, tHigh := 400000, purgeTime := 1500,
    settleTime := 500, phase := none, holdOff := none, single := false, count := 0, manual := false, ended := .fullTime }

/-- No event cause present (R147). -/
def EventCauses.none : EventCauses :=
  { repeatFault := false, slicerJam := ⟨false, false⟩, headJam := ⟨Option.none, Option.none⟩, bagEmpty := ⟨false, false⟩,
    commandHalt := false, tieFault := ⟨false, false⟩, watchStop := Vector.replicate 4 false, commandStop := false }

/-- Figures of zero (R162). -/
def ProductTotals.zero : ProductTotals := ⟨0, 0, 0, 0, 0, 0, 0, 0, 0, 0, 0, 0, 0, 0⟩
/-- Figures of zero (R163). -/
def LaneTotals.zero : LaneTotals := ⟨0, 0, 0, 0⟩
/-- Figures of zero (R163). -/
def HeadTotals.zero : HeadTotals := ⟨0, 0, 0, 0, 0, 0⟩

/-- R162, R163, R167, R168: the totals at power-on. -/
def Totals.initial : Totals :=
  { products := Vector.replicate 16 ProductTotals.zero, lanes := ⟨LaneTotals.zero, LaneTotals.zero⟩,
    heads := ⟨HeadTotals.zero, HeadTotals.zero⟩, shift := 1, snapshot := none }

/-- R7: no active product and no pending product. -/
def Assignment.initial : Assignment := ⟨none, none⟩

/-- R13: the code "000". -/
def DayCode.initial : DayCode := ⟨0x30, 0x30, 0x30⟩

/-- R42: the planner at power-on. -/
def Planner.initial : Planner := ⟨[], [], none, false, 0⟩

/-- R76, R86, R90: the Quality Watch at power-on. -/
def Watch.initial : Watch := ⟨Vector.replicate 4 WatchEntry.initial, Vector.replicate 2 none, [], false⟩

/-- R95: the router at power-on. -/
def Router.initial : Router := ⟨⟨.a, .b⟩, ⟨none, none⟩, [.one, .two], []⟩

/-- R112: the line id A. -/
def lineIdInitial : Byte := 0x41

/-- R140: no grant and no request. -/
def Air.initial : Air := ⟨none, none⟩

/-- R147: STOPPED, no latched cause, no resume window. -/
def Line.initial : Line := ⟨.stopped, EventCauses.none, none, none⟩

/-- R177: an empty queue, every class enabled, loaf reports OFF. -/
def Notices.initial : Notices := ⟨[], false, 0xFF, .off⟩

/-- R173, R174: hunting, both places empty, no overrun. -/
def LinkPort.initial : LinkPort := ⟨.hunting, none, none, none, false⟩

/-- DESIGN CHOICE (entry 1): the plant inputs as reset finds them: nothing asserted, every guard closed, both curtains clear. -/
def Inputs.initial : Inputs :=
  { eStop := false, guards := Vector.replicate 4 false, curtain := ⟨0, 0⟩, bladeHome := ⟨false, false⟩,
    heads := ⟨⟨false, false, false, false⟩, ⟨false, false, false, false⟩⟩, tiers := ⟨⟨0, false⟩, ⟨0, false⟩⟩ }

end Sys2Proof.Machine
end

