-- ==== Sys2Proof/Machine/State.lean ====
section
/-! DEFINITION. The state of the coordinator as plain data, and the state right after reset. -/

namespace Sys2Proof.Machine

/-- The whole state of the coordinator, with the queue of commands that wait (the model's own field). -/
structure State where
  pending : List Instr
  products : Vector (Option ProductEntry) 16
  dayCodes : Vector DayCode 8
  assign : PerLane Assignment
  lanes : PerLane LaneState
  lastLoaf : Nat
  planner : Planner
  slicers : PerLane Slicer
  watch : Watch
  router : Router
  heads : PerHead HeadState
  lineId : Byte
  tiers : PerHead Tier
  crumb : PerLane Crumb
  air : Air
  line : Line
  totals : Totals
  notices : Notices
  link : LinkPort
  inputs : Inputs
deriving DecidableEq, Repr

/-- No fault: the manual gives no event that stops the coordinator (entry 7 and INVENTORY.md, Faults). -/
inductive Fault where
deriving DecidableEq, Repr

/-- Refusals of the model. -/
inductive Refusal where
  /-- Raised by exec's arm of a command that has no meaning yet; safe. -/
  | notModelled (mnemonic : String)
deriving DecidableEq, Repr

/-- Power-on reset: every block at its power-on values, read from the plant inputs as they stand where the rules say so
(R18, R60, R147). The queue of waiting commands is the model's and is kept. -/
def State.powerOn (inputs : Inputs) (pending : List Instr) : State :=
  { pending := pending
    products := Vector.replicate 16 none
    dayCodes := Vector.replicate 8 DayCode.initial
    assign := ⟨Assignment.initial, Assignment.initial⟩
    lanes := ⟨LaneState.initial inputs.curtain.a, LaneState.initial inputs.curtain.b⟩
    lastLoaf := 0
    planner := Planner.initial
    slicers := ⟨Slicer.initial inputs.bladeHome.a, Slicer.initial inputs.bladeHome.b⟩
    watch := Watch.initial
    router := Router.initial
    heads := ⟨HeadState.initial, HeadState.initial⟩
    lineId := lineIdInitial
    tiers := ⟨Tier.initial, Tier.initial⟩
    crumb := ⟨Crumb.initial, Crumb.initial⟩
    air := Air.initial
    line := Line.initial
    totals := Totals.initial
    notices := Notices.initial
    link := LinkPort.initial
    inputs := inputs }

/-- The coordinator right after power-on reset, with no command waiting. -/
def State.reset : State := State.powerOn Inputs.initial []

end Sys2Proof.Machine
end

