-- ==== Sys2Proof/Machine/Ops.lean ====
section
/-! DEFINITION. The shared operations below every block: access per lane and head, loaf records, notices, shift totals, and
the views of the state that several rules read. -/

namespace Sys2Proof.Machine

/-! ### Access per lane and per head -/

def State.modLane (l : Lane) (f : LaneState → LaneState) (s : State) : State :=
  { s with lanes := s.lanes.set l (f (s.lanes.get l)) }

def State.modSlicer (l : Lane) (f : Slicer → Slicer) (s : State) : State :=
  { s with slicers := s.slicers.set l (f (s.slicers.get l)) }

def State.modCrumb (l : Lane) (f : Crumb → Crumb) (s : State) : State :=
  { s with crumb := s.crumb.set l (f (s.crumb.get l)) }

def State.modHead (h : Head) (f : HeadState → HeadState) (s : State) : State :=
  { s with heads := s.heads.set h (f (s.heads.get h)) }

def State.modTier (h : Head) (f : Tier → Tier) (s : State) : State :=
  { s with tiers := s.tiers.set h (f (s.tiers.get h)) }

def State.modAssign (l : Lane) (f : Assignment → Assignment) (s : State) : State :=
  { s with assign := s.assign.set l (f (s.assign.get l)) }

def State.modLaneTotals (l : Lane) (f : LaneTotals → LaneTotals) (s : State) : State :=
  { s with totals := { s.totals with lanes := s.totals.lanes.set l (f (s.totals.lanes.get l)) } }

def State.modHeadTotals (h : Head) (f : HeadTotals → HeadTotals) (s : State) : State :=
  { s with totals := { s.totals with heads := s.totals.heads.set h (f (s.totals.heads.get h)) } }

def State.modProductTotals (p : ProductIx) (f : ProductTotals → ProductTotals) (s : State) : State :=
  { s with totals := { s.totals with products := s.totals.products.set p (f s.totals.products[p]) } }

/-- The other lane. -/
def otherLane : Lane → Lane
  | .a => .b
  | .b => .a

/-! ### Loaf records -/

/-- Every held record: both queues, then both heads (R28, R100). -/
def State.held (s : State) : List LoafRecord :=
  s.lanes.a.queue ++ s.lanes.b.queue ++ s.heads.one.record.toList ++ s.heads.two.record.toList

/-- The held record with this loaf number. -/
def State.findRecord (n : Nat) (s : State) : Option LoafRecord := s.held.find? (fun r => r.number == n)

/-- The record with this number in a lane's queue. -/
def State.queued (l : Lane) (n : Nat) (s : State) : Option LoafRecord :=
  (s.lanes.get l).queue.find? (fun r => r.number == n)

/-- `f` applied to the record when it carries the number. -/
def onNumber (n : Nat) (f : LoafRecord → LoafRecord) (r : LoafRecord) : LoafRecord := if r.number = n then f r else r

/-- Writes fields of the held record with this number, wherever it is held. -/
def State.updateRecord (n : Nat) (f : LoafRecord → LoafRecord) (s : State) : State :=
  { s with
    lanes := ⟨{ s.lanes.a with queue := s.lanes.a.queue.map (onNumber n f) },
              { s.lanes.b with queue := s.lanes.b.queue.map (onNumber n f) }⟩
    heads := ⟨{ s.heads.one with record := s.heads.one.record.map (onNumber n f) },
              { s.heads.two with record := s.heads.two.record.map (onNumber n f) }⟩ }

/-- R25: a disposition, once present, keeps its reason. -/
def LoafRecord.reject (reason : Reason) (r : LoafRecord) : LoafRecord :=
  { r with disposition := some (r.disposition.getD reason) }

/-- R68 step 3 and R33: MISCUT set, and REJECT(MISCUT) unless a disposition is present. -/
def LoafRecord.miscut (r : LoafRecord) : LoafRecord :=
  LoafRecord.reject .miscut { r with flags := { r.flags with miscut := true } }

/-- R134: the stages GAUGED to SLICING, at or before the blade. -/
def Stage.beforeBlade : Stage → Bool
  | .gauged | .planWait | .planned | .slicing => true
  | .sliced | .waiting | .atHead => false

/-- Removes a record from a lane's queue; the others keep their order (R28). -/
def State.dequeue (l : Lane) (n : Nat) (s : State) : State :=
  s.modLane l fun q => { q with queue := q.queue.filter (fun r => r.number != n) }

/-! ### Lane position -/

/-- "At or beyond": the difference modulo 2^32 is below 2^31 (00_scope.md, Lane position). -/
def atOrBeyond (p q : Quad) : Bool := decide ((p - q).toNat < 2147483648)

/-- A record's point at a distance from its lead position (R29). -/
def pointAt (lead : Quad) (distance : Nat) : Quad := lead + BitVec.ofNat 32 distance

/-! ### Views of the state -/

/-- R34: the lane hold is asserted exactly while the lane has a gate-held record. -/
def State.laneHold (l : Lane) (s : State) : Bool := (s.lanes.get l).gateHeld.isSome

/-- RUNNING or DRAINING. -/
def State.moving (s : State) : Bool :=
  match s.line.state with
  | .running | .draining => true
  | .stopped | .halted => false

/-- R148: the lane conveyor run output. -/
def State.conveyorRuns (l : Lane) (s : State) : Bool := s.moving && !s.laneHold l

/-- R18: the gauge window is open in SPAN and VOID. -/
def Window.isOpen : Window → Bool
  | .clear => false
  | .span _ _ _ => true
  | .void => true

/-- R38: the lane reports itself empty while its queue holds no record and its gauge is CLEAR. -/
def State.laneEmpty (l : Lane) (s : State) : Bool := (s.lanes.get l).queue.isEmpty && !(s.lanes.get l).window.isOpen

/-- R134: a quiet lane. -/
def State.quiet (l : Lane) (s : State) : Bool :=
  (s.lanes.get l).queue.all (fun r => !r.stage.beforeBlade) && !(s.lanes.get l).window.isOpen

/-- R36, crumb source: present from GAP_WAIT to the end of the purge, but for a manual purge (R135, R143). -/
def Crumb.holdsInfeed (c : Crumb) : Bool :=
  match c.step with
  | .gapWait | .purging | .settling => !c.manual
  | .disabled | .watching => false

/-- R36: the five sources of a lane's infeed hold. -/
structure HoldSources where
  line : Bool
  product : Bool
  fill : Bool
  laneHold : Bool
  crumb : Bool
deriving DecidableEq, Repr

def State.holdSources (l : Lane) (s : State) : HoldSources :=
  { line := decide (s.line.state ≠ .running)
    product := (s.assign.get l).active.isNone
    fill := decide (Limits.queueFill ≤ (s.lanes.get l).queue.length)
    laneHold := s.laneHold l
    crumb := (s.crumb.get l).holdsInfeed }

/-- R36: requested while one or more sources is present. -/
def HoldSources.requested (h : HoldSources) : Bool := h.line || h.product || h.fill || h.laneHold || h.crumb

/-- R37: the infeed hold output after an event. A request found while the window is open on a running belt waits for the
event that closes the window; a hold in effect stays until its request ends. DESIGN CHOICE (entry 40): the hold is settled by
the sources that stand at the end of the event, so one in effect stays in effect where its request ends and comes back within
the event. -/
def State.settleHold (l : Lane) (s : State) : State :=
  let requested := (s.holdSources l).requested
  let waits := (s.lanes.get l).window.isOpen && s.conveyorRuns l
  s.modLane l fun q => { q with holdInEffect := requested && (q.holdInEffect || !waits) }

/-- R95: the source admits the lane. -/
def Source.admits : Source → Lane → Bool
  | .none, _ => false
  | .a, .a => true
  | .a, .b => false
  | .b, .a => false
  | .b, .b => true
  | .both, _ => true

/-- R150: CLIP_EMPTY's condition at one head. -/
def State.clipEmptyAt (h : Head) (s : State) : Bool :=
  decide (s.router.active.get h ≠ .none) && decide ((s.tiers.get h).magazine = 0)

/-- R150: E_STOP, GUARD_OPEN and CLIP_EMPTY follow their conditions. -/
def State.eStopPresent (s : State) : Bool := s.inputs.eStop
def State.guardOpenPresent (s : State) : Bool := s.inputs.guards.toList.any id
def State.clipEmptyPresent (s : State) : Bool := s.clipEmptyAt .one || s.clipEmptyAt .two

/-- Any pending cause present (R159 step 5). -/
def State.pendingCausePresent (s : State) : Bool :=
  s.clipEmptyPresent || s.line.causes.tieFault.one || s.line.causes.tieFault.two ||
    s.line.causes.watchStop.toList.any id || s.line.causes.commandStop

/-- Any immediate cause present (R157 step 2). -/
def State.immediateCausePresent (s : State) : Bool :=
  s.eStopPresent || s.guardOpenPresent || s.line.causes.repeatFault || s.line.causes.slicerJam.a || s.line.causes.slicerJam.b ||
    s.line.causes.headJam.one.isSome || s.line.causes.headJam.two.isSome || s.line.causes.bagEmpty.one ||
    s.line.causes.bagEmpty.two || s.line.causes.commandHalt

/-- The product a window has fixed for its span (R2). -/
def Window.product : Window → Option ProductIx
  | .span _ _ p => p
  | .clear | .void => none

/-- R2: a product entry is in use while a lane's assignment, an open gauge window or a held record names it. -/
def State.inUse (p : ProductIx) (s : State) : Bool :=
  decide (s.assign.a.active = some p) || decide (s.assign.b.active = some p) ||
  decide (s.assign.a.pending = some (some p)) || decide (s.assign.b.pending = some (some p)) ||
  decide (s.lanes.a.window.product = some p) || decide (s.lanes.b.window.product = some p) ||
  s.held.any (fun r => decide (r.product = p))

/-! ### Notices (R177) -/

/-- The class bit of a notice (R179: 0 line, 1 watch, 2 crumb, 3 clip, 4 planner, 5 shift, 6 capture, 7 loaf). -/
def Notice.classBit : Notice → Nat
  | .lineState _ _ _ => 0
  | .stopCause _ _ => 0
  | .productActive _ _ _ => 0
  | .queueOverrun _ _ _ => 0
  | .watchFired _ _ _ => 1
  | .captureFull _ => 6
  | .plannerFull _ _ => 4
  | .bladeWear _ _ _ => 4
  | .magazineLow _ _ => 3
  | .tieMismatch _ _ _ _ _ => 3
  | .signatureLearned _ _ _ _ => 3
  | .purgeDone _ _ _ _ => 2
  | .purgeNoGap _ _ _ => 2
  | .purgeAborted _ _ _ _ => 2
  | .shiftClosed _ _ _ _ => 5
  | .loafReport _ => 7

/-- R177 on the queue: dropped if its class is disabled, lost at a full queue, otherwise at the tail. -/
def Notices.place (n : Notice) (q : Notices) : Notices :=
  if !q.enabled.getLsbD n.classBit then q
  else if q.queue.length < Limits.noticePlaces then { q with queue := q.queue ++ [n] }
  else { q with lost := true }

/-- A block places a notice (R177). -/
def State.notify (n : Notice) (s : State) : State := { s with notices := s.notices.place n }

/-! ### Shift totals (R162 to R168) -/

/-- R165: the held records of a product. -/
def State.inFlight (p : ProductIx) (s : State) : Nat := s.held.countP (fun r => decide (r.product = p))

/-- R168: the shift number after this one. -/
def nextShift (n : Nat) : Nat := if n < Limits.numberMax then n + 1 else 1

/-- R166, steps 1 to 6: the close of a shift, requested or automatic. -/
def State.closeShift (automatic : Bool) (s : State) : State :=
  let carried : Vector Nat 16 := Vector.ofFn (fun p => s.inFlight p)
  let t := s.totals
  let totals : Totals :=
    { products := Vector.ofFn (fun p => { ProductTotals.zero with carriedIn := carried[p] })
      lanes := ⟨LaneTotals.zero, LaneTotals.zero⟩
      heads := ⟨HeadTotals.zero, HeadTotals.zero⟩
      shift := nextShift t.shift
      snapshot := some ⟨t.shift, t.products, carried, t.lanes, t.heads, automatic⟩ }
  { s with totals := totals }.notify (.shiftClosed t.shift (nextShift t.shift) s.held.length automatic)

/-- R164: a count of loaves in or out. Where a figure it raises stands at its limit the shift is first closed within the
event, so that the count falls in the new shift. -/
def State.countLoaf (p : ProductIx) (atLimit : ProductTotals → Bool) (bump : ProductTotals → ProductTotals) (s : State) : State :=
  (if atLimit s.totals.products[p] then s.closeShift true else s).modProductTotals p bump

/-- The figure stands at its limit (R164). -/
def full32 (n : Nat) : Bool := decide (Limits.max32 ≤ n)

/-- R27 step 3: admitted rises by one. -/
def State.countAdmitted (p : ProductIx) (s : State) : State :=
  s.countLoaf p (fun t => full32 t.admitted) (fun t => { t with admitted := t.admitted + 1 })

/-- R162: marked is counted beside the removal of a marked record. -/
def ProductTotals.countMarked (marked : Bool) (t : ProductTotals) : ProductTotals :=
  if marked then { t with marked := satAdd Limits.max32 t.marked 1 } else t

/-- The rejected figure of a reason (R162). -/
def ProductTotals.rejected (t : ProductTotals) : Reason → Nat
  | .watch => t.rejWatch
  | .noPlan => t.rejNoPlan
  | .latePlan => t.rejLatePlan
  | .noSpan => t.rejNoSpan
  | .miscut => t.rejMiscut
  | .untied => t.rejUntied

/-- The rejected figure of a reason raised by one. -/
def ProductTotals.bumpRejected (t : ProductTotals) : Reason → ProductTotals
  | .watch => { t with rejWatch := t.rejWatch + 1 }
  | .noPlan => { t with rejNoPlan := t.rejNoPlan + 1 }
  | .latePlan => { t with rejLatePlan := t.rejLatePlan + 1 }
  | .noSpan => { t with rejNoSpan := t.rejNoSpan + 1 }
  | .miscut => { t with rejMiscut := t.rejMiscut + 1 }
  | .untied => { t with rejUntied := t.rejUntied + 1 }

/-- R32 step 3, R105 step 2: a removal counted rejected, and marked if it is marked. -/
def State.countRejected (r : LoafRecord) (reason : Reason) (s : State) : State :=
  s.countLoaf r.product (fun t => full32 (t.rejected reason)) (fun t => (t.bumpRejected reason).countMarked r.marked)

/-- R39, R111: a removal counted cleared, and marked if it is marked. -/
def State.countCleared (r : LoafRecord) (s : State) : State :=
  s.countLoaf r.product (fun t => full32 t.cleared) (fun t => { t with cleared := t.cleared + 1 }.countMarked r.marked)

/-- R162: the loaf's plan outcome is NO_SPAN, so it is bagged whole. -/
def LoafRecord.whole (r : LoafRecord) : Bool := decide (r.plan.map Plan.outcome = some .noSpan)

/-- R162: the loaf's tie result is UNCHECKED. -/
def LoafRecord.tiedUnchecked (r : LoafRecord) : Bool := decide (r.tie = some .unchecked)

/-- R105 step 2, R162: a removal counted bagged, with its parts, and marked if it is marked. -/
def State.countBagged (r : LoafRecord) (s : State) : State :=
  s.countLoaf r.product
    (fun t => full32 t.bagged || (r.whole && full32 t.baggedWhole) || (r.tiedUnchecked && full32 t.baggedUnchecked))
    (fun t =>
      { t with bagged := t.bagged + 1
               baggedWhole := t.baggedWhole + (if r.whole then 1 else 0)
               baggedUnchecked := t.baggedUnchecked + (if r.tiedUnchecked then 1 else 0) }.countMarked r.marked)

/-- R180: the loaf report of a removal, as the loaf-report mode requires. -/
def State.report (r : LoafRecord) (by' : LeftBy) (head : Option Head) (tie : Option TieResult) (s : State) : State :=
  let n := Notice.loafReport ⟨r.number, r.lane, r.product, r.flags, r.marked, r.disposition, by', head, tie⟩
  match s.notices.reports with
  | .off => s
  | .every => s.notify n
  | .once => { s.notify n with notices := { (s.notify n).notices with reports := .off } }

end Sys2Proof.Machine
end

