-- ==== Sys2Proof/Machine/Operands.lean ====
section
/-! DEFINITION. The value codes of section 11.6: reading a coded operand of a request, and coding a value for a reply. -/

namespace Sys2Proof.Machine

/-! ### Reading operands -/

/-- A number below `n` as an index. -/
def finOf (n : Nat) (k : Nat) : Option (Fin n) := if h : k < n then some ⟨k, h⟩ else none

def laneOf (b : Byte) : Option Lane :=
  if b = 0 then some .a else if b = 1 then some .b else none

def headOf (b : Byte) : Option Head :=
  if b = 1 then some .one else if b = 2 then some .two else none

def productOf (b : Byte) : Option ProductIx := finOf 16 b.toNat

/-- A product index or NONE (FFh). -/
def productOrNoneOf (b : Byte) : Option (Option ProductIx) :=
  if b = 0xFF then some none else (productOf b).map some

def sourceOf (b : Byte) : Option Source :=
  if b = 0 then some .none else if b = 1 then some .a else if b = 2 then some .b else if b = 3 then some .both else none

def boolOf (b : Byte) : Option Bool :=
  if b = 0 then some false else if b = 1 then some true else none

def laneSelectOf (b : Byte) : Option LaneSelect :=
  if b = 0 then some .a else if b = 1 then some .b else if b = 2 then some .either else none

def testModeOf (b : Byte) : Option TestMode :=
  if b = 0 then some .off else if b = 1 then some .below else if b = 2 then some .inside else if b = 3 then some .outside
  else none

def combineOf (b : Byte) : Option Combine :=
  if b = 0 then some .all else if b = 1 then some .any else none

def crumbModeOf (b : Byte) : Option CrumbMode :=
  if b = 0 then some .disabled else if b = 1 then some .auto else if b = 2 then some .commanded
  else if b = 3 then some .manual else none

def reportModeOf (b : Byte) : Option ReportMode :=
  if b = 0 then some .off else if b = 1 then some .every else if b = 2 then some .once else none

/-- A number within a range. -/
def inRange (low high n : Nat) : Bool := decide (low ≤ n) && decide (n ≤ high)

/-- A character A to Z or 0 to 9 (R13). -/
def codeChar (b : Byte) : Bool := inRange 0x41 0x5A b.toNat || inRange 0x30 0x39 b.toNat

/-! ### Coding values -/

def Lane.code : Lane → Byte
  | .a => 0
  | .b => 1

def Head.code : Head → Byte
  | .one => 1
  | .two => 2

/-- A head, 0 for none. -/
def headCode : Option Head → Byte
  | none => 0
  | some h => Head.code h

/-- A product index, FFh for NONE. -/
def productCode : Option ProductIx → Byte
  | none => 0xFF
  | some p => BitVec.ofNat 8 p.val

/-- A pending product: FEh absent, FFh NONE. -/
def pendingProductCode : Option (Option ProductIx) → Byte
  | none => 0xFE
  | some p => productCode p

def Stage.code : Stage → Byte
  | .gauged => 0
  | .planWait => 1
  | .planned => 2
  | .slicing => 3
  | .sliced => 4
  | .waiting => 5
  | .atHead => 6

def PlanOutcome.code : PlanOutcome → Byte
  | .even => 0
  | .heelLong => 1
  | .heelShort => 2
  | .noSpan => 3
  | .noPlan => 4
  | .latePlan => 5

def dispositionCode : Option Reason → Byte
  | none => 0
  | some .watch => 1
  | some .noPlan => 2
  | some .latePlan => 3
  | some .noSpan => 4
  | some .miscut => 5
  | some .untied => 6

def tieResultCode : Option TieResult → Byte
  | none => 0
  | some .good => 1
  | some .unchecked => 2
  | some .mismatch => 3
  | some .noClip => 4

def HeadStep.code : HeadStep → Byte
  | .idle => 0
  | .opening => 1
  | .loading => 2
  | .gathering => 3
  | .tying => 4
  | .discharging => 5
  | .bagOut => 6

def LineState.code : LineState → Byte
  | .stopped => 0
  | .running => 1
  | .draining => 2
  | .halted => 3

def Source.code : Source → Byte
  | .none => 0
  | .a => 1
  | .b => 2
  | .both => 3

/-- A pending source: FEh absent. -/
def pendingSourceCode : Option Source → Byte
  | none => 0xFE
  | some x => Source.code x

def ReportMode.code : ReportMode → Byte
  | .off => 0
  | .every => 1
  | .once => 2

def LaneSelect.code : LaneSelect → Byte
  | .a => 0
  | .b => 1
  | .either => 2

def TestMode.code : TestMode → Byte
  | .off => 0
  | .below => 1
  | .inside => 2
  | .outside => 3

def Combine.code : Combine → Byte
  | .all => 0
  | .any => 1

def Blade.code : Blade → Byte
  | .home => 0
  | .stroking _ => 1
  | .homing _ => 2

def Learn.code : Learn → Byte
  | .none => 0
  | .armed => 1
  | .bound _ => 2

/-- The product a learn is bound to, FFh unless bound. -/
def Learn.boundCode : Learn → Byte
  | .none => 0xFF
  | .armed => 0xFF
  | .bound p => productCode (some p)

def CrumbMode.code : CrumbMode → Byte
  | .disabled => 0
  | .auto => 1
  | .commanded => 2
  | .manual => 3

def CrumbStep.code : CrumbStep → Byte
  | .disabled => 0
  | .watching => 1
  | .gapWait => 2
  | .purging => 3
  | .settling => 4

/-- Grant holder and waiting request: FFh none. -/
def grantCode : Option Lane → Byte
  | none => 0xFF
  | some l => Lane.code l

def PurgeEnd.code : PurgeEnd → Byte
  | .fullTime => 0
  | .purgeStop => 1
  | .leadingEdge => 2

def LeftBy.code : LeftBy → Byte
  | .rejectGate => 0
  | .head => 1
  | .lineClear => 2

/-- Yes or no, present or absent, set or clear, asserted or not. -/
def boolCode (b : Bool) : Byte := if b then 1 else 0

/-- A stop cause's code is its priority number (section 11.6). -/
def Cause.priority : Cause → Nat
  | .eStop => 1
  | .guardOpen _ => 2
  | .repeatFault => 3
  | .slicerJam _ => 4
  | .headJam _ _ => 5
  | .bagEmpty _ => 6
  | .commandHalt => 7
  | .clipEmpty _ => 8
  | .tieFault _ => 9
  | .watchStop _ => 10
  | .commandStop => 11

/-- The code of a latched cause, 0 for none. -/
def latchedCode : Option Cause → Byte
  | none => 0
  | some c => BitVec.ofNat 8 c.priority

/-- The ms left of a timer, FFFFh when stopped or closed. -/
def timerCode : Option Nat → List Byte
  | none => [0xFF, 0xFF]
  | some n => beBytes 2 n

end Sys2Proof.Machine
end

