-- ==== Sys2Proof/Machine/Flags.lean ====
section
/-! DEFINITION. The bit sets of section 11.6 and the summary byte of R176. -/

namespace Sys2Proof.Machine

/-- A bit's value. -/
def bit (k : Nat) (b : Bool) : Nat := if b then 2 ^ k else 0

/-- Flags: bit 0 CLOSE_GAP, 1 OVERLONG, 2 LATE_CUT, 3 MISCUT, 4 UNCHECKED_TIE. -/
def LoafFlags.byte (f : LoafFlags) : Byte :=
  BitVec.ofNat 8 (bit 0 f.closeGap + bit 1 f.overlong + bit 2 f.lateCut + bit 3 f.miscut + bit 4 f.uncheckedTie)

/-- Four places: bits 0 to 3 (guards, watch entries, watch hits). -/
def fourBits (v : Vector Bool 4) : Byte := BitVec.ofNat 8 (bit 0 v[0] + bit 1 v[1] + bit 2 v[2] + bit 3 v[3])

/-- Lanes as places: bit 0 A, 1 B. -/
def laneBits (p : PerLane Bool) : Byte := BitVec.ofNat 8 (bit 0 p.a + bit 1 p.b)

/-- Heads as places: bit 0 head 1, 1 head 2. -/
def headBits (p : PerHead Bool) : Byte := BitVec.ofNat 8 (bit 0 p.one + bit 1 p.two)

/-- One lane alone. -/
def onlyLane (l : Lane) : PerLane Bool := PerLane.set ⟨false, false⟩ l true

/-- One head alone. -/
def onlyHead (h : Head) : PerHead Bool := PerHead.set ⟨false, false⟩ h true

/-- One place of four alone. -/
def onlyFour (i : Fin 4) : Vector Bool 4 := (Vector.replicate 4 false).set i true

/-- HEAD_JAM states: head 1 in the low four bits, head 2 in the high four (section 11.6). DESIGN CHOICE (entry 41): the four bits
of a head that has not jammed are 0. -/
def jamStates (p : PerHead (Option HeadStep)) : Byte :=
  BitVec.ofNat 8 (((p.one.map fun x => (HeadStep.code x).toNat).getD 0) + 16 * ((p.two.map fun x => (HeadStep.code x).toNat).getD 0))

/-- Head completion inputs: bit 0 bag-open, 1 loaf-in, 2 gather-done, 3 discharge-clear. -/
def HeadInputs.byte (i : HeadInputs) : Byte :=
  BitVec.ofNat 8 (bit 0 i.bagOpen + bit 1 i.loafIn + bit 2 i.gatherDone + bit 3 i.dischargeClear)

/-- Tier inputs: bit 0 wire feed, 1 jaw closed, 2 twist, 3 cut, 4 cycle-complete. -/
def TierInputs.byte (i : TierInputs) : Byte := BitVec.ofNat 8 (i.lines.toNat + bit 4 i.cycleComplete)

/-- Infeed-hold sources: bits 0 line, 1 product, 2 fill, 3 lane hold, 4 crumb. -/
def HoldSources.byte (h : HoldSources) : Byte :=
  BitVec.ofNat 8 (bit 0 h.line + bit 1 h.product + bit 2 h.fill + bit 3 h.laneHold + bit 4 h.crumb)

/-- Required flags: bit 0 CLOSE_GAP, 1 OVERLONG. -/
def WatchEntry.requiredByte (e : WatchEntry) : Byte := BitVec.ofNat 8 (bit 0 e.needCloseGap + bit 1 e.needOverlong)

/-- Outcome set: bit n for the outcome with code n. -/
def OutcomeSet.byte (o : OutcomeSet) : Byte :=
  BitVec.ofNat 8 (bit 0 o.even + bit 1 o.heelLong + bit 2 o.heelShort + bit 3 o.noSpan + bit 4 o.noPlan + bit 5 o.latePlan)

/-- Watch actions: bit 0 REJECT, 1 MARK, 2 STOP, 3 CAPTURE_START, 4 CAPTURE_STOP. -/
def Actions.byte (a : Actions) : Byte :=
  BitVec.ofNat 8 (bit 0 a.reject + bit 1 a.mark + bit 2 a.stop + bit 3 a.captureStart + bit 4 a.captureStop)

/-- The outcome set of a byte with no bit outside 0..5. -/
def outcomesOf (b : Byte) : Option OutcomeSet :=
  if b.toNat < 64 then
    some ⟨b.getLsbD 0, b.getLsbD 1, b.getLsbD 2, b.getLsbD 3, b.getLsbD 4, b.getLsbD 5⟩
  else none

/-- The action set of a byte with no bit outside 0..4. -/
def actionsOf (b : Byte) : Option Actions :=
  if b.toNat < 32 then some ⟨b.getLsbD 0, b.getLsbD 1, b.getLsbD 2, b.getLsbD 3, b.getLsbD 4⟩ else none

/-- R176: bits 1-0 the line state, 2 notices waiting, 3 notice lost, 4 link overrun. -/
def State.summaryByte (s : State) : Byte :=
  BitVec.ofNat 8 ((LineState.code s.line.state).toNat + bit 2 (!s.notices.queue.isEmpty) + bit 3 s.notices.lost + bit 4 s.link.overrun)

end Sys2Proof.Machine
end

