-- ==== Sys2Proof/Machine/Wire.lean ====
section
/-! DEFINITION. The blocks of reply data and the notice record (R182 and section 11.6), as bytes. -/

namespace Sys2Proof.Machine

/-! ### Causes -/

/-- A cause block: code, places, HEAD_JAM states. -/
def causeBlockOf (code : Nat) (places jams : Byte) : List Byte := [BitVec.ofNat 8 code, places, jams]

/-- The cause block of one raise. DESIGN CHOICE (entry 41): the HEAD_JAM states of another cause are 0. DEDUCED (entry 41): the
places of a cause without detail are 0, the empty set (R147). -/
def Cause.block (c : Cause) : List Byte :=
  match c with
  | .eStop => causeBlockOf c.priority 0 0
  | .guardOpen g => causeBlockOf c.priority (fourBits (onlyFour g)) 0
  | .repeatFault => causeBlockOf c.priority 0 0
  | .slicerJam l => causeBlockOf c.priority (laneBits (onlyLane l)) 0
  | .headJam h st => causeBlockOf c.priority (headBits (onlyHead h)) (jamStates (PerHead.set ⟨none, none⟩ h (some st)))
  | .bagEmpty h => causeBlockOf c.priority (headBits (onlyHead h)) 0
  | .commandHalt => causeBlockOf c.priority 0 0
  | .clipEmpty h => causeBlockOf c.priority (headBits (onlyHead h)) 0
  | .tieFault h => causeBlockOf c.priority (headBits (onlyHead h)) 0
  | .watchStop e => causeBlockOf c.priority (fourBits (onlyFour e)) 0
  | .commandStop => causeBlockOf c.priority 0 0

/-- The latched cause's block; three zero bytes for none. -/
def latchedBlock : Option Cause → List Byte
  | none => [0, 0, 0]
  | some c => c.block

/-- The present causes with their details, highest priority first (R147, R150). The bytes that the manual leaves open are 0, as in
`Cause.block` (entry 41), and the detail of a level cause is read from its condition (entry 10). -/
def State.presentBlocks (s : State) : List (List Byte) :=
  let c := s.line.causes
  let clip : PerHead Bool := ⟨s.clipEmptyAt .one, s.clipEmptyAt .two⟩
  (if s.eStopPresent then [causeBlockOf 1 0 0] else []) ++
  (if s.guardOpenPresent then [causeBlockOf 2 (fourBits s.inputs.guards) 0] else []) ++
  (if c.repeatFault then [causeBlockOf 3 0 0] else []) ++
  (if c.slicerJam.a || c.slicerJam.b then [causeBlockOf 4 (laneBits c.slicerJam) 0] else []) ++
  (if c.headJam.one.isSome || c.headJam.two.isSome then
    [causeBlockOf 5 (headBits ⟨c.headJam.one.isSome, c.headJam.two.isSome⟩) (jamStates c.headJam)] else []) ++
  (if c.bagEmpty.one || c.bagEmpty.two then [causeBlockOf 6 (headBits c.bagEmpty) 0] else []) ++
  (if c.commandHalt then [causeBlockOf 7 0 0] else []) ++
  (if s.clipEmptyPresent then [causeBlockOf 8 (headBits clip) 0] else []) ++
  (if c.tieFault.one || c.tieFault.two then [causeBlockOf 9 (headBits c.tieFault) 0] else []) ++
  (if c.watchStop.toList.any id then [causeBlockOf 10 (fourBits c.watchStop) 0] else []) ++
  (if c.commandStop then [causeBlockOf 11 0 0] else [])

/-- The cause list: a count, then one block for each present cause. -/
def State.causeList (s : State) : List Byte := BitVec.ofNat 8 s.presentBlocks.length :: s.presentBlocks.flatten

/-! ### Notices -/

/-- The code and data of a notice, before padding. -/
def Notice.data : Notice → List Byte
  | .lineState left entered latched => [0x01, LineState.code left, LineState.code entered, latchedCode latched]
  | .stopCause c st => 0x02 :: (c.block ++ [LineState.code st])
  | .productActive l before after => [0x03, Lane.code l, productCode before, productCode after]
  | .queueOverrun l lead span => 0x04 :: Lane.code l :: (beBytes 4 lead.toNat ++ beBytes 4 span.toNat)
  | .watchFired e n l => 0x05 :: BitVec.ofNat 8 e.val :: (beBytes 2 n ++ [Lane.code l])
  | .captureFull n => 0x06 :: beBytes 2 n
  | .plannerFull l n => 0x07 :: Lane.code l :: beBytes 2 n
  | .bladeWear l n r => 0x08 :: Lane.code l :: (beBytes 3 n ++ beBytes 1 r)
  | .magazineLow h n => 0x09 :: Head.code h :: beBytes 2 n
  | .tieMismatch h n p found expected =>
    0x0A :: Head.code h :: (beBytes 2 n ++ [productCode (some p)] ++ beBytes 2 found.toNat ++ beBytes 2 expected.toNat)
  | .signatureLearned h n p sig => 0x0B :: Head.code h :: (beBytes 2 n ++ [productCode (some p)] ++ beBytes 2 sig.toNat)
  | .purgeDone l load count ended => 0x0C :: Lane.code l :: (beBytes 3 load ++ beBytes 1 count ++ [PurgeEnd.code ended])
  | .purgeNoGap l load held => 0x0D :: Lane.code l :: (beBytes 3 load ++ [boolCode held])
  | .purgeAborted l step load byClear => 0x0E :: Lane.code l :: CrumbStep.code step :: (beBytes 3 load ++ [boolCode byClear])
  | .shiftClosed closed new carried automatic =>
    0x0F :: (beBytes 2 closed ++ beBytes 2 new ++ beBytes 1 carried ++ [boolCode automatic])
  | .loafReport r =>
    0x10 :: (beBytes 2 r.number ++ [Lane.code r.lane, productCode (some r.product), r.flags.byte, boolCode r.marked,
      dispositionCode r.disposition, LeftBy.code r.leftBy, headCode r.head, tieResultCode r.tie])

/-- The 16-byte notice record: code and data, then zeros. -/
def Notice.record (n : Notice) : List Byte := n.data ++ List.replicate (16 - n.data.length) 0

/-! ### Products -/

/-- The product report of 20 bytes; for an EMPTY entry every byte after the state is 0. DESIGN CHOICE (entry 37): a DEFINED
entry without an expected signature carries 0000h in the two signature bytes. -/
def State.productReport (p : ProductIx) (s : State) : List Byte :=
  match s.products[p] with
  | none => List.replicate 20 0
  | some e =>
    [1] ++ beBytes 2 e.article ++ beBytes 2 e.tNom ++ beBytes 2 e.tMin ++ beBytes 2 e.tMax ++ beBytes 2 e.heel ++
    beBytes 1 e.kerf ++ beBytes 1 e.nMax ++ beBytes 1 e.crumbFactor ++ [boolCode e.wholeOk] ++ beBytes 1 e.shelfClass.val ++
    [boolCode e.signature.isSome] ++ halfBytes (e.signature.getD 0) ++ [boolCode (s.inUse p)]

/-- The eight day codes in index order. -/
def State.dayCodeBytes (s : State) : List Byte := (s.dayCodes.toList.map fun d => [d.c1, d.c2, d.c3]).flatten

/-- The six geometry settings. -/
def Geometry.bytes (g : Geometry) : List Byte :=
  beBytes 2 g.dBlade ++ beBytes 2 g.dReject ++ beBytes 2 g.dRouter ++ beBytes 2 g.minGap ++ beBytes 2 g.debrisLen ++
  beBytes 2 g.beamPitch

/-! ### Loaf records and plans -/

/-- The 20-byte record of READ QUEUE. -/
def LoafRecord.bytes (r : LoafRecord) : List Byte :=
  beBytes 2 r.number ++ [productCode (some r.product)] ++ beBytes 4 r.lead.toNat ++ beBytes 2 r.length ++ beBytes 2 r.height ++
  beBytes 2 r.gapBefore ++ [r.flags.byte, Stage.code r.stage] ++
  [match r.plan with
    | none => 0xFF
    | some p => PlanOutcome.code p.outcome] ++
  [match r.plan with
    | none => 0xFF
    | some p => BitVec.ofNat 8 p.slices] ++
  beBytes 1 r.cutsDone ++ [dispositionCode r.disposition, boolCode r.marked]

/-- The loaf block of 24 bytes. -/
def LoafRecord.block (r : LoafRecord) : List Byte :=
  r.bytes ++ [Lane.code r.lane, headCode r.head, tieResultCode r.tie, fourBits r.hits]

/-- The plan block: 16 bytes and two per cut position. -/
def Plan.block (p : Plan) : List Byte :=
  [PlanOutcome.code p.outcome] ++ beBytes 1 p.slices ++ beBytes 3 p.pitch ++ beBytes 3 p.thickness ++ beBytes 2 p.trailingHeel ++
  beBytes 2 p.crumbPerCut ++ beBytes 2 p.wearTerm ++ [BitVec.ofNat 8 (bit 0 p.wearClamped + bit 1 p.crumbClamped)] ++
  beBytes 1 p.cuts.length ++ (p.cuts.map (beBytes 2)).flatten

/-- The lane header of 17 bytes (section 11.6). -/
def State.laneHeader (l : Lane) (s : State) : List Byte :=
  let q := s.lanes.get l
  beBytes 4 q.position.toNat ++ beBytes 1 q.queue.length ++
  (match q.window with
    | .clear => 0 :: (beBytes 4 0 ++ [0xFF])
    | .span lead _ p => 1 :: (beBytes 4 lead.toNat ++ [productCode p])
    | .void => 2 :: (beBytes 4 0 ++ [0xFF])) ++
  beBytes 1 (q.queue.countP (fun r => decide (r.stage = .waiting))) ++ beBytes 2 (q.gateHeld.getD 0) ++
  [boolCode (s.laneHold l), (s.holdSources l).byte, boolCode q.holdInEffect]

/-! ### Watch -/

/-- The entry block of 23 bytes. -/
def WatchEntry.block (n : Nat) (e : WatchEntry) : List Byte :=
  beBytes 1 n ++ [boolCode e.enable] ++ beBytes 1 e.productValue.toNat ++ beBytes 1 e.productMask.toNat ++
  [LaneSelect.code e.laneSelect, TestMode.code e.lengthMode] ++ beBytes 2 e.lengthLow ++ beBytes 2 e.lengthHigh ++
  [TestMode.code e.heightMode] ++ beBytes 2 e.heightLow ++ beBytes 2 e.heightHigh ++
  [e.requiredByte, e.outcomes.byte, Combine.code e.combine, boolCode e.chained] ++ beBytes 1 e.armWindow ++ [e.actions.byte] ++
  beBytes 2 e.fireCount

/-- The second entry of a pair: 1 of pair 0-1, 3 of pair 2-3. -/
def secondEntry (pair : Fin 2) : Fin 4 := if pair = 0 then 1 else 3

/-- The chain block of three bytes. -/
def Watch.chainBlock (pair : Fin 2) (w : Watch) : List Byte :=
  [boolCode w.entries[secondEntry pair].chained, boolCode w.chains[pair].isSome] ++ beBytes 1 (w.chains[pair].getD 0)

/-- A capture summary of 19 bytes. -/
def Summary.bytes (c : Summary) : List Byte :=
  beBytes 2 c.number ++ [Lane.code c.lane, productCode (some c.product)] ++ beBytes 2 c.length ++ beBytes 2 c.height ++
  beBytes 2 c.gapBefore ++ [c.flags.byte, PlanOutcome.code c.outcome] ++ beBytes 1 c.slices ++ beBytes 3 c.thickness ++
  [dispositionCode c.disposition, boolCode c.marked, fourBits c.hits]

/-! ### Totals -/

/-- A product block of 58 bytes; the last byte is in_flight or carried_out. -/
def ProductTotals.block (index last : Nat) (t : ProductTotals) : List Byte :=
  beBytes 1 index ++
  (([t.admitted, t.carriedIn, t.bagged, t.baggedWhole, t.baggedUnchecked, t.rejWatch, t.rejNoPlan, t.rejLatePlan, t.rejNoSpan,
    t.rejMiscut, t.rejUntied, t.cleared, t.marked, t.slices]).map (beBytes 4)).flatten ++
  beBytes 1 last

/-- A lane block of 18 bytes. -/
def LaneTotals.block (t : LaneTotals) : List Byte :=
  beBytes 4 t.debris ++ beBytes 4 t.purges ++ beBytes 6 t.crumb ++ beBytes 4 t.lateCuts

/-- A head block of 24 bytes. -/
def HeadTotals.block (t : HeadTotals) : List Byte :=
  beBytes 4 t.good ++ beBytes 4 t.unchecked ++ beBytes 4 t.mismatch ++ beBytes 4 t.noClip ++ beBytes 4 t.clipsUsed ++
  beBytes 4 t.bagMisses

/-- The product indices of one totals reply: up to four, from the first upward to 15 (R169). -/
def fourFrom (first : ProductIx) : List ProductIx :=
  (List.finRange 16).filter (fun p => decide (first.val ≤ p.val) && decide (p.val < first.val + 4))

end Sys2Proof.Machine
end

