-- ==== Sys2Proof/Machine/Blade.lean ====
section
/-! DEFINITION. The shared operations of a Slicer Station (R62 to R72). -/

namespace Sys2Proof.Machine

/-- The loaf whose cut is being made. -/
def Blade.strokeLoaf : Blade → Option Nat
  | .stroking c => some c.loaf
  | .home => none
  | .homing _ => none

/-- R67: none of the loaf's cuts is scheduled, pending or being made. -/
def Slicer.doneWith (n : Nat) (sl : Slicer) : Bool :=
  sl.schedule.all (fun e => e.loaf != n) && decide (sl.pending.map Cut.loaf ≠ some n) && decide (sl.blade.strokeLoaf ≠ some n)

/-- The stage after R67. -/
def LoafRecord.becomeSliced (r : LoafRecord) : LoafRecord :=
  match r.stage with
  | .planned | .slicing => { r with stage := .sliced }
  | .gauged | .planWait | .sliced | .waiting | .atHead => r

/-- R67: a PLANNED or SLICING record becomes SLICED once the station is done with its cuts. -/
def State.trySliced (l : Lane) (n : Nat) (s : State) : State :=
  if (s.slicers.get l).doneWith n then s.updateRecord n LoafRecord.becomeSliced else s

/-- An entry leaves the schedule from wherever it stands (R62). -/
def Slicer.unschedule (n : Nat) (sl : Slicer) : Slicer := { sl with schedule := sl.schedule.filter (fun e => e.loaf != n) }

/-- R68 step 3: every remaining cut of a loaf is abandoned; the record is MISCUT and rejected. -/
def State.abandonLoaf (l : Lane) (n : Nat) (s : State) : State :=
  ((s.modSlicer l (Slicer.unschedule n)).updateRecord n LoafRecord.miscut).trySliced l n

/-- R69: cuts not yet begun are given up; a stroke in progress is not touched. -/
def Slicer.dropCuts (n : Nat) (sl : Slicer) : Slicer :=
  { sl.unschedule n with pending := if sl.pending.map Cut.loaf = some n then none else sl.pending }

/-- R69: the station holds a cut of the loaf that has not begun. -/
def Slicer.hasCutsLeft (n : Nat) (sl : Slicer) : Bool :=
  sl.schedule.any (fun e => e.loaf == n) || decide (sl.pending.map Cut.loaf = some n)

/-- R64: a PLANNED record becomes SLICING at its first stroke. -/
def LoafRecord.becomeSlicing (r : LoafRecord) : LoafRecord :=
  match r.stage with
  | .planned => { r with stage := .slicing }
  | .gauged | .planWait | .slicing | .sliced | .waiting | .atHead => r

/-- R64: the cut's stroke starts. -/
def State.startStroke (l : Lane) (c : Cut) (s : State) : State :=
  (s.modSlicer l fun sl => { sl with blade := .stroking c, timer := some Limits.strokeMs }).updateRecord c.loaf LoafRecord.becomeSlicing

/-- R66 step 5, R71: the freed blade serves the pending cut at once, or is HOME. -/
def State.freeBlade (l : Lane) (s : State) : State :=
  match (s.slicers.get l).pending with
  | some c => (s.modSlicer l fun sl => { sl with pending := none }).startStroke l c
  | none => s.modSlicer l fun sl => { sl with blade := .home, timer := none }

/-- R71: a homing move starts for a HOMING blade, or is complete at once when blade-home is asserted. -/
def State.startHoming (l : Lane) (s : State) : State :=
  match (s.slicers.get l).blade with
  | .homing _ =>
    if s.inputs.bladeHome.get l then s.freeBlade l
    else s.modSlicer l fun sl => { sl with blade := .homing true, timer := some Limits.strokeMs }
  | .home => s
  | .stroking _ => s

/-- The loaves that own the stroke in progress and the pending cut. -/
def Slicer.owners (sl : Slicer) : List Nat := sl.blade.strokeLoaf.toList ++ (sl.pending.map Cut.loaf).toList

/-- The blade after a stroke or homing move is abandoned: HOMING without a move, unless it was HOME. -/
def Blade.abandoned : Blade → Blade
  | .home => .home
  | .stroking _ => .homing false
  | .homing _ => .homing false

/-- R68 steps 1 to 4, R70, R71 (homing timeout): the stroke or move and the pending cut are abandoned, with every remaining
cut of the loaves that owned them. -/
def State.abandonStroke (l : Lane) (s : State) : State :=
  (s.slicers.get l).owners.foldl (fun t n => t.abandonLoaf l n)
    (s.modSlicer l fun sl => { sl with blade := sl.blade.abandoned, pending := none, timer := none })

/-- R72: a slicer station at a line clear. -/
def Slicer.cleared (sl : Slicer) : Slicer :=
  { sl with schedule := [], pending := none, timer := none, blade := sl.blade.abandoned }

end Sys2Proof.Machine
end

