-- ==== Sys2Proof/Machine/Purge.lean ====
section
/-! DEFINITION. The shared operations of the Crumb Controllers and the Air Arbiter (R130 to R145). -/

namespace Sys2Proof.Machine

/-- R130: at each change of the current state the last state becomes the state left. -/
def Crumb.goTo (step : CrumbStep) (c : Crumb) : Crumb := if c.step = step then c else { c with step := step, last := c.step }

/-- GAP_WAIT, PURGING or SETTLING. -/
def CrumbStep.inCycle : CrumbStep → Bool
  | .gapWait | .purging | .settling => true
  | .disabled | .watching => false

/-- R140, request by a lane. -/
def Air.request (l : Lane) (a : Air) : Air :=
  match a.holder with
  | none => { a with holder := some l }
  | some h => if h = l then a else { a with waiting := some l }

/-- R140, release by the grant holder (the waiting lane is granted within the event) or withdrawal of the waiting request. -/
def Air.release (l : Lane) (a : Air) : Air :=
  if a.holder = some l then ⟨a.waiting, none⟩
  else if a.waiting = some l then { a with waiting := none }
  else a

/-- R135, steps 1 to 4; step 5 is taken at the end of the event (R136). -/
def State.enterGapWait (l : Lane) (s : State) : State :=
  { s.modCrumb l fun c => { c.goTo .gapWait with manual := false, phase := some Limits.gapWaitMs } with air := s.air.request l }

/-- R134: the AUTO start test. -/
def State.startTest (l : Lane) (s : State) : State :=
  let c := s.crumb.get l
  if c.mode = .auto ∧ c.step = .watching ∧ s.moving = true ∧ c.holdOff = none ∧
      (c.tHigh ≤ c.load ∨ (c.tLow ≤ c.load ∧ s.quiet l = true)) then s.enterGapWait l
  else s

/-- R136: a controller in GAP_WAIT that holds the grant on a quiet lane begins its purge. -/
def State.beginPurge (l : Lane) (s : State) : State :=
  if (s.crumb.get l).step = .gapWait ∧ s.air.holder = some l ∧ s.quiet l = true then
    s.modCrumb l fun c => { c.goTo .purging with phase := some c.purgeTime }
  else s

/-- R138: PURGING goes to SETTLING; the knives close and the settle time starts. -/
def State.settlePurge (l : Lane) (how : PurgeEnd) (s : State) : State :=
  s.modCrumb l fun c => { c.goTo .settling with phase := some c.settleTime, ended := how }

/-- The resting state of a controller: DISABLED in mode DISABLED, WATCHING otherwise. -/
def Crumb.rest (c : Crumb) : CrumbStep :=
  match c.mode with
  | .disabled => .disabled
  | .auto | .commanded | .manual => .watching

/-- R144, the steps of CRUMB RESET. -/
def State.resetCrumb (l : Lane) (s : State) : State :=
  { s.modCrumb l fun c => { c.goTo c.rest with phase := none, single := false, manual := false } with air := s.air.release l }

/-- R145: a controller in GAP_WAIT, PURGING or SETTLING is aborted, with its notice. -/
def State.abortPurge (byClear : Bool) (l : Lane) (s : State) : State :=
  let c := s.crumb.get l
  if c.step.inCycle then (s.resetCrumb l).notify (.purgeAborted l c.step c.load byClear) else s

end Sys2Proof.Machine
end

