-- ==== Sys2Proof/Machine/Stops.lean ====
section
/-! DEFINITION. Line Control's shared operations: raising a stop cause and what each raise does to the line (R149, R150,
R154, R158, R160), and the end of every event that moves loaves. -/

namespace Sys2Proof.Machine

/-- R147: each change of the line state places a LINE_STATE notice with the latched cause as it stands. -/
def State.setLine (st : LineState) (s : State) : State :=
  { s with line := { s.line with state := st } }.notify (.lineState s.line.state st s.line.latched)

/-- R148: the timed states of a head (R100). -/
def HeadStep.timed : HeadStep → Bool
  | .opening | .loading | .gathering | .tying | .discharging => true
  | .idle | .bagOut => false

/-- R109: a head takes the halt. -/
def HeadState.halted (h : HeadState) : HeadState :=
  if h.step.timed then { h with timer := none, feedPulse := none } else h

/-- R127: a tie in flight is marked interrupted. -/
def Tier.halted (t : Tier) : Tier := { t with tie := t.tie.map fun x => { x with interrupted := true } }

/-- R158: the entry into HALTED. -/
def State.enterHalted (s : State) : State :=
  let s := s.setLine .halted
  let s := { s with line := { s.line with window := none } }
  let s := (s.abandonStroke .a).abandonStroke .b
  { s with heads := ⟨s.heads.one.halted, s.heads.two.halted⟩, tiers := ⟨s.tiers.one.halted, s.tiers.two.halted⟩ }

/-- R160: the drain is complete when both lanes are empty and neither head holds a record. -/
def State.drained (s : State) : Bool :=
  s.laneEmpty .a && s.laneEmpty .b && s.heads.one.record.isNone && s.heads.two.record.isNone

/-- R150, R160: what the entry into STOPPED ends. -/
def EventCauses.atStopped (c : EventCauses) : EventCauses :=
  { c with tieFault := ⟨false, false⟩, watchStop := Vector.replicate 4 false, commandStop := false }

/-- R160: the test of a drain; where it finds the drain complete the line becomes STOPPED. -/
def State.drainTest (s : State) : State :=
  if s.line.state = .draining ∧ s.drained = true then
    let s := s.setLine .stopped
    { s with line := { s.line with causes := s.line.causes.atStopped, window := none } }
  else s

/-- R160: the entry into DRAINING, at which the drain is tested. -/
def State.enterDraining (s : State) : State := (s.setLine .draining).drainTest

/-- R149: immediate causes halt the line, pending causes drain it. -/
def Cause.immediate : Cause → Bool
  | .eStop | .guardOpen _ | .repeatFault | .slicerJam _ | .headJam _ _ | .bagEmpty _ | .commandHalt => true
  | .clipEmpty _ | .tieFault _ | .watchStop _ | .commandStop => false

/-- R147: an event cause becomes present with the place of the raise added to its detail; level causes follow their conditions. -/
def EventCauses.add (c : EventCauses) : Cause → EventCauses
  | .eStop => c
  | .guardOpen _ => c
  | .clipEmpty _ => c
  | .repeatFault => { c with repeatFault := true }
  | .slicerJam l => { c with slicerJam := c.slicerJam.set l true }
  | .headJam h st => { c with headJam := c.headJam.set h (some st) }
  | .bagEmpty h => { c with bagEmpty := c.bagEmpty.set h true }
  | .commandHalt => { c with commandHalt := true }
  | .tieFault h => { c with tieFault := c.tieFault.set h true }
  | .watchStop e => { c with watchStop := c.watchStop.set e true }
  | .commandStop => { c with commandStop := true }

/-- R149 step 1 with R150: raised in STOPPED, an event cause does not become present. -/
def State.makePresent (c : Cause) (s : State) : State :=
  if s.line.state = .stopped then s else { s with line := { s.line with causes := s.line.causes.add c } }

/-- R149 step 2: a higher priority takes the latch; an equal or lower one leaves it. -/
def latchOf (c : Cause) : Option Cause → Option Cause
  | none => some c
  | some old => if c.priority < old.priority then some c else some old

/-- R149 step 4: the change of the line state. -/
def State.stopLine (c : Cause) (s : State) : State :=
  if c.immediate then (if s.moving then s.enterHalted else s)
  else if s.line.state = .running then s.enterDraining else s

/-- R149: the raise of a stop cause, with the purge aborts of R145 after it. -/
def State.raise (c : Cause) (s : State) : State :=
  let s := s.makePresent c
  let s := { s with line := { s.line with latched := latchOf c s.line.latched } }
  let s := s.notify (.stopCause c s.line.state)
  let s := s.stopLine c
  if c.immediate then (s.abortPurge false .a).abortPurge false .b else s

/-- R154: a jam raised while the resume window is open raises REPEAT_FAULT next in the same event. -/
def State.raiseJam (c : Cause) (s : State) : State :=
  if s.line.window.isSome then (s.raise c).raise .repeatFault else s.raise c

/-! ### The end of an event -/

/-- R134: some record of the lane left the stages GAUGED to SLICING between two states. -/
def leftBlade (l : Lane) (before after : State) : Bool :=
  (before.lanes.get l).queue.any fun r =>
    r.stage.beforeBlade && !((after.lanes.get l).queue.any fun q => q.number == r.number && q.stage.beforeBlade)

/-- The lane's gauge closed its window between two states. -/
def windowClosed (l : Lane) (before after : State) : Bool :=
  (before.lanes.get l).window.isOpen && !(after.lanes.get l).window.isOpen

/-- R134: the event asks for the lane's start test, of its own or by what it did to the lane. -/
def State.testAtEnd (before : State) (asked : Option Lane) (after : State) (l : Lane) (s : State) : State :=
  if asked = some l ∨ leftBlade l before after = true ∨ windowClosed l before after = true then s.startTest l else s

/-- R134, R136: the start tests that what happened since `before` calls for, lane A first, then the purges that can begin.
`asked` is the lane whose start test the event itself asks for. -/
def State.purgeTests (before : State) (asked : Option Lane) (s : State) : State :=
  ((State.testAtEnd before asked s .b (State.testAtEnd before asked s .a s)).beginPurge .a).beginPurge .b

/-- The end of an event: start tests and purges that can now begin (R134, R136), the drain's test (R160) and the infeed holds
(R37). DESIGN CHOICE (entry 40): the holds are settled once, here, whatever sources came and went within the event. -/
def State.finish (before : State) (asked : Option Lane) (s : State) : State :=
  (((State.purgeTests before asked s).drainTest).settleHold .a).settleHold .b

end Sys2Proof.Machine
end

