-- ==== Sys2Proof/Machine/Bagging.lean ====
section
/-! DEFINITION. The shared operations of the Lane Router, the Bag Heads and the Clip Tiers (R95 to R128). -/

namespace Sys2Proof.Machine

/-! ### The CRC-16 of step bytes and frames (R122) -/

/-- One shift of the register: combined with 1021h if the place shifted out was 1. -/
def crcShift (r : BitVec 16) : BitVec 16 := if r.msb then (r <<< 1) ^^^ 0x1021#16 else r <<< 1

/-- One byte folded into the register: into the high eight places, then eight shifts. -/
def crcByte (r : BitVec 16) (b : Byte) : BitVec 16 :=
  crcShift (crcShift (crcShift (crcShift (crcShift (crcShift (crcShift (crcShift (r ^^^ (b.setWidth 16 <<< 8)))))))))

/-- The check of a sequence of bytes: the register starts at FFFFh, with no final inversion. -/
def crc16 (bytes : List Byte) : BitVec 16 := bytes.foldl crcByte 0xFFFF#16

/-! ### Heads: entering a step -/

/-- The timeout of a timed state (R112). -/
def Timeouts.of (t : Timeouts) : HeadStep → Option Nat
  | .opening => some t.opening
  | .loading => some t.loading
  | .gathering => some t.gathering
  | .tying => some t.tying
  | .discharging => some t.discharging
  | .idle => none
  | .bagOut => none

/-- A state entered, its timer started from the state's timeout. -/
def HeadState.enter (step : HeadStep) (h : HeadState) : HeadState := { h with step := step, timer := h.timeouts.of step }

/-- R101, R102, R110: OPENING with a new bag: a bag-feed pulse and the OPENING timeout. DESIGN CHOICE (entry 39): a pulse given
while an earlier one of the head still runs starts the 100 ms afresh, so the earlier pulse has no end of its own. -/
def HeadState.feedBag (h : HeadState) : HeadState := { h.enter .opening with feedPulse := some Limits.feedPulseMs }

/-- R101: the head reads the record's disposition at its release. -/
def HeadState.take (r : LoafRecord) (h : HeadState) : HeadState :=
  let h := { h with record := some { r with stage := .atHead } }
  if r.disposition.isSome then { h.enter .discharging with direct := true } else { h.feedBag with direct := false }

/-! ### Router -/

/-- R34: the gate-held record of a lane, if any, becomes WAITING and joins the waiting order; the lane hold is released. -/
def State.promote (l : Lane) (s : State) : State :=
  match (s.lanes.get l).gateHeld with
  | none => s
  | some g =>
    let s := s.modLane l fun q => { q with gateHeld := none }
    let s := s.updateRecord g fun r => { r with stage := .waiting }
    { s with router := { s.router with waitingOrder := s.router.waitingOrder ++ [(g, l)] } }

/-- R99: a release of a WAITING record to an IDLE head. -/
def State.releaseTo (h : Head) (n : Nat) (l : Lane) (s : State) : State :=
  match s.queued l n with
  | none => s
  | some r =>
    let s := { s with router := { s.router with waitingOrder := s.router.waitingOrder.filter (fun w => w.1 != n)
                                                idleOrder := s.router.idleOrder.filter (fun x => x != h) } }
    let s := (s.dequeue l n).promote l
    s.modHead h (HeadState.take { r with head := some h })

/-- R98: the record standing earliest in the waiting order whose lane the head's source admits is released to it. -/
def State.offerTo (s : State) (h : Head) : State :=
  match s.router.waitingOrder.find? (fun w => (s.router.active.get h).admits w.2) with
  | none => s
  | some w => s.releaseTo h w.1 w.2

/-- R98: an attempt takes the heads of the idle order one at a time, in RUNNING or DRAINING. -/
def State.attemptReleases (s : State) : State :=
  if s.moving then s.router.idleOrder.foldl State.offerTo s else s

/-- R96, R97: a source becomes a head's active source; given to a head whose magazine is 0, it raises CLIP_EMPTY (R156). -/
def State.giveSource (h : Head) (src : Source) (s : State) : State :=
  let s := { s with router := { s.router with active := s.router.active.set h src, pending := s.router.pending.set h none } }
  if s.clipEmptyAt h then s.raise (.clipEmpty h) else s

/-- R97: a pending source is applied at the head's IDLE event. -/
def State.applyPendingSource (h : Head) (s : State) : State :=
  match s.router.pending.get h with
  | none => s
  | some src => s.giveSource h src

/-- R105 step 4, R111: a head without its record goes IDLE and joins the tail of the idle order. DESIGN CHOICE (entry 36): a
bag-feed pulse still running runs on to its 100 ms; of the events of an IDLE head only a line clear ends it (State.clearHead). -/
def State.goIdle (h : Head) (s : State) : State :=
  let s := s.modHead h fun x => { x with step := .idle, record := none, direct := false, misses := 0, timer := none }
  { s with router := { s.router with idleOrder := s.router.idleOrder.filter (fun x => x != h) ++ [h] } }

/-! ### Clip tiers -/

/-- R119: the clip code formed at a tie start. -/
def State.clipCode (p : ProductIx) (s : State) : ClipCode :=
  let shelf : Fin 8 := match s.products[p] with
    | some e => e.shelfClass
    | none => 0
  { day := s.dayCodes[shelf], shift := BitVec.ofNat 8 (0x41 + (s.totals.shift - 1) % 26), line := s.lineId }

/-- R117 step 2: MAGAZINE_LOW at 50, and CLIP_EMPTY at 0 for a head with a source. -/
def State.magazineReport (h : Head) (s : State) : State :=
  let m := (s.tiers.get h).magazine
  if m = Limits.magazineLow then s.notify (.magazineLow h m)
  else if s.clipEmptyAt h then s.raise (.clipEmpty h) else s

/-- R117 steps 3 and 4: the product change sets the warm-up; an armed learn is bound where tie check is ON and warm-up is 0. -/
def Tier.meetProduct (p : ProductIx) (t : Tier) : Tier :=
  let t := if t.lastProduct = some p then t else { t with warmUp := Limits.warmUpTies, lastProduct := some p }
  if t.learn = .armed ∧ t.check = true ∧ t.warmUp = 0 then { t with learn := .bound p } else t

/-- R117 step 5: the code becomes the last clip code, and the print output sends it once, as one message. The output is given
only under the head enable (R114). -/
def Tier.print (enabled : Bool) (code : ClipCode) (t : Tier) : Tier :=
  { t with lastCode := some code, printed := if enabled then t.printed ++ [code] else t.printed }

/-- R117: the tie start. -/
def State.tieStart (h : Head) (r : LoafRecord) (s : State) : State :=
  let enabled := s.moving
  let s := s.modTier h fun t => { t with magazine := t.magazine - 1, used := t.used + 1 }
  let s := s.modHeadTotals h fun t => { t with clipsUsed := satAdd Limits.max32 t.clipsUsed 1 }
  let s := s.magazineReport h
  let s := s.modTier h (Tier.meetProduct r.product)
  let code := s.clipCode r.product
  s.modTier h fun t => { t.print enabled code with tie := some ⟨r.number, r.product, 0, 0xFFFF, false⟩ }

/-- R104: DISCHARGING entered from TYING. -/
def State.toDischarging (h : Head) (s : State) : State := s.modHead h (HeadState.enter .discharging)

/-- R116: the no-clip path. -/
def State.noClipPath (h : Head) (r : LoafRecord) (s : State) : State :=
  let s := s.updateRecord r.number fun x => LoafRecord.reject .untied { x with tie := some .noClip }
  let s := s.modHeadTotals h fun t => { t with noClip := satAdd Limits.max32 t.noClip 1 }
  (s.modHead h fun x => { x with direct := false }).toDischarging h

/-- R104, R116, R117: the hand-off of the head's record to its tier. -/
def State.handOff (h : Head) (s : State) : State :=
  match (s.heads.get h).record with
  | none => s
  | some r => if (s.tiers.get h).magazine = 0 then s.noClipPath h r else s.tieStart h r

/-- R121, the tests in order: the result of a tie. -/
def tieResultOf (t : Tier) (tie : Tie) (expected : Option Half) : TieResult :=
  if tie.interrupted then .unchecked
  else if !t.check then .unchecked
  else if 0 < t.warmUp then .unchecked
  else if t.learn = .bound tie.product then .good
  else match expected with
    | none => .unchecked
    | some e => if tie.signature = e then .good else .mismatch

/-- R121, third test: the tie is a warm-up tie and consumes one. -/
def Tier.consumesWarmUp (t : Tier) (tie : Tie) : Bool := !tie.interrupted && t.check && decide (0 < t.warmUp)

/-- R121, fourth test: the bound learn is used at this tie. -/
def Tier.learns (t : Tier) (tie : Tie) : Bool :=
  !tie.interrupted && t.check && decide (t.warmUp = 0) && decide (t.learn = .bound tie.product)

/-- The expected signature of a product entry as it stands (R6, R121). -/
def State.expectedSignature (p : ProductIx) (s : State) : Option Half := (s.products[p]).bind ProductEntry.signature

/-- A product entry's expected signature written directly (R6). -/
def State.setExpected (p : ProductIx) (v : Option Half) (s : State) : State :=
  { s with products := s.products.set p ((s.products[p]).map fun e => { e with signature := v }) }

/-- R121 step 1: the record's tie result, with UNCHECKED_TIE for an UNCHECKED one. -/
def LoafRecord.tied (result : TieResult) (r : LoafRecord) : LoafRecord :=
  { r with tie := some result,
           flags := { r.flags with uncheckedTie := r.flags.uncheckedTie || decide (result = .unchecked) } }

/-- The ties figure of a result raised by one (R121 step 2). -/
def HeadTotals.countTie (t : HeadTotals) : TieResult → HeadTotals
  | .good => { t with good := satAdd Limits.max32 t.good 1 }
  | .unchecked => { t with unchecked := satAdd Limits.max32 t.unchecked 1 }
  | .mismatch => { t with mismatch := satAdd Limits.max32 t.mismatch 1 }
  | .noClip => { t with noClip := satAdd Limits.max32 t.noClip 1 }

/-- R124: the tie's signature is learned. -/
def State.learnTie (h : Head) (tie : Tie) (s : State) : State :=
  let s := (s.setExpected tie.product (some tie.signature)).modTier h fun t => { t with learn := .none }
  s.notify (.signatureLearned h tie.loaf tie.product tie.signature)

/-- R122: the further effects of a MISMATCH. -/
def State.mismatchTie (h : Head) (tie : Tie) (expected : Half) (s : State) : State :=
  let s := s.updateRecord tie.loaf (LoafRecord.reject .untied)
  let s := s.notify (.tieMismatch h tie.loaf tie.product tie.signature expected)
  let streak := (s.tiers.get h).streak + 1
  if Limits.streakFault ≤ streak then
    (s.modTier h fun t => { t with streak := 0 }).raise (.tieFault h)
  else s.modTier h fun t => { t with streak := streak }

/-- R121 step 3: a learn still bound becomes armed and not bound. -/
def Learn.unbind : Learn → Learn
  | .none => .none
  | .armed => .armed
  | .bound _ => .armed

/-- R121, R122, R124: tie-done. -/
def State.takeTieDone (h : Head) (tie : Tie) (s : State) : State :=
  let t := s.tiers.get h
  let expected := s.expectedSignature tie.product
  let result := tieResultOf t tie expected
  let s := s.modTier h fun x =>
    { x with lastSignature := some tie.signature
             warmUp := if t.consumesWarmUp tie then x.warmUp - 1 else x.warmUp
             streak := if result = .good then 0 else x.streak }
  let s := s.updateRecord tie.loaf (LoafRecord.tied result)
  let s := if t.learns tie then s.learnTie h tie else s
  let s := match result, expected with
    | .mismatch, some e => s.mismatchTie h tie e
    | _, _ => s
  let s := s.modHeadTotals h fun x => x.countTie result
  let s := s.modTier h fun x => { x with learn := x.learn.unbind, tie := none }
  if (s.heads.get h).step = .tying then s.toDischarging h else s

/-! ### Completions of a head's states -/

/-- R102: bag-open taken in OPENING. -/
def State.takeBagOpen (h : Head) (s : State) : State :=
  s.modHead h fun x => { x.enter .loading with misses := 0 }

/-- R103: loaf-in taken in LOADING. -/
def State.takeLoafIn (h : Head) (s : State) : State := s.modHead h (HeadState.enter .gathering)

/-- R103: gather-done taken in GATHERING; the record is handed to the tier. -/
def State.takeGatherDone (h : Head) (s : State) : State := (s.modHead h (HeadState.enter .tying)).handOff h

/-- R105: discharge-clear taken. The removal is counted before the record is taken out of the head, so that an automatic
close finds it in flight (R164). -/
def State.takeDischargeClear (h : Head) (s : State) : State :=
  let s := match (s.heads.get h).record with
    | none => s.goIdle h
    | some r =>
      let s := match r.disposition with
        | some reason => s.countRejected r reason
        | none => s.countBagged r
      (s.goIdle h).report r .head (some h) r.tie
  (s.applyPendingSource h).attemptReleases

/-- R102: the OPENING timer runs out. -/
def State.takeOpeningTimeout (h : Head) (s : State) : State :=
  let first := (s.heads.get h).misses = 0
  let s := s.modHeadTotals h fun t => { t with bagMisses := satAdd Limits.max32 t.bagMisses 1 }
  if first then s.modHead h fun x => { x.feedBag with misses := 1 }
  else (s.modHead h fun x => { x.enter .bagOut with misses := 2, feedPulse := none }).raise (.bagEmpty h)

/-! ### Resume and line clear -/

/-- R110: a head takes the resume; `step` is its state when RESUME was taken. A head in TYING waits for its tier. -/
def State.resumeHead (step : HeadStep) (h : Head) (s : State) : State :=
  let i := s.inputs.heads.get h
  match step with
  | .idle => s
  | .bagOut => s.modHead h fun x => { x.feedBag with misses := 0 }
  | .opening => if i.bagOpen then s.takeBagOpen h else s.modHead h (HeadState.enter .opening)
  | .loading => if i.loafIn then s.takeLoafIn h else s.modHead h (HeadState.enter .loading)
  | .gathering => if i.gatherDone then s.takeGatherDone h else s.modHead h (HeadState.enter .gathering)
  | .tying => s.modHead h (HeadState.enter .tying)
  | .discharging => if i.dischargeClear then s.takeDischargeClear h else s.modHead h (HeadState.enter .discharging)

/-- R128: a tier at a line clear. -/
def Tier.cleared (t : Tier) : Tier :=
  { t with tie := none, learn := t.learn.unbind, warmUp := Limits.warmUpTies, streak := 0 }

/-- R111: a head at a line clear. -/
def State.clearHead (h : Head) (s : State) : State :=
  let s := s.modHead h fun x => { x with feedPulse := none, timer := none }
  let s := match (s.heads.get h).record with
    | none => s.goIdle h
    | some r => ((s.countCleared r).goIdle h).report r .lineClear (some h) r.tie
  s.applyPendingSource h

end Sys2Proof.Machine
end

