-- ==== Sys2Proof/Machine/Port.lean ====
section
/-! DEFINITION. The Link Port's two places and the forming of replies (R172, R174, R176). Every request is taken through
`State.arrive`, whether its frame came byte by byte or whole. -/

namespace Sys2Proof.Machine

/-- What the owner of a request gives back: the state after its effects, and the result code with the reply data; no reply
while it is deferred (R47). `clearsLost` is R178's clearing of notice lost after the reply has reported it. -/
structure Served where
  state : State
  reply : Option (ResultCode × List Byte)
  clearsLost : Bool := false
deriving DecidableEq, Repr

/-- Carried out, with its data. -/
def served (s : State) (data : List Byte) : Served := { state := s, reply := some (.ok, data) }

/-- Refused: nothing changes. -/
def refuse (s : State) (code : ResultCode) (data : List Byte := []) : Served := { state := s, reply := some (code, data) }

/-- A request for a lane outside its range is refused with the result code and the summary byte alone (R182). -/
def onLane (b : Byte) (s : State) (f : Lane → Served) : Served :=
  match laneOf b with
  | none => refuse s .badValue
  | some l => f l

/-- A request for a head outside its range, likewise. -/
def onHead (b : Byte) (s : State) (f : Head → Served) : Served :=
  match headOf b with
  | none => refuse s .badValue
  | some h => f h

/-- A request for a product index outside 0 to 15 is refused BAD_VALUE. -/
def onProduct (b : Byte) (s : State) (f : ProductIx → Served) : Served :=
  match productOf b with
  | none => refuse s .badValue
  | some p => f p

/-- The reply frame: kind + 80h, the tag, then result code, summary byte and data (R172). It is sent with its start byte, length
and check (State.transmitOutput). -/
def replyFrame (f : Frame) (code : ResultCode) (summary : Byte) (data : List Byte) : Frame :=
  ⟨f.kind + 0x80, f.tag, code.byte :: summary :: data⟩

/-- R176: forming a reply clears link overrun, and for READ NOTICES notice lost (R178). -/
def State.formReply (f : Frame) (code : ResultCode) (data : List Byte) (clearsLost : Bool) (s : State) : State :=
  { s with
    link := { s.link with handled := some ⟨f, some (replyFrame f code s.summaryByte data)⟩, overrun := false }
    notices := { s.notices with lost := s.notices.lost && !clearsLost } }

/-- The frame occupies the handled place; its reply is formed unless it is deferred (R174). -/
def State.conclude (f : Frame) (r : Served) : State :=
  match r.reply with
  | none => { r.state with link := { r.state.link with handled := some ⟨f, none⟩ } }
  | some (code, data) => r.state.formReply f code data r.clearsLost

/-- R174: a well-formed frame is taken at once, waits, or is discarded for overrun. -/
def State.arrive (f : Frame) (take : State → Served) (s : State) : State :=
  match s.link.handled, s.link.waiting with
  | none, _ => State.conclude f (take s)
  | some _, none => { s with link := { s.link with waiting := some f } }
  | some _, some _ => { s with link := { s.link with overrun := true } }

end Sys2Proof.Machine
end

