-- ==== Sys2Proof/Machine/Outputs.lean ====
section
/-! DEFINITION. The plant outputs and ATTN as functions of the state (section 11.7): each is given exactly while the rule
beside it says so. Nothing else is stored for an output. -/

namespace Sys2Proof.Machine

/-- R148: blade enable, in RUNNING, DRAINING and STOPPED. -/
def State.bladeEnable (s : State) : Bool := decide (s.line.state ≠ .halted)

/-- R148: head enable, in RUNNING and DRAINING. -/
def State.headEnable (s : State) : Bool := s.moving

/-- R60: the stroke output, from a stroke's start until its end, under the blade enable. -/
def State.strokeOutput (l : Lane) (s : State) : Bool :=
  s.bladeEnable && match (s.slicers.get l).blade with
    | .stroking _ => true
    | .home => false
    | .homing _ => false

/-- R60: the homing output, during a homing move, under the blade enable. -/
def State.homingOutput (l : Lane) (s : State) : Bool :=
  s.bladeEnable && match (s.slicers.get l).blade with
    | .homing moving => moving
    | .home => false
    | .stroking _ => false

/-- R32: the diverter output. -/
def State.diverterOutput (l : Lane) (s : State) : Bool := (s.lanes.get l).diverter.isSome

/-- R37: the infeed hold output. -/
def State.infeedHoldOutput (l : Lane) (s : State) : Bool := (s.lanes.get l).holdInEffect

/-- R130: the knives, in PURGING. -/
def Crumb.knives (c : Crumb) : Bool := decide (c.step = .purging)

/-- R130: the vacuum, in PURGING and SETTLING. -/
def Crumb.vacuum (c : Crumb) : Bool := decide (c.step = .purging) || decide (c.step = .settling)

/-- R100: the outputs of a head. -/
structure HeadOutputs where
  bagFeed : Bool
  bagAir : Bool
  loader : Bool
  gather : Bool
  discharge : Bool
  divert : Bool
deriving DecidableEq, Repr

/-- R100, R105: the outputs of each state, under the head enable; divert while the held record's disposition is REJECT. -/
def State.headOutputs (h : Head) (s : State) : HeadOutputs :=
  let x := s.heads.get h
  let on := s.headEnable
  { bagFeed := on && x.feedPulse.isSome
    bagAir := on && (decide (x.step = .opening) || decide (x.step = .loading))
    loader := on && decide (x.step = .loading)
    gather := on && (decide (x.step = .gathering) || decide (x.step = .tying))
    discharge := on && decide (x.step = .discharging)
    divert := on && decide (x.step = .discharging) && x.record.any (fun r => r.disposition.isSome) }

/-- R114, R117, R127: the tie output, while a tie is in flight, under the head enable. -/
def State.tieOutput (h : Head) (s : State) : Bool := s.headEnable && (s.tiers.get h).tie.isSome

/-- R114, R117 step 5: the print output over an event from `before` to `after`: the messages the event sends on the head's
print line. The line holds every message sent since power-on (Tier.print, entry 34). -/
def State.printOutput (h : Head) (before after : State) : List ClipCode :=
  (after.tiers.get h).printed.drop (before.tiers.get h).printed.length

/-! ### The transmit pair of the link (R172, R174) -/

/-- R172: the check of a frame, over the length byte through the last body byte, in the order they are sent. -/
def frameCheck (f : Frame) : BitVec 16 := crc16 (BitVec.ofNat 8 (f.body.length + 2) :: f.kind :: f.tag :: f.body)

/-- R172: the bytes of a frame on the line, with the check given: start byte, length from the kind through the end of the
body, kind, tag, body, and the check, high byte first. -/
def frameBytes (f : Frame) (check : BitVec 16) : List Byte :=
  0xC3 :: BitVec.ofNat 8 (f.body.length + 2) :: f.kind :: f.tag :: (f.body ++ halfBytes check)

/-- R172: the bytes of a frame as the coordinator sends it, under the check it forms. -/
def sentBytes (f : Frame) : List Byte := frameBytes f (frameCheck f)

/-- R172, R174: what the link sends: the reply standing formed in the handled place, until its last byte has gone
(REPLY_SENT); nothing while no reply is formed. -/
def State.transmitOutput (s : State) : List Byte :=
  match s.link.handled.bind Handled.reply with
  | none => []
  | some reply => sentBytes reply

/-- R177: ATTN, asserted exactly while the queue holds a notice. -/
def State.attn (s : State) : Bool := !s.notices.queue.isEmpty

end Sys2Proof.Machine
end

