-- ==== Sys2Proof/Machine/Crumbs.lean ====
section
/-! DEFINITION. The Crumb Controllers' requests and timer expiries (R132 to R146). -/

namespace Sys2Proof.Machine

/-! ### Settings and mode (R132, R133) -/

/-- R132: an item's value lies within its range. -/
def crumbPairOk (p : Setting) : Bool :=
  match p.item.toNat with
  | 1 => inRange 1 16777215 p.value.toNat
  | 2 => inRange 1 16777215 p.value.toNat
  | 3 => inRange 200 5000 p.value.toNat
  | 4 => inRange 100 3000 p.value.toNat
  | _ => false

/-- One pair applied. -/
def Crumb.apply (c : Crumb) (p : Setting) : Crumb :=
  match p.item.toNat with
  | 1 => { c with tLow := p.value.toNat }
  | 2 => { c with tHigh := p.value.toNat }
  | 3 => { c with purgeTime := p.value.toNat }
  | 4 => { c with settleTime := p.value.toNat }
  | _ => c

/-- R132: every pair applied in list order, then T_low clamped to T_high. -/
def Crumb.withPairs (pairs : List Setting) (c : Crumb) : Crumb :=
  let d := pairs.foldl Crumb.apply c
  { d with tLow := min d.tLow d.tHigh }

/-- The four settings. -/
def Crumb.settingsBytes (c : Crumb) : List Byte :=
  beBytes 3 c.tLow ++ beBytes 3 c.tHigh ++ beBytes 2 c.purgeTime ++ beBytes 2 c.settleTime

/-- R132: CRUMB SETTINGS; accepted, it asks for the lane's start test. -/
def doCrumbSettings (lane : Byte) (pairs : List Setting) (s : State) : Served :=
  onLane lane s fun l =>
    if inRange 1 12 pairs.length && pairs.all crumbPairOk then
      let t := State.finish s (some l) (s.modCrumb l (Crumb.withPairs pairs))
      served t (t.crumb.get l).settingsBytes
    else refuse s .badValue

/-- CRUMB_SETTINGS (R132). -/
def execCrumbSettings (tag lane : Byte) (pairs : List Setting) (s : State) : Host.Outcome State Fault Refusal :=
  .next (s.arrive (requestFrame (.crumbSettings tag lane pairs)) (doCrumbSettings lane pairs))

/-- R133: the controller in a new mode. -/
def Crumb.setMode (m : CrumbMode) (c : Crumb) : Crumb :=
  let d := { c with mode := m, single := false }
  d.goTo d.rest

/-- R133: SET CRUMB MODE; a change to AUTO asks for the lane's start test. -/
def doSetCrumbMode (lane mode : Byte) (s : State) : Served :=
  onLane lane s fun l =>
    match crumbModeOf mode with
    | none => refuse s .badValue
    | some m =>
      if (s.crumb.get l).step.inCycle then refuse s .busy
      else if m = .manual ∧ s.moving = true then refuse s .wrongState
      else
        let c := s.crumb.get l
        let t := State.finish s (some l) (s.modCrumb l (Crumb.setMode m))
        served t [CrumbMode.code c.mode, CrumbMode.code m, CrumbStep.code c.step, CrumbStep.code (t.crumb.get l).step]

/-- SET_CRUMB_MODE (R133). -/
def execSetCrumbMode (tag lane mode : Byte) (s : State) : Host.Outcome State Fault Refusal :=
  .next (s.arrive (requestFrame (.setCrumbMode tag lane mode)) (doSetCrumbMode lane mode))

/-! ### Starting and stopping purges (R141 to R143) -/

/-- R141, R143: E_STOP or GUARD_OPEN is present. -/
def State.safetyPresent (s : State) : Bool := s.eStopPresent || s.guardOpenPresent

/-- Prior and new state of a controller, with the event's end taken. -/
def purgeReply (l : Lane) (s t : State) : Served :=
  served t [CrumbStep.code (s.crumb.get l).step, CrumbStep.code (t.crumb.get l).step]

/-- R141: PURGE START in COMMANDED mode. -/
def purgeStartCommanded (l : Lane) (s : State) : Served :=
  if (s.crumb.get l).step.inCycle then refuse s .busy
  else if s.line.state = .halted ∨ s.safetyPresent = true then refuse s .wrongState
  else purgeReply l s (State.finish s none (s.enterGapWait l))

/-- R143: a record at or before the blade, or a line that moves, forbids a manual purge. -/
def State.manualForbidden (l : Lane) (s : State) : Bool :=
  s.moving || s.safetyPresent || (s.lanes.get l).queue.any (fun r => r.stage.beforeBlade)

/-- R143: a manual purge begins. -/
def State.beginManual (l : Lane) (s : State) : State :=
  { s.modCrumb l fun c => { c.goTo .purging with manual := true } with air := s.air.request l }

/-- R143: PURGE START in MANUAL mode. -/
def purgeStartManual (l : Lane) (s : State) : Served :=
  if (s.crumb.get l).step = .purging ∨ (s.crumb.get l).step = .settling then refuse s .busy
  else if s.manualForbidden l then refuse s .wrongState
  else if s.air.holder = some (otherLane l) then refuse s .busy
  else purgeReply l s (State.finish s none (s.beginManual l))

/-- R141: PURGE START. -/
def doPurgeStart (lane : Byte) (s : State) : Served :=
  onLane lane s fun l =>
    match (s.crumb.get l).mode with
    | .disabled | .auto => refuse s .wrongState
    | .commanded => purgeStartCommanded l s
    | .manual => purgeStartManual l s

/-- PURGE_START (R141). -/
def execPurgeStart (tag lane : Byte) (s : State) : Host.Outcome State Fault Refusal :=
  .next (s.arrive (requestFrame (.purgeStart tag lane)) (doPurgeStart lane))

/-- R141: a purge in GAP_WAIT is withdrawn. -/
def State.withdrawPurge (l : Lane) (s : State) : State :=
  { s.modCrumb l fun c => { c.goTo .watching with phase := none } with air := s.air.release l }

/-- R141, R143: PURGE STOP by the lane's state. -/
def State.purgeStop (l : Lane) (s : State) : State :=
  match (s.crumb.get l).step with
  | .gapWait => s.withdrawPurge l
  | .purging => s.settlePurge l .purgeStop
  | .disabled | .watching | .settling => s

/-- R141: PURGE STOP. -/
def doPurgeStop (lane : Byte) (s : State) : Served :=
  onLane lane s fun l =>
    match (s.crumb.get l).mode with
    | .disabled | .auto => refuse s .wrongState
    | .commanded | .manual => purgeReply l s (State.finish s none (s.purgeStop l))

/-- PURGE_STOP (R141). -/
def execPurgeStop (tag lane : Byte) (s : State) : Host.Outcome State Fault Refusal :=
  .next (s.arrive (requestFrame (.purgeStop tag lane)) (doPurgeStop lane))

/-- R142: SINGLE PURGE: begun at once on a running line, otherwise it waits. -/
def doSinglePurge (lane : Byte) (s : State) : Served :=
  onLane lane s fun l =>
    let c := s.crumb.get l
    if c.mode ≠ .auto then refuse s .wrongState
    else if c.step.inCycle || c.single then refuse s .busy
    else if s.moving then served (State.finish s none (s.enterGapWait l)) [1]
    else served (s.modCrumb l fun x => { x with single := true }) [0]

/-- SINGLE_PURGE (R142). -/
def execSinglePurge (tag lane : Byte) (s : State) : Host.Outcome State Fault Refusal :=
  .next (s.arrive (requestFrame (.singlePurge tag lane)) (doSinglePurge lane))

/-! ### Reset and read (R144, R146) -/

/-- R144: CRUMB RESET; a return to WATCHING asks for the lane's start test. DESIGN CHOICE (entry 40): where that test enters
GAP_WAIT again within the event, an infeed hold in effect stays in effect. -/
def doCrumbReset (lane : Byte) (s : State) : Served :=
  onLane lane s fun l =>
    let asked := if (s.crumb.get l).step.inCycle then some l else none
    let t := State.finish s asked (s.resetCrumb l)
    served t ([CrumbStep.code (s.crumb.get l).step, CrumbStep.code (t.crumb.get l).step] ++ beBytes 3 (t.crumb.get l).load)

/-- CRUMB_RESET (R144). -/
def execCrumbReset (tag lane : Byte) (s : State) : Host.Outcome State Fault Refusal :=
  .next (s.arrive (requestFrame (.crumbReset tag lane)) (doCrumbReset lane))

/-- R146: the figures of a controller and of the arbiter. -/
def State.crumbReport (l : Lane) (s : State) : List Byte :=
  let c := s.crumb.get l
  [CrumbMode.code c.mode, CrumbStep.code c.step, CrumbStep.code c.last] ++ beBytes 3 c.load ++ beBytes 1 c.count ++ c.settingsBytes ++
  timerCode c.phase ++ timerCode c.holdOff ++ [boolCode c.single, boolCode c.manual, boolCode (s.quiet l), grantCode s.air.holder,
    grantCode s.air.waiting, boolCode c.knives, boolCode c.vacuum]

/-- R146: READ CRUMB. -/
def doReadCrumb (lane : Byte) (s : State) : Served := onLane lane s fun l => served s (s.crumbReport l)

/-- READ_CRUMB (R146). -/
def execReadCrumb (tag lane : Byte) (s : State) : Host.Outcome State Fault Refusal :=
  .next (s.arrive (requestFrame (.readCrumb tag lane)) (doReadCrumb lane))

/-! ### Timer expiries (R137 to R139) -/

/-- R137: the gap-wait limit runs out. -/
def State.giveUpPurge (l : Lane) (s : State) : State :=
  let held := decide (s.air.holder = some l)
  let s := { s with air := s.air.release l }
  let s := s.modCrumb l fun c => { c.goTo .watching with phase := none, holdOff := some Limits.holdOffMs }
  s.notify (.purgeNoGap l (s.crumb.get l).load held)

/-- GAP_WAIT_EXPIRY (R137). -/
def execGapWaitExpiry (lane : Lane) (s : State) : Host.Outcome State Fault Refusal :=
  if (s.crumb.get lane).step = .gapWait ∧ (s.crumb.get lane).phase.isSome = true then
    .next (State.finish s (some lane) (s.giveUpPurge lane))
  else .next s

/-- HOLD_OFF_EXPIRY (R137): a start-test event. -/
def execHoldOffExpiry (lane : Lane) (s : State) : Host.Outcome State Fault Refusal :=
  if (s.crumb.get lane).holdOff.isSome then
    .next (State.finish s (some lane) (s.modCrumb lane fun c => { c with holdOff := none }))
  else .next s

/-- PURGE_TIME_EXPIRY (R138). -/
def execPurgeTimeExpiry (lane : Lane) (s : State) : Host.Outcome State Fault Refusal :=
  if (s.crumb.get lane).step = .purging ∧ (s.crumb.get lane).phase.isSome = true then
    .next (State.finish s none (s.settlePurge lane .fullTime))
  else .next s

/-- R139: the purge is completed, in the rule's order. DEDUCED (entry 28): the manual mark ends with the purge it marks. -/
def State.completePurge (l : Lane) (s : State) : State :=
  let c := s.crumb.get l
  let count := satAdd Limits.purgeCountMax c.count 1
  let s := s.modCrumb l fun c => { c.goTo .watching with phase := none, manual := false }
  let s := s.notify (.purgeDone l c.load count c.ended)
  let s := s.modCrumb l fun c => { c with load := 0, count := count }
  let s := s.modLaneTotals l fun t => { t with purges := satAdd Limits.max32 t.purges 1 }
  { s with air := s.air.release l }

/-- SETTLE_EXPIRY (R139). -/
def execSettleExpiry (lane : Lane) (s : State) : Host.Outcome State Fault Refusal :=
  if (s.crumb.get lane).step = .settling ∧ (s.crumb.get lane).phase.isSome = true then
    .next (State.finish s none (s.completePurge lane))
  else .next s

end Sys2Proof.Machine
end

