-- ==== Sys2Proof/Machine/PlanArithmetic.lean ====
section
/-! DEFINITION. The plan arithmetic, step by step (R48 to R58). Lengths named in sub-counts are 1/256 count. All quantities
are exact natural numbers: R48 shows that the 48-bit accumulator never overflows. -/

namespace Sys2Proof.Machine

/-- R49: the wear term before its clamp. -/
def PlanInputs.rawWear (i : PlanInputs) : Nat := i.strokes * i.wearRate / 256

/-- R49: the wear term, at most 5120 sub-counts. -/
def PlanInputs.wearTerm (i : PlanInputs) : Nat := min i.rawWear Limits.wearClamp

def PlanInputs.wearClamped (i : PlanInputs) : Bool := decide (Limits.wearClamp < i.rawWear)

/-- R49: the effective kerf. -/
def PlanInputs.kSub (i : PlanInputs) : Nat := 256 * i.kerf + i.wearTerm

/-- R51: the nominal slice count, clamped to 1..N_max. -/
def PlanInputs.nominalCount (i : PlanInputs) (sSub : Nat) : Nat :=
  let pn := 256 * i.tNom + i.kSub
  let n := (sSub + pn / 2) / pn
  max 1 (min n i.nMax)

/-- R52: the slice count after the single adjustment. The comparisons of the thickness t = P - K with a limit T are made as
P with T + K, so that no difference is negative. -/
def PlanInputs.adjustedCount (i : PlanInputs) (sSub : Nat) : Nat :=
  let n0 := i.nominalCount sSub
  let p := sSub / n0
  if 256 * i.tMax + i.kSub < p ∧ n0 < i.nMax then n0 + 1
  else if p < 256 * i.tMin + i.kSub ∧ 1 < n0 then n0 - 1
  else n0

/-- R53: the pitch after the thickness clamp, with the outcome. -/
def PlanInputs.clampedPitch (i : PlanInputs) (p : Nat) : Nat × PlanOutcome :=
  if 256 * i.tMax + i.kSub < p then (256 * i.tMax + i.kSub, .heelLong)
  else if p < 256 * i.tMin + i.kSub then (256 * i.tMin + i.kSub, .heelShort)
  else (p, .even)

/-- R54: the cut positions C_0 to C_N. -/
def PlanInputs.cutList (i : PlanInputs) (n p : Nat) : List Nat :=
  (List.range (n + 1)).map fun k => (256 * i.heel + k * p + 128) / 256

/-- R54, R55: the last cut position. -/
def PlanInputs.lastCut (i : PlanInputs) (n p : Nat) : Nat := (256 * i.heel + n * p + 128) / 256

/-- R57: the crumb per cut before its clamp. -/
def PlanInputs.rawCrumb (i : PlanInputs) : Nat := i.kSub * i.height * i.crumbFactor / 65536

/-- R58: a plan without cuts; NO_SPAN keeps its wear term and wear mark. -/
def planWithoutCuts (outcome : PlanOutcome) (length wearTerm : Nat) (wearClamped : Bool) : Plan :=
  ⟨outcome, 0, 0, 0, length, [], 0, wearTerm, wearClamped, false⟩

/-- R49 to R58: the plan of a loaf or a trial. -/
def PlanInputs.plan (i : PlanInputs) : Plan :=
  if i.length ≤ 2 * i.heel then planWithoutCuts .noSpan i.length i.wearTerm i.wearClamped
  else
    let sSub := 256 * (i.length - 2 * i.heel)
    let n := i.adjustedCount sSub
    let (p, outcome) := i.clampedPitch (sSub / n)
    let last := i.lastCut n p
    if i.length < last then planWithoutCuts .noSpan i.length i.wearTerm i.wearClamped
    else
      ⟨outcome, n, p, p - i.kSub, i.length - last, i.cutList n p, min i.rawCrumb Limits.crumbPerCutMax, i.wearTerm,
        i.wearClamped, decide (Limits.crumbPerCutMax < i.rawCrumb)⟩

end Sys2Proof.Machine
end

