-- ==== Sys2Proof/Machine/Watching.lean ====
section
/-! DEFINITION. The Quality Watch's evaluation of one loaf (R79 to R92). -/

namespace Sys2Proof.Machine

/-! ### Matching (R80 to R83) -/

/-- R80: product and lane gate. -/
def WatchEntry.gate (e : WatchEntry) (r : LoafRecord) : Bool :=
  decide ((BitVec.ofNat 4 r.product.val ^^^ e.productValue) &&& e.productMask = 0) &&
  match e.laneSelect with
  | .either => true
  | .a => decide (r.lane = .a)
  | .b => decide (r.lane = .b)

/-- R81: a length or height test; `none` where no test is made. -/
def TestMode.test (m : TestMode) (low high value : Nat) : Option Bool :=
  match m with
  | .off => none
  | .below => some (decide (value < low))
  | .inside => some (decide (low ≤ value) && decide (value ≤ high))
  | .outside => some (decide (value < low) || decide (high < value))

/-- The set holds the outcome. -/
def OutcomeSet.has (o : OutcomeSet) : PlanOutcome → Bool
  | .even => o.even
  | .heelLong => o.heelLong
  | .heelShort => o.heelShort
  | .noSpan => o.noSpan
  | .noPlan => o.noPlan
  | .latePlan => o.latePlan

def OutcomeSet.isEmpty (o : OutcomeSet) : Bool :=
  !(o.even || o.heelLong || o.heelShort || o.noSpan || o.noPlan || o.latePlan)

/-- R82: the flag test, made when a flag is required. -/
def WatchEntry.flagTest (e : WatchEntry) (f : LoafFlags) : Option Bool :=
  if e.needCloseGap || e.needOverlong then some ((!e.needCloseGap || f.closeGap) && (!e.needOverlong || f.overlong)) else none

/-- R82: the outcome test, made when the set is not empty. -/
def WatchEntry.outcomeTest (e : WatchEntry) (p : Option Plan) : Option Bool :=
  if e.outcomes.isEmpty then none else some (match p with
    | some x => e.outcomes.has x.outcome
    | none => false)

/-- The results of the tests that are made. -/
def WatchEntry.tests (e : WatchEntry) (r : LoafRecord) : List Bool :=
  [e.lengthMode.test e.lengthLow e.lengthHigh r.length, e.heightMode.test e.heightLow e.heightHigh r.height,
    e.flagTest r.flags, e.outcomeTest r.plan].filterMap id

/-- R83: the tests made, combined; with no test made the combination passes. -/
def WatchEntry.combined (e : WatchEntry) (r : LoafRecord) : Bool :=
  match e.combine with
  | .all => (e.tests r).all id
  | .any => (e.tests r).isEmpty || (e.tests r).any id

/-- R83: the entry matches the loaf. -/
def WatchEntry.matchesLoaf (e : WatchEntry) (r : LoafRecord) : Bool := e.enable && e.gate r && e.combined r

/-! ### Firing (R84 to R89) -/

/-- The pair of an entry: 0-1 or 2-3. -/
def pairOf (i : Fin 4) : Fin 2 := if i.val < 2 then 0 else 1

/-- R76: the pair is chained while its second entry has chained yes. -/
def Watch.pairChained (p : Fin 2) (w : Watch) : Bool := w.entries[secondEntry p].chained

/-- Entry 0 or 2. -/
def isFirst (i : Fin 4) : Bool := decide (i.val % 2 = 0)

/-- R84: what becomes of an entry that matches or not: it fires, acts on its chain, or neither. `armed` is the chain as the
evaluation began. -/
def entryFires (i : Fin 4) (chained isMatch armed : Bool) : Bool :=
  if chained then (if isFirst i then false else isMatch && armed) else isMatch

/-- R87 step 2: the entry's number is added to the record's watch hits. -/
def LoafRecord.hit (i : Fin 4) (r : LoafRecord) : LoafRecord := { r with hits := r.hits.set i true }

/-- R87: the entry fires on the loaf: count, hit, actions, notice. -/
def State.fireEntry (i : Fin 4) (n : Nat) (l : Lane) (s : State) : State :=
  let e := s.watch.entries[i]
  let s := { s with watch := { s.watch with entries := s.watch.entries.set i { e with fireCount := satAdd Limits.max16 e.fireCount 1 } } }
  let s := s.updateRecord n (LoafRecord.hit i)
  let s := if e.actions.reject then s.updateRecord n (LoafRecord.reject .watch) else s
  let s := if e.actions.mark then s.updateRecord n (fun r => { r with marked := true }) else s
  let s := if e.actions.stop then s.raise (.watchStop i) else s
  s.notify (.watchFired i n l)

/-- R85: the chain after an evaluation, from the state before it and the two matches; W is the chained entry's arm window. -/
def chainAfter (before : Option Nat) (m1 m2 : Bool) (W : Nat) : Option Nat :=
  if m1 then some W
  else match before with
    | none => none
    | some w => if m2 then none else if w ≤ 1 then none else some (w - 1)

/-- R84, R87: one entry's turn. `chains` are the chains as the evaluation began. -/
def State.settleEntry (r : LoafRecord) (chains : Vector (Option Nat) 2) (s : State) (i : Fin 4) : State :=
  let w := s.watch
  let p := pairOf i
  let isMatch := w.entries[i].matchesLoaf r
  let s := if entryFires i (w.pairChained p) isMatch chains[p].isSome then s.fireEntry i r.number r.lane
    else if w.pairChained p && isFirst i && isMatch then s.updateRecord r.number (LoafRecord.hit i)
    else s
  if w.pairChained p && !isFirst i then
    let first : Fin 4 := if p = 0 then 0 else 2
    { s with watch := { s.watch with
        chains := s.watch.chains.set p (chainAfter chains[p] (w.entries[first].matchesLoaf r) isMatch w.entries[i].armWindow) } }
  else s

/-! ### Capture (R90 to R92) -/

/-- R90: the summary of a record, as it stands at the end of its evaluation. -/
def LoafRecord.summary (r : LoafRecord) (p : Plan) : Summary :=
  ⟨r.number, r.lane, r.product, r.length, r.height, r.gapBefore, r.flags, p.outcome, p.slices, p.thickness, r.disposition,
    r.marked, r.hits⟩

/-- R91, R92: the capture decision of one loaf. `start` and `stop` say whether an entry that fired holds CAPTURE_START or
CAPTURE_STOP. -/
def State.captureDecision (n : Nat) (c : Summary) (start stop : Bool) (s : State) : State :=
  let wasOn := s.watch.recording
  let on := (wasOn || start) && !stop
  if wasOn || start then
    if s.watch.capture.length < Limits.capturePlaces then
      let log := s.watch.capture ++ [c]
      if log.length < Limits.capturePlaces then { s with watch := { s.watch with capture := log, recording := on } }
      else { s with watch := { s.watch with capture := log, recording := false } }.notify (.captureFull n)
    else { s with watch := { s.watch with recording := false } }.notify (.captureFull n)
  else s

/-- R79, R84, R91: the evaluation of a record that has just been given its plan. -/
def State.evaluate (n : Nat) (s : State) : State :=
  match s.findRecord n with
  | none => s
  | some r =>
    let w := s.watch
    let chains := w.chains
    let fires := fun (i : Fin 4) => entryFires i (w.pairChained (pairOf i)) (w.entries[i].matchesLoaf r) chains[pairOf i].isSome
    let start := [0, 1, 2, 3].any fun (i : Fin 4) => fires i && w.entries[i].actions.captureStart
    let stop := [0, 1, 2, 3].any fun (i : Fin 4) => fires i && w.entries[i].actions.captureStop
    let s := [0, 1, 2, 3].foldl (fun t (i : Fin 4) => t.settleEntry r chains i) s
    match s.findRecord n with
    | some r' => match r'.plan with
      | some p => s.captureDecision n (r'.summary p) start stop
      | none => s
    | none => s

end Sys2Proof.Machine
end

