-- ==== Sys2Proof/Machine/PlanOps.lean ====
section
/-! DEFINITION. The shared operations of the Slice Planner: starting, withdrawing and delivering plans (R43 to R47). -/

namespace Sys2Proof.Machine

/-- R44, R48: the inputs of a plan from a length, a height, an entry's recipe and a station's wear. An EMPTY entry is never
named by a request (R2, R47); its recipe reads as zeros (entry 27). -/
def planInputs (length height : Nat) (e : Option ProductEntry) (sl : Slicer) : PlanInputs :=
  match e with
  | some e => ⟨length, height, e.tNom, e.tMin, e.tMax, e.heel, e.kerf, e.nMax, e.crumbFactor, e.wholeOk, sl.strokes, sl.wearRate⟩
  | none => ⟨length, height, 0, 0, 0, 0, 0, 0, 0, false, sl.strokes, sl.wearRate⟩

/-- R44: the inputs a request reads at its start. A gauge request's record is held as long as the request is not withdrawn. -/
def State.inputsOf (req : PlanRequest) (s : State) : PlanInputs :=
  match req with
  | .gauge l n =>
    match s.queued l n with
    | some r => planInputs r.length r.height s.products[r.product] (s.slicers.get l)
    | none => planInputs 0 0 none (s.slicers.get l)
  | .trial l length height p => planInputs length height s.products[p] (s.slicers.get l)

/-- R44: with no plan in progress, the oldest request of the queue starts. -/
def State.startNext (s : State) : State :=
  match s.planner.current, s.planner.queue with
  | none, req :: rest =>
    { s with planner := { s.planner with queue := rest, current := some ⟨req, s.inputsOf req, false⟩ } }
  | none, [] => s
  | some _, _ => s

/-- A request joins the tail of the queue, and starts at once if the planner is idle (R43, R47). -/
def State.enqueueRequest (req : PlanRequest) (s : State) : State :=
  { s with planner := { s.planner with queue := s.planner.queue ++ [req] } }.startNext

/-- The gauge request of this loaf. -/
def PlanRequest.isFor (n : Nat) : PlanRequest → Bool
  | .gauge _ m => m == n
  | .trial _ _ _ _ => false

/-- A gauge request. -/
def PlanRequest.isGauge : PlanRequest → Bool
  | .gauge _ _ => true
  | .trial _ _ _ _ => false

/-- R46: the withdrawal of a loaf's gauge request, wherever it stands. -/
def Planner.withdraw (n : Nat) (p : Planner) : Planner :=
  { p with issued := p.issued.map fun r => if r.loaf = n then { r with withdrawn := true } else r
           queue := p.queue.filter fun r => !r.isFor n
           current := p.current.map fun c => if c.request.isFor n then { c with withdrawn := true } else c }

/-- R46: at a line clear every gauge request is withdrawn. -/
def Planner.withdrawAll (p : Planner) : Planner :=
  { p with issued := p.issued.map fun r => { r with withdrawn := true }
           queue := p.queue.filter fun r => !r.isGauge
           current := p.current.map fun c => if c.request.isGauge then { c with withdrawn := true } else c }

/-- R62: entries stand in the order of the records in the queue; `later` are the loaf numbers behind the new entry's. -/
def insertEntry (later : List Nat) (e : ScheduleEntry) : List ScheduleEntry → List ScheduleEntry
  | [] => [e]
  | x :: rest => if later.contains x.loaf then e :: x :: rest else x :: insertEntry later e rest

/-- R62: the entry of a plan with cuts delivered to a record of the lane. -/
def State.scheduleCuts (l : Lane) (n : Nat) (p : Plan) (s : State) : State :=
  if p.cuts.isEmpty || (s.queued l n).isNone then s
  else
    let later := (((s.lanes.get l).queue.map LoafRecord.number).dropWhile (fun m => m != n)).drop 1
    s.modSlicer l fun sl => { sl with schedule := insertEntry later ⟨n, 0⟩ sl.schedule }

/-- The record's plan becomes present and the record PLANNED, with the disposition the plan brings (R30, R43, R45). -/
def LoafRecord.planned (p : Plan) (reason : Option Reason) (r : LoafRecord) : LoafRecord :=
  let r := { r with plan := some p, stage := .planned }
  match reason with
  | some x => r.reject x
  | none => r

/-- R56: the disposition a delivered plan brings. -/
def Plan.brings (wholeOk : Bool) (p : Plan) : Option Reason :=
  if p.outcome = .noSpan ∧ wholeOk = false then some .noSpan else none

/-- R45 step 4: the plan delivered to its record, which the Quality Watch then evaluates. -/
def State.deliverPlan (l : Lane) (n : Nat) (p : Plan) (wholeOk : Bool) (s : State) : State :=
  match s.queued l n with
  | none => s
  | some _ => ((s.updateRecord n (LoafRecord.planned p (p.brings wholeOk))).scheduleCuts l n p).evaluate n

/-- R43, R30, R58: a record given a plan that failed. -/
def State.failPlan (n : Nat) (outcome : PlanOutcome) (reason : Reason) (s : State) : State :=
  (s.updateRecord n fun r => r.planned (planWithoutCuts outcome r.length 0 false) (some reason)).evaluate n

/-- R57, R42: OVF set by a crumb-clamped plan; the plan count rises by one. -/
def Planner.completed (p : Plan) (pl : Planner) : Planner :=
  { pl with overflow := pl.overflow || p.crumbClamped, count := satAdd Limits.max32 pl.count 1, current := none }

/-- R49: a wear-clamped gauge plan sets WEAR_LIMIT, with BLADE_WEAR if it was clear. -/
def State.wearLimit (l : Lane) (i : PlanInputs) (p : Plan) (s : State) : State :=
  if p.wearClamped then
    let was := (s.slicers.get l).wearLimit
    let s := s.modSlicer l fun sl => { sl with wearLimit := true }
    if was then s else s.notify (.bladeWear l i.strokes i.wearRate)
  else s

/-- R45: the completion of a gauge request's plan. -/
def State.completeGauge (l : Lane) (n : Nat) (c : CurrentPlan) (s : State) : State :=
  let p := c.inputs.plan
  let s := s.wearLimit l c.inputs p
  let s := { s with planner := s.planner.completed p }
  let s := if c.withdrawn then s else s.deliverPlan l n p c.inputs.wholeOk
  s.startNext

/-- R43: the arrival of a gauge request that was not withdrawn on its way. -/
def State.takeArrival (l : Lane) (n : Nat) (s : State) : State :=
  if s.planner.queue.length < Limits.plannerPlaces then
    (s.updateRecord n fun r => { r with stage := .planWait }).enqueueRequest (.gauge l n)
  else (s.failPlan n .noPlan .noPlan).notify (.plannerFull l n)

end Sys2Proof.Machine
end

