-- ==== Sys2Proof/Machine/Tracking.lean ====
section
/-! DEFINITION. The shared operations of the Infeed Gauge and the Tracking Queue: spans, admission and the positional events
of a record (R11, R19 to R35). -/

namespace Sys2Proof.Machine

/-! ### Lane position -/

/-- The belt's travel since lane position was last told; lane position stands while the conveyor is stopped. -/
def State.travel (l : Lane) (d : Quad) (s : State) : State :=
  if s.conveyorRuns l then s.modLane l fun q => { q with position := q.position + d } else s

/-- Lane position, advancing, has come at or beyond a point (R29). -/
def State.advanceTo (l : Lane) (p : Quad) (s : State) : State :=
  s.modLane l fun q => { q with position := if atOrBeyond q.position p then q.position else p }

/-! ### Positional events (R30 to R33) -/

/-- R30: blade-line arrival. -/
def State.bladeLineEvent (l : Lane) (n : Nat) (s : State) : State :=
  match s.queued l n with
  | none => s
  | some r =>
    let s := s.updateRecord n fun r => { r with passed := { r.passed with bladeLine := true } }
    match r.plan with
    | some _ => s
    | none =>
      let s := s.failPlan n .latePlan .latePlan
      { s with planner := s.planner.withdraw n }

/-- R31: a PLANNED record whose plan has no cut still to make becomes SLICED. -/
def State.trailingEvent (l : Lane) (n : Nat) (s : State) : State :=
  match s.queued l n with
  | none => s
  | some r =>
    let s := s.updateRecord n fun r => { r with passed := { r.passed with trailing := true } }
    if r.stage = .planned ∧ (s.slicers.get l).doneWith n = true then s.updateRecord n LoafRecord.becomeSliced else s

/-- R32: reject-gate arrival. The removal is counted before the record is taken out of the queue, so that an automatic close
finds it in flight (R164). DESIGN CHOICE (entry 35): a diverter pulse fired while an earlier one still runs starts the 300 ms
afresh, so the earlier pulse has no end of its own. -/
def State.rejectGateEvent (l : Lane) (n : Nat) (s : State) : State :=
  match s.queued l n with
  | none => s
  | some r =>
    match r.disposition with
    | none => s.updateRecord n fun r => { r with passed := { r.passed with rejectGate := true } }
    | some reason =>
      let s := s.modLane l fun q => { q with diverter := some Limits.diverterMs }
      let s := s.countRejected r reason
      let s := (s.dequeue l n).modSlicer l (Slicer.dropCuts n)
      s.report r .rejectGate none none

/-- R33: what the router gate makes of a record whose lane slicing it ends. -/
def State.endSlicing (l : Lane) (r : LoafRecord) (s : State) : State :=
  match r.stage with
  | .planned | .slicing =>
    let left := (s.slicers.get l).hasCutsLeft r.number
    let s := s.modSlicer l (Slicer.dropCuts r.number)
    s.updateRecord r.number fun x => { (if left then x.miscut else x) with stage := .sliced }
  | .gauged | .planWait | .sliced | .waiting | .atHead => s

/-- R33: the WAITING records of a lane. -/
def LaneState.waitingCount (q : LaneState) : Nat := q.queue.countP (fun r => decide (r.stage = .waiting))

/-- R33, R34, R35: router-gate arrival. -/
def State.routerGateEvent (l : Lane) (n : Nat) (s : State) : State :=
  match s.queued l n with
  | none => s
  | some r =>
    let s := s.updateRecord n fun r => { r with passed := { r.passed with routerGate := true } }
    let s := s.endSlicing l r
    if (s.lanes.get l).waitingCount < Limits.waitingZone then
      let s := s.updateRecord n fun r => { r with stage := .waiting }
      let s := { s with router := { s.router with waitingOrder := s.router.waitingOrder ++ [(n, l)] } }
      s.attemptReleases
    else s.modLane l fun q => { q with gateHeld := some n }

/-- The four positional events (R29). -/
inductive Positional where
  | bladeLine
  | trailing
  | rejectGate
  | routerGate
deriving DecidableEq, Repr

/-- R29: the distance of an event's point from the record's lead position. -/
def Positional.distance (e : Positional) (g : Geometry) (r : LoafRecord) : Nat :=
  match e with
  | .bladeLine => g.dBlade
  | .trailing => g.dBlade + r.length
  | .rejectGate => g.dReject
  | .routerGate => g.dRouter

/-- R29: each event is taken once per record, the blade line before the reject gate and that before the router gate. -/
def Positional.due (e : Positional) (p : Passed) : Bool :=
  match e with
  | .bladeLine => !p.bladeLine
  | .trailing => p.bladeLine && !p.trailing
  | .rejectGate => p.bladeLine && !p.rejectGate
  | .routerGate => p.rejectGate && !p.routerGate

def State.positionalEvent (e : Positional) (l : Lane) (n : Nat) (s : State) : State :=
  match e with
  | .bladeLine => s.bladeLineEvent l n
  | .trailing => s.trailingEvent l n
  | .rejectGate => s.rejectGateEvent l n
  | .routerGate => s.routerGateEvent l n

/-- R29: lane position, advancing on a running belt, reaches a record's point for an event not yet taken. In any other case
the event is not taken. -/
def State.reach (e : Positional) (l : Lane) (n : Nat) (s : State) : State :=
  match s.queued l n with
  | none => s
  | some r =>
    if s.conveyorRuns l && e.due r.passed then
      State.finish s none ((s.advanceTo l (pointAt r.lead (e.distance (s.lanes.get l).geometry r))).positionalEvent e l n)
    else s

/-! ### Admission (R24 to R27) -/

/-- The number after this one, where the number after 65535 is 1 (R26). -/
def nextNumber (n : Nat) : Nat := if n < Limits.numberMax then n + 1 else 1

/-- R26: the first number from `n` on that no held record carries. -/
def freeNumber (held : List Nat) : Nat → Nat → Nat
  | 0, n => n
  | k + 1, n => if held.contains n then freeNumber held k (nextNumber n) else n

/-- R26: the number the next record is given. -/
def State.nextLoaf (s : State) : Nat :=
  freeNumber (s.held.map LoafRecord.number) (s.held.length + 1) (nextNumber s.lastLoaf)

/-- R24: the gap before a loaf. -/
def gapBefore (lead : Quad) : Option Quad → Nat
  | none => Limits.gapMax
  | some p => min Limits.gapMax (lead - p).toNat

/-- R24, R25: the record of a span classified as a loaf. -/
def LaneState.newRecord (q : LaneState) (l : Lane) (n : Nat) (lead : Quad) (highest : Nat) (p : ProductIx) (span : Nat) : LoafRecord :=
  { number := n, lane := l, product := p, lead := lead
    length := min span Limits.lengthMax
    height := min Limits.heightMax ((highest + 1) * q.geometry.beamPitch)
    gapBefore := gapBefore lead q.previous
    flags := ⟨decide (gapBefore lead q.previous < q.geometry.minGap), decide (Limits.lengthMax < span), false, false, false⟩
    stage := .gauged, plan := none, cutsDone := 0, disposition := none, marked := false, hits := Vector.replicate 4 false
    head := none, tie := none, passed := ⟨false, false, false, false⟩ }

/-- R27 step 5: the positional events in increasing order of position. -/
def Positional.inOrder (g : Geometry) (r : LoafRecord) : List Positional :=
  let t := Positional.distance .trailing g r
  if t ≤ g.dReject then [.bladeLine, .trailing, .rejectGate, .routerGate]
  else if t ≤ g.dRouter then [.bladeLine, .rejectGate, .trailing, .routerGate]
  else [.bladeLine, .rejectGate, .routerGate, .trailing]

/-- R27 step 5: a point that lane position has already reached is taken at once. -/
def State.takeReached (l : Lane) (r : LoafRecord) (s : State) (e : Positional) : State :=
  if atOrBeyond (s.lanes.get l).position (pointAt r.lead (e.distance (s.lanes.get l).geometry r)) then
    s.positionalEvent e l r.number
  else s

/-- R27: admission. Admitted is counted before the record joins the queue, so that an automatic close does not find it in
flight (R164). -/
def State.admitLoaf (l : Lane) (lead : Quad) (highest : Nat) (p : ProductIx) (span : Nat) (s : State) : State :=
  let n := s.nextLoaf
  let r := (s.lanes.get l).newRecord l n lead highest p span
  let s := { s with lastLoaf := n }.countAdmitted p
  let s := s.modLane l fun q => { q with queue := q.queue ++ [r] }
  let s := { s with planner := { s.planner with issued := s.planner.issued ++ [⟨l, n, false⟩] } }
  (Positional.inOrder (s.lanes.get l).geometry r).foldl (State.takeReached l r) s

/-! ### The infeed gauge (R11, R19 to R23) -/

/-- The highest beam blocked (R19). -/
def highestBeam (beams : BitVec 48) : Nat := (List.range 48).foldl (fun h k => if beams.getLsbD k then k else h) 0

/-- R11: the product fixed for the entering span. -/
def Assignment.fixed (a : Assignment) : Option ProductIx :=
  match a.pending with
  | none => a.active
  | some (some q) => some q
  | some none => a.active

/-- R11: the lane's products after the leading edge. -/
def Assignment.settled (a : Assignment) : Assignment :=
  match a.pending with
  | none => a
  | some x => ⟨x, none⟩

/-- R11, R19, R138: the leading-edge event. -/
def State.leadingEdgeEvent (l : Lane) (beams : BitVec 48) (s : State) : State :=
  let a := s.assign.get l
  let s := s.modAssign l Assignment.settled
  let s := if a.settled.active = a.active then s else s.notify (.productActive l a.active a.settled.active)
  let s := s.modLane l fun q => { q with window := .span q.position (highestBeam beams) a.fixed }
  if (s.crumb.get l).step = .purging then s.settlePurge l .leadingEdge else s

/-- The beams of a lane's curtain as now blocked. -/
def State.setCurtain (l : Lane) (beams : BitVec 48) (s : State) : State :=
  { s with inputs := { s.inputs with curtain := s.inputs.curtain.set l beams } }

/-- R19, R20: beams become blocked. With the gauge CLEAR this is a leading edge; in SPAN it may raise the highest beam; in
VOID it has no effect on the gauge. -/
def State.beamsBlocked (l : Lane) (travel : Quad) (beams : BitVec 48) (s : State) : State :=
  if beams = 0 then s
  else
    let t := (s.travel l travel).setCurtain l beams
    match (s.lanes.get l).window with
    | .clear => State.finish s none (t.leadingEdgeEvent l beams)
    | .span lead highest p => t.modLane l fun q => { q with window := .span lead (max highest (highestBeam beams)) p }
    | .void => t

/-- R21 to R23: the classification of a span and what it makes of it. -/
def State.classifySpan (l : Lane) (lead : Quad) (highest : Nat) (product : Option ProductIx) (s : State) : State :=
  let q := s.lanes.get l
  let span := q.position - lead
  match product with
  | none => s.modLaneTotals l fun t => { t with debris := satAdd Limits.max32 t.debris 1 }
  | some p =>
    if span.toNat < q.geometry.debrisLen then s.modLaneTotals l fun t => { t with debris := satAdd Limits.max32 t.debris 1 }
    else if Limits.queuePlaces ≤ q.queue.length then s.notify (.queueOverrun l lead span)
    else s.admitLoaf l lead highest p span.toNat

/-- R21: at the close the previous trailing edge becomes the current position and the gauge goes to CLEAR. -/
def State.closeWindow (l : Lane) (s : State) : State :=
  s.modLane l fun q => { q with previous := some q.position, window := .clear }

/-- R21: the last blocked beam clears: a trailing edge in SPAN, a void close in VOID. With the gauge CLEAR no beam was
blocked and no event is taken. DESIGN CHOICE (entry 5): the row then tells the travel of the belt under a clear curtain, so
that a read between two events of the lane finds the position as it stands (R40). -/
def State.curtainClears (l : Lane) (travel : Quad) (s : State) : State :=
  let t := (s.travel l travel).setCurtain l 0
  match (s.lanes.get l).window with
  | .clear => t
  | .span lead highest p => State.finish s none ((t.classifySpan l lead highest p).closeWindow l)
  | .void => State.finish s none (t.closeWindow l)

end Sys2Proof.Machine
end

