-- ==== Sys2Proof/Machine/Lanes.lean ====
section
/-! DEFINITION. The lanes: geometry settings, reads of the tracking queue, the events of the infeed gauge, the positional
events and the diverter (R15 to R33, R40, R41). -/

namespace Sys2Proof.Machine

/-! ### Lane geometry (R15 to R17) -/

/-- R15: an item's value lies within its range. -/
def geometryPairOk (p : Setting) : Bool :=
  match p.item.toNat with
  | 1 => inRange 500 20000 p.value.toNat
  | 2 => inRange 501 30000 p.value.toNat
  | 3 => inRange 502 40000 p.value.toNat
  | 4 => inRange 0 2000 p.value.toNat
  | 5 => inRange 10 500 p.value.toNat
  | 6 => inRange 10 60 p.value.toNat
  | _ => false

/-- One pair applied. -/
def Geometry.apply (g : Geometry) (p : Setting) : Geometry :=
  match p.item.toNat with
  | 1 => { g with dBlade := p.value.toNat }
  | 2 => { g with dReject := p.value.toNat }
  | 3 => { g with dRouter := p.value.toNat }
  | 4 => { g with minGap := p.value.toNat }
  | 5 => { g with debrisLen := p.value.toNat }
  | 6 => { g with beamPitch := p.value.toNat }
  | _ => g

/-- R15: D_blade < D_reject < D_router. -/
def Geometry.ordered (g : Geometry) : Bool := decide (g.dBlade < g.dReject) && decide (g.dReject < g.dRouter)

/-- R16, steps 3 to 5: the lane's geometry with every pair applied in list order, if the list passes. -/
def Geometry.withPairs (pairs : List Setting) (g : Geometry) : Option Geometry :=
  if inRange 1 12 pairs.length && pairs.all geometryPairOk && (pairs.foldl Geometry.apply g).ordered then
    some (pairs.foldl Geometry.apply g)
  else none

/-- R16: LANE SETTINGS. -/
def doLaneSettings (lane : Byte) (pairs : List Setting) (s : State) : Served :=
  onLane lane s fun l =>
    let g := (s.lanes.get l).geometry
    if s.line.state = .stopped then
      match g.withPairs pairs with
      | none => refuse s .badValue g.bytes
      | some g' => served (s.modLane l fun q => { q with geometry := g' }) g'.bytes
    else refuse s .wrongState g.bytes

/-- LANE SETTINGS (R16). -/
def execLaneSettings (tag lane : Byte) (pairs : List Setting) (s : State) : Host.Outcome State Fault Refusal :=
  .next (s.arrive (requestFrame (.laneSettings tag lane pairs)) (doLaneSettings lane pairs))

/-- R17: READ LANE SETTINGS. -/
def doReadLaneSettings (lane : Byte) (s : State) : Served :=
  onLane lane s fun l => served s (s.lanes.get l).geometry.bytes

/-- READ LANE SETTINGS (R17). -/
def execReadLaneSettings (tag lane : Byte) (s : State) : Host.Outcome State Fault Refusal :=
  .next (s.arrive (requestFrame (.readLaneSettings tag lane)) (doReadLaneSettings lane))

/-! ### Reading the lanes (R40, R41) -/

/-- R40: READ QUEUE. -/
def doReadQueue (lane place : Byte) (s : State) : Served :=
  onLane lane s fun l =>
    if place.toNat ≤ 23 then
      served s (s.laneHeader l ++ ((((s.lanes.get l).queue.drop place.toNat).take 6).map LoafRecord.bytes).flatten)
    else refuse s .badValue

/-- READ QUEUE (R40). -/
def execReadQueue (tag lane place : Byte) (s : State) : Host.Outcome State Fault Refusal :=
  .next (s.arrive (requestFrame (.readQueue tag lane place)) (doReadQueue lane place))

/-- R41: where a held record is: the place code and the queue place. -/
def State.whereHeld (n : Nat) (s : State) : List Byte :=
  let isIt := fun (r : LoafRecord) => r.number == n
  if s.lanes.a.queue.any isIt then 0 :: beBytes 1 (s.lanes.a.queue.findIdx isIt)
  else if s.lanes.b.queue.any isIt then 1 :: beBytes 1 (s.lanes.b.queue.findIdx isIt)
  else if s.heads.one.record.any isIt then [2, 0]
  else [3, 0]

/-- R41: READ LOAF. -/
def doReadLoaf (loaf : Half) (s : State) : Served :=
  if loaf = 0 then refuse s .badValue
  else
    match s.findRecord loaf.toNat with
    | none => refuse s .notPresent
    | some r =>
      served s (s.whereHeld loaf.toNat ++ r.block ++
        (match r.plan with
          | none => [0]
          | some p => 1 :: p.block))

/-- READ LOAF (R41). -/
def execReadLoaf (tag : Byte) (loaf : Half) (s : State) : Host.Outcome State Fault Refusal :=
  .next (s.arrive (requestFrame (.readLoaf tag loaf)) (doReadLoaf loaf))

/-! ### Events of the infeed gauge (R11, R19 to R24) -/

/-- LEADING_EDGE (R19): beams become blocked. -/
def execLeadingEdge (lane : Lane) (travel : Quad) (beams : BitVec 48) (s : State) : Host.Outcome State Fault Refusal :=
  .next (s.beamsBlocked lane travel beams)

/-- HIGHEST_BEAM_RAISE (R20): further beams become blocked. The same physical edge as LEADING_EDGE: which of the two it is
depends on the gauge (entry 2). -/
def execHighestBeamRaise (lane : Lane) (travel : Quad) (beams : BitVec 48) (s : State) : Host.Outcome State Fault Refusal :=
  .next (s.beamsBlocked lane travel beams)

/-- TRAILING_EDGE (R21): the last blocked beam clears; with the gauge CLEAR the travel alone is taken (entry 5). -/
def execTrailingEdge (lane : Lane) (travel : Quad) (s : State) : Host.Outcome State Fault Refusal :=
  .next (s.curtainClears lane travel)

/-- VOID_CLOSE (R21): the last blocked beam clears; a void close in VOID (entry 2), the travel alone in CLEAR (entry 5). -/
def execVoidClose (lane : Lane) (travel : Quad) (s : State) : Host.Outcome State Fault Refusal :=
  .next (s.curtainClears lane travel)

/-! ### Positional events (R29 to R33) -/

/-- BLADE_LINE_ARRIVAL (R30). -/
def execBladeLineArrival (lane : Lane) (loaf : Nat) (s : State) : Host.Outcome State Fault Refusal :=
  .next (s.reach .bladeLine lane loaf)

/-- TRAILING_EDGE_PAST_BLADE (R31). -/
def execTrailingEdgePastBlade (lane : Lane) (loaf : Nat) (s : State) : Host.Outcome State Fault Refusal :=
  .next (s.reach .trailing lane loaf)

/-- REJECT_GATE_ARRIVAL (R32). -/
def execRejectGateArrival (lane : Lane) (loaf : Nat) (s : State) : Host.Outcome State Fault Refusal :=
  .next (s.reach .rejectGate lane loaf)

/-- DIVERTER_PULSE_END (R32): the 300 ms output is withdrawn. -/
def execDiverterPulseEnd (lane : Lane) (s : State) : Host.Outcome State Fault Refusal :=
  .next (s.modLane lane fun q => { q with diverter := none })

/-- ROUTER_GATE_ARRIVAL (R33). -/
def execRouterGateArrival (lane : Lane) (loaf : Nat) (s : State) : Host.Outcome State Fault Refusal :=
  .next (s.reach .routerGate lane loaf)

end Sys2Proof.Machine
end

