-- ==== Sys2Proof/Machine/LineRequests.lean ====
section
/-! DEFINITION. Line Control's requests, the safety inputs, the resume window and power-on (R147 to R161). -/

namespace Sys2Proof.Machine

/-! ### Entry into RUNNING (R157) -/

/-- R71: each blade that is HOMING starts a homing move. -/
def State.homeBlades (s : State) : State := (s.startHoming .a).startHoming .b

/-- R143: a MANUAL purge under way is aborted, its notice marking a stop cause (R145). -/
def State.abortManual (l : Lane) (s : State) : State :=
  if (s.crumb.get l).mode = .manual ∧ ((s.crumb.get l).step = .purging ∨ (s.crumb.get l).step = .settling) then s.abortPurge false l
  else s

/-- R142: a waiting single purge enters GAP_WAIT. -/
def State.takeSingle (l : Lane) (s : State) : State :=
  if (s.crumb.get l).single then (s.enterGapWait l).modCrumb l fun c => { c with single := false } else s

/-- R157: the Crumb Controllers' entry into RUNNING, the single purges before the start tests (R142). -/
def State.crumbsRun (s : State) : State :=
  (((((s.abortManual .a).abortManual .b).takeSingle .a).takeSingle .b).startTest .a).startTest .b

/-- R157: START's entry into RUNNING. -/
def State.startLine (s : State) : State := ((s.setLine .running).homeBlades.crumbsRun).attemptReleases

/-- R157 steps 2 to 4: what forbids START in STOPPED. -/
def State.startForbidden (s : State) : Bool :=
  s.immediateCausePresent || s.clipEmptyPresent || (s.assign.a.active.isNone && s.assign.b.active.isNone)

/-- R157: START; a refusal carries the present causes and the active products. -/
def doStart (s : State) : Served :=
  if s.line.state ≠ .stopped ∨ s.startForbidden = true then
    refuse s .wrongState (s.causeList ++ [productCode s.assign.a.active, productCode s.assign.b.active])
  else
    let t := State.finish s none s.startLine
    served t [LineState.code t.line.state]

/-- START (R157). -/
def execStart (tag : Byte) (s : State) : Host.Outcome State Fault Refusal :=
  .next (s.arrive (requestFrame (.start tag)) doStart)

/-! ### STOP, RESUME, CLEAR (R155, R159, R161) -/

/-- R155: the cause a form of STOP raises. -/
def stopCauseOf (form : Byte) : Option Cause :=
  if form = 0 then some .commandStop else if form = 1 then some .commandHalt else none

/-- R155: STOP. -/
def doStop (form : Byte) (s : State) : Served :=
  match stopCauseOf form with
  | none => refuse s .badValue
  | some c =>
    let t := State.finish s none (s.raise c)
    served t [LineState.code s.line.state, LineState.code t.line.state]

/-- STOP (R155). -/
def execStop (tag form : Byte) (s : State) : Host.Outcome State Fault Refusal :=
  .next (s.arrive (requestFrame (.stop tag form)) (doStop form))

/-- R159 step 1: the causes RESUME ends. -/
def EventCauses.atResume (c : EventCauses) : EventCauses :=
  { c with slicerJam := ⟨false, false⟩, headJam := ⟨Option.none, Option.none⟩, bagEmpty := ⟨false, false⟩, commandHalt := false }

/-- R159 steps 1 and 2. -/
def State.endHalt (s : State) : State :=
  { s with line := { s.line with causes := s.line.causes.atResume, latched := none } }

/-- R159 step 3: the blocks' entry into RUNNING from HALTED, the heads taking the resume by the states the halt left them in. -/
def State.resumeLine (s : State) : State :=
  let one := s.heads.one.step
  let two := s.heads.two.step
  (((((s.setLine .running).homeBlades.crumbsRun).resumeHead one .one).resumeHead two .two)).attemptReleases

/-- R159 steps 4 and 5. The line may already drain, where a tie start of step 3 emptied a magazine, or have come to rest. -/
def State.openWindow (s : State) : State :=
  let s := if s.moving then { s with line := { s.line with window := some Limits.resumeWindowMs } } else s
  if s.line.state = .running ∧ s.pendingCausePresent = true then s.enterDraining else s

/-- R159: what forbids RESUME in HALTED. -/
def State.resumeForbidden (s : State) : Bool := s.eStopPresent || s.guardOpenPresent || s.line.causes.repeatFault

/-- R159: RESUME; a refusal carries the present causes. -/
def doResume (s : State) : Served :=
  if s.line.state ≠ .halted ∨ s.resumeForbidden = true then refuse s .wrongState s.causeList
  else
    let t := State.finish s none s.endHalt.resumeLine.openWindow
    served t [LineState.code t.line.state]

/-- RESUME (R159). -/
def execResume (tag : Byte) (s : State) : Host.Outcome State Fault Refusal :=
  .next (s.arrive (requestFrame (.resume tag)) doResume)

/-- R39: one record removed by the line clear. Counted before its removal, so that an automatic close finds it in flight. -/
def State.clearRecord (l : Lane) (s : State) (r : LoafRecord) : State :=
  ((s.countCleared r).dequeue l r.number).report r .lineClear none none

/-- R18, R34, R39: the lane's gauge and hold at a line clear. -/
def LaneState.cleared (beams : BitVec 48) (q : LaneState) : LaneState :=
  { q with queue := [], gateHeld := none, window := Window.fromCurtain beams, previous := none }

/-- R161 step 1, one lane. -/
def State.clearLane (l : Lane) (s : State) : State :=
  ((s.lanes.get l).queue.foldl (State.clearRecord l) s).modLane l (LaneState.cleared (s.inputs.curtain.get l))

/-- R161 step 1: both lanes, with their plan requests (R46) and the waiting order (R111). -/
def State.clearLanes (s : State) : State :=
  let s := (s.clearLane .a).clearLane .b
  { s with planner := s.planner.withdrawAll, router := { s.router with waitingOrder := [] } }

/-- R161 step 2. -/
def State.clearSlicers (s : State) : State := (s.modSlicer .a Slicer.cleared).modSlicer .b Slicer.cleared

/-- R161 step 3. -/
def State.clearHeads (s : State) : State :=
  (((s.modTier .one Tier.cleared).clearHead .one).modTier .two Tier.cleared).clearHead .two

/-- R161 step 4. -/
def State.clearCrumbs (s : State) : State :=
  let s := (s.abortPurge true .a).abortPurge true .b
  (s.modCrumb .a fun c => { c with single := false }).modCrumb .b fun c => { c with single := false }

/-- R161 step 5, R86. -/
def State.disarmChains (s : State) : State := { s with watch := { s.watch with chains := Vector.replicate 2 none } }

/-- R161 step 6. -/
def State.clearLine (s : State) : State :=
  let s := { s with line := { s.line with causes := EventCauses.none, latched := none, window := none } }
  if s.line.state = .stopped then s else s.setLine .stopped

/-- R161: the line clear. -/
def State.lineClear (s : State) : State :=
  s.clearLanes.clearSlicers.clearHeads.clearCrumbs.disarmChains.clearLine

/-- R161: CLEAR, with the number of records cleared from each lane and head. -/
def doClear (s : State) : Served :=
  if s.moving then refuse s .wrongState
  else
    served (State.finish s none s.lineClear)
      (beBytes 1 s.lanes.a.queue.length ++ beBytes 1 s.lanes.b.queue.length ++
        [boolCode s.heads.one.record.isSome, boolCode s.heads.two.record.isSome])

/-- CLEAR (R161). -/
def execClear (tag : Byte) (s : State) : Host.Outcome State Fault Refusal :=
  .next (s.arrive (requestFrame (.clear tag)) doClear)

/-! ### READ LINE STATUS (R151) -/

/-- R151: the figures. -/
def State.statusReport (s : State) : List Byte :=
  [LineState.code s.line.state] ++ s.causeList ++ latchedBlock s.line.latched ++ timerCode s.line.window ++
  [boolCode (s.laneEmpty .a), boolCode (s.conveyorRuns .a), boolCode (s.laneEmpty .b), boolCode (s.conveyorRuns .b),
    boolCode s.heads.one.record.isSome, boolCode s.heads.two.record.isSome, boolCode s.inputs.eStop, fourBits s.inputs.guards]

/-- R151: READ LINE STATUS; the latched cause is cleared once its value stands in the reply. -/
def doReadLineStatus (s : State) : Served :=
  served { s with line := { s.line with latched := none } } s.statusReport

/-- READ_LINE_STATUS (R151). -/
def execReadLineStatus (tag : Byte) (s : State) : Host.Outcome State Fault Refusal :=
  .next (s.arrive (requestFrame (.readLineStatus tag)) doReadLineStatus)

/-! ### Safety inputs and resume window (R150, R152, R154) -/

/-- The e-stop input as now seen. -/
def State.setEStop (level : Bool) (s : State) : State := { s with inputs := { s.inputs with eStop := level } }

/-- A guard input as now seen. -/
def State.setGuard (g : Fin 4) (isOpen : Bool) (s : State) : State :=
  { s with inputs := { s.inputs with guards := s.inputs.guards.set g isOpen } }

/-- E_STOP_ASSERTED (R152): raised when the input becomes asserted. -/
def execEStopAsserted (s : State) : Host.Outcome State Fault Refusal :=
  if s.inputs.eStop then .next s else .next (State.finish s none ((s.setEStop true).raise .eStop))

/-- E_STOP_RELEASED (R150). -/
def execEStopReleased (s : State) : Host.Outcome State Fault Refusal := .next (s.setEStop false)

/-- GUARD_OPENS (R152): raised whether or not another guard is already open. -/
def execGuardOpens (guard : Fin 4) (s : State) : Host.Outcome State Fault Refusal :=
  if s.inputs.guards[guard] then .next s else .next (State.finish s none ((s.setGuard guard true).raise (.guardOpen guard)))

/-- GUARD_CLOSES (R150). -/
def execGuardCloses (guard : Fin 4) (s : State) : Host.Outcome State Fault Refusal := .next (s.setGuard guard false)

/-- RESUME_WINDOW_EXPIRY (R154). -/
def execResumeWindowExpiry (s : State) : Host.Outcome State Fault Refusal :=
  .next { s with line := { s.line with window := none } }

/-- POWER_ON (R147): every block in its power-on values, read from the plant inputs as they stand. -/
def execPowerOn (s : State) : Host.Outcome State Fault Refusal := .next (State.powerOn s.inputs s.pending)

end Sys2Proof.Machine
end

