-- ==== Sys2Proof/Config.lean ====
section
/-! DEFINITION. The free values of the model: constants without a body, about which nothing can be proved. -/

namespace Sys2Proof

/-- DESIGN CHOICE (entry 19). The lane byte of a READ PLANNER STATUS reply that reports no plan in progress: R182 lays out
the byte and no rule gives its value. Applied to the plan count. -/
opaque Config.planlessLaneByte : Nat → Byte

end Sys2Proof
end

