-- ==== Sys2Proof/Machine/Planning.lean ====
section
/-! DEFINITION. The Slice Planner's requests and events (R43 to R47, R59). -/

namespace Sys2Proof.Machine

/-! ### Trial plans (R47) -/

/-- R47: TRIAL PLAN; an accepted request is deferred to its completion. -/
def doTrialPlan (lane : Byte) (length height : Half) (product : Byte) (s : State) : Served :=
  onLane lane s fun l =>
    if inRange 1 16383 length.toNat && decide (height.toNat ≤ 2000) then
      onProduct product s fun p =>
        if s.products[p].isNone then refuse s .notPresent
        else if s.planner.queue.length < Limits.plannerPlaces then
          { state := s.enqueueRequest (.trial l length.toNat height.toNat p), reply := none }
        else refuse s .busy
    else refuse s .badValue

/-- TRIAL_PLAN (R47). -/
def execTrialPlan (tag lane : Byte) (length height : Half) (product : Byte) (s : State) : Host.Outcome State Fault Refusal :=
  .next (s.arrive (requestFrame (.trialPlan tag lane length height product)) (doTrialPlan lane length height product))

/-! ### Planner status (R59) -/

/-- The kind, lane and loaf number of a request; no loaf number for a trial. -/
def PlanRequest.bytes : PlanRequest → List Byte
  | .gauge l n => 1 :: Lane.code l :: beBytes 2 n
  | .trial l _ _ _ => 2 :: Lane.code l :: beBytes 2 0

/-- The plan in progress. With none, no rule gives the lane byte: it is a free value (entry 19). -/
def Planner.currentBytes (p : Planner) : List Byte :=
  match p.current with
  | none => [0, Config.planlessLaneByte p.count, 0, 0, 0]
  | some c => c.request.bytes ++ [boolCode c.withdrawn]

/-- R59: the figures reported. -/
def State.plannerReport (s : State) : List Byte :=
  s.planner.currentBytes ++ beBytes 1 s.planner.queue.length ++ (s.planner.queue.map PlanRequest.bytes).flatten ++
  [boolCode s.planner.overflow] ++ beBytes 4 s.planner.count ++
  [boolCode s.slicers.a.wearLimit, boolCode s.slicers.b.wearLimit]

/-- R59: READ PLANNER STATUS; OVF is cleared once its value stands in the reply. -/
def doReadPlannerStatus (s : State) : Served :=
  served { s with planner := { s.planner with overflow := false } } s.plannerReport

/-- READ_PLANNER_STATUS (R59). -/
def execReadPlannerStatus (tag : Byte) (s : State) : Host.Outcome State Fault Refusal :=
  .next (s.arrive (requestFrame (.readPlannerStatus tag)) doReadPlannerStatus)

/-! ### Arrivals and completions (R43, R45, R47) -/

/-- The issued request of this lane and loaf. -/
def IssuedRequest.isFor (l : Lane) (n : Nat) (r : IssuedRequest) : Bool := decide (r.lane = l) && r.loaf == n

/-- R43: the arrival of an issued gauge request; withdrawn on its way, it is discarded. -/
def State.arrival (l : Lane) (n : Nat) (s : State) : State :=
  match s.planner.issued.find? (IssuedRequest.isFor l n) with
  | none => s
  | some r =>
    let t := { s with planner := { s.planner with issued := s.planner.issued.eraseP (IssuedRequest.isFor l n) } }
    if r.withdrawn then t else State.finish s none (t.takeArrival l n)

/-- GAUGE_REQUEST_ARRIVAL (R43). -/
def execGaugeRequestArrival (lane : Lane) (loaf : Nat) (s : State) : Host.Outcome State Fault Refusal :=
  .next (s.arrival lane loaf)

/-- PLAN_COMPLETION (R45): taken while a gauge request's plan is in progress. -/
def execPlanCompletion (s : State) : Host.Outcome State Fault Refusal :=
  match s.planner.current with
  | none => .next s
  | some c =>
    match c.request with
    | .gauge l n => .next (State.finish s none (s.completeGauge l n c))
    | .trial _ _ _ _ => .next s

/-- R47: the deferred reply of the trial in the handled place. -/
def State.replyTrial (p : Plan) (s : State) : State :=
  match s.link.handled with
  | none => s
  | some h =>
    match h.reply with
    | none => s.formReply h.request .ok p.block false
    | some _ => s

/-- TRIAL_PLAN_COMPLETION (R47): OVF and the plan count, the reply, then the oldest queued request starts. -/
def execTrialPlanCompletion (s : State) : Host.Outcome State Fault Refusal :=
  match s.planner.current with
  | none => .next s
  | some c =>
    match c.request with
    | .gauge _ _ => .next s
    | .trial _ _ _ _ =>
      .next (({ s with planner := s.planner.completed c.inputs.plan }.replyTrial c.inputs.plan).startNext)

end Sys2Proof.Machine
end

