-- ==== Sys2Proof/Machine/Products.lean ====
section
/-! DEFINITION. The Product Table's requests: product entries, lane assignments and day codes (R3 to R5, R8 to R10, R12,
R13). A request's effect and reply are one definition `do…`; its command is the arrival of its frame at the Link Port. -/

namespace Sys2Proof.Machine

/-! ### Product entries -/

/-- R3 step 2: every field in its range and T_min ≤ T_nom ≤ T_max; the entry the body describes. -/
def productEntryOf (f : ProductBody) (sig : Option Half) : Option ProductEntry :=
  match boolOf f.wholeOk, finOf 8 f.shelfClass.toNat with
  | some w, some c =>
    if inRange 40 400 f.tNom.toNat && inRange 40 400 f.tMin.toNat && inRange 40 400 f.tMax.toNat &&
        inRange 0 1000 f.heel.toNat && inRange 0 30 f.kerf.toNat && inRange 1 60 f.nMax.toNat &&
        decide (f.tMin.toNat ≤ f.tNom.toNat) && decide (f.tNom.toNat ≤ f.tMax.toNat) then
      some ⟨f.article.toNat, f.tNom.toNat, f.tMin.toNat, f.tMax.toNat, f.heel.toNat, f.kerf.toNat, f.nMax.toNat,
        f.crumbFactor.toNat, w, c, sig⟩
    else none
  | _, _ => none

/-- An entry's state and fields as they become. -/
def State.setEntry (p : ProductIx) (e : Option ProductEntry) (s : State) : State := { s with products := s.products.set p e }

/-- R3: WRITE PRODUCT. -/
def doWriteProduct (index : Byte) (fields : ProductBody) (signature : Option Half) (s : State) : Served :=
  onProduct index s fun p =>
    match productEntryOf fields signature with
    | none => refuse s .badValue
    | some e =>
      if s.inUse p then refuse s .inUse
      else served (s.setEntry p (some e)) ((s.setEntry p (some e)).productReport p)

/-- WRITE PRODUCT (R3). -/
def execWriteProduct (tag index : Byte) (fields : ProductBody) (signature : Option Half) (s : State) :
    Host.Outcome State Fault Refusal :=
  .next (s.arrive (requestFrame (.writeProduct tag index fields signature)) (doWriteProduct index fields signature))

/-- R4: ERASE PRODUCT. -/
def doEraseProduct (index : Byte) (s : State) : Served :=
  onProduct index s fun p =>
    if s.products[p].isNone then refuse s .notPresent
    else if s.inUse p then refuse s .inUse
    else served (s.setEntry p none) []

/-- ERASE PRODUCT (R4). -/
def execEraseProduct (tag index : Byte) (s : State) : Host.Outcome State Fault Refusal :=
  .next (s.arrive (requestFrame (.eraseProduct tag index)) (doEraseProduct index))

/-- R5: READ PRODUCT. -/
def doReadProduct (index : Byte) (s : State) : Served :=
  onProduct index s fun p => served s (s.productReport p)

/-- READ PRODUCT (R5). -/
def execReadProduct (tag index : Byte) (s : State) : Host.Outcome State Fault Refusal :=
  .next (s.arrive (requestFrame (.readProduct tag index)) (doReadProduct index))

/-! ### Assignments -/

/-- R9, R10: the lane's products after an accepted ASSIGN PRODUCT. -/
def Assignment.order (stopped : Bool) (x : Option ProductIx) (a : Assignment) : Assignment :=
  if stopped then ⟨x, none⟩ else { a with pending := some x }

/-- An active and a pending product as the link carries them. -/
def Assignment.bytes (a : Assignment) : List Byte := [productCode a.active, pendingProductCode a.pending]

/-- R8: the entry a request names is DEFINED; NONE names no entry. -/
def State.defined (x : Option ProductIx) (s : State) : Bool :=
  match x with
  | none => true
  | some p => s.products[p].isSome

/-- R8 to R10: ASSIGN PRODUCT. -/
def doAssignProduct (lane product : Byte) (s : State) : Served :=
  onLane lane s fun l =>
    let prior := s.assign.get l
    match productOrNoneOf product with
    | none => refuse s .badValue (prior.bytes ++ prior.bytes)
    | some x =>
      if s.defined x then
        let new := prior.order (decide (s.line.state = .stopped)) x
        served (State.finish s none (s.modAssign l fun _ => new)) (prior.bytes ++ new.bytes)
      else refuse s .notPresent (prior.bytes ++ prior.bytes)

/-- ASSIGN PRODUCT (R8). -/
def execAssignProduct (tag lane product : Byte) (s : State) : Host.Outcome State Fault Refusal :=
  .next (s.arrive (requestFrame (.assignProduct tag lane product)) (doAssignProduct lane product))

/-- R12: one lane's figures. DESIGN CHOICE (entry 20): the gauge holds a loaf in its window while it is SPAN. -/
def State.assignmentReport (l : Lane) (s : State) : List Byte :=
  (s.assign.get l).bytes ++
  (match (s.lanes.get l).window with
    | .span _ _ p => [1, productCode p]
    | .clear => [0, 0xFF]
    | .void => [0, 0xFF])

/-- R12: READ ASSIGNMENT. -/
def doReadAssignment (s : State) : Served := served s (s.assignmentReport .a ++ s.assignmentReport .b)

/-- READ ASSIGNMENT (R12). -/
def execReadAssignment (tag : Byte) (s : State) : Host.Outcome State Fault Refusal :=
  .next (s.arrive (requestFrame (.readAssignment tag)) doReadAssignment)

/-! ### Day codes -/

/-- R13: a pair's index and characters. -/
def DayPair.ok (p : DayPair) : Bool :=
  decide (p.index.toNat ≤ 7) && codeChar p.c1 && codeChar p.c2 && codeChar p.c3

/-- No index stands in two pairs. -/
def distinctBytes : List Byte → Bool
  | [] => true
  | x :: rest => !rest.contains x && distinctBytes rest

/-- R13: the whole list passes. -/
def dayPairsOk (pairs : List DayPair) : Bool :=
  decide (pairs.length ≤ 8) && pairs.all DayPair.ok && distinctBytes (pairs.map DayPair.index)

/-- One pair sets its entry. -/
def setDayCode (codes : Vector DayCode 8) (p : DayPair) : Vector DayCode 8 :=
  match finOf 8 p.index.toNat with
  | some k => codes.set k ⟨p.c1, p.c2, p.c3⟩
  | none => codes

/-- R13: WRITE DAY CODES. -/
def doWriteDayCodes (pairs : List DayPair) (s : State) : Served :=
  if dayPairsOk pairs then
    let t := { s with dayCodes := pairs.foldl setDayCode s.dayCodes }
    served t t.dayCodeBytes
  else refuse s .badValue s.dayCodeBytes

/-- WRITE DAY CODES (R13). -/
def execWriteDayCodes (tag : Byte) (pairs : List DayPair) (s : State) : Host.Outcome State Fault Refusal :=
  .next (s.arrive (requestFrame (.writeDayCodes tag pairs)) (doWriteDayCodes pairs))

end Sys2Proof.Machine
end

