-- ==== Sys2Proof/Machine/QualityWatch.lean ====
section
/-! DEFINITION. The Quality Watch's requests (R77, R78, R93, R94). -/

namespace Sys2Proof.Machine

/-- R77 step 3: the limits of a test are in order where its mode compares both. -/
def TestMode.limitsOk (m : TestMode) (low high : Nat) : Bool :=
  match m with
  | .inside | .outside => decide (low ≤ high)
  | .off | .below => true

/-- R77 steps 2 to 4: the entry a body describes, with fire count 0. -/
def watchEntryOf (i : Fin 4) (f : WatchBody) : Option WatchEntry :=
  match boolOf f.enable, laneSelectOf f.laneSelect, testModeOf f.lengthMode, testModeOf f.heightMode, outcomesOf f.outcomes,
    combineOf f.combine, boolOf f.chained, actionsOf f.actions with
  | some en, some ls, some lm, some hm, some os, some cb, some ch, some ac =>
    if inRange 0 15 f.productValue.toNat && inRange 0 15 f.productMask.toNat &&
        inRange 0 16383 f.lengthLow.toNat && inRange 0 16383 f.lengthHigh.toNat &&
        inRange 0 2000 f.heightLow.toNat && inRange 0 2000 f.heightHigh.toNat &&
        inRange 0 3 f.requiredFlags.toNat && inRange 1 255 f.armWindow.toNat &&
        lm.limitsOk f.lengthLow.toNat f.lengthHigh.toNat && hm.limitsOk f.heightLow.toNat f.heightHigh.toNat &&
        !(ch && isFirst i) then
      some
        { enable := en, productValue := BitVec.ofNat 4 f.productValue.toNat, productMask := BitVec.ofNat 4 f.productMask.toNat,
          laneSelect := ls, lengthMode := lm, lengthLow := f.lengthLow.toNat, lengthHigh := f.lengthHigh.toNat, heightMode := hm,
          heightLow := f.heightLow.toNat, heightHigh := f.heightHigh.toNat, needCloseGap := f.requiredFlags.getLsbD 0,
          needOverlong := f.requiredFlags.getLsbD 1, outcomes := os, combine := cb, chained := ch,
          armWindow := f.armWindow.toNat, actions := ac, fireCount := 0 }
    else none
  | _, _, _, _, _, _, _, _ => none

/-- R77, R86: the entry replaced and its pair's chain disarmed. -/
def Watch.write (i : Fin 4) (e : WatchEntry) (w : Watch) : Watch :=
  { w with entries := w.entries.set i e, chains := w.chains.set (pairOf i) none }

/-- R77: WRITE WATCH. -/
def doWriteWatch (entry : Byte) (fields : WatchBody) (s : State) : Served :=
  match finOf 4 entry.toNat with
  | none => refuse s .badValue
  | some i =>
    match watchEntryOf i fields with
    | none => refuse s .badValue
    | some e => served { s with watch := s.watch.write i e } (e.block i.val ++ (s.watch.write i e).chainBlock (pairOf i))

/-- WRITE_WATCH (R77). -/
def execWriteWatch (tag entry : Byte) (fields : WatchBody) (s : State) : Host.Outcome State Fault Refusal :=
  .next (s.arrive (requestFrame (.writeWatch tag entry fields)) (doWriteWatch entry fields))

/-- R78: READ WATCH. -/
def doReadWatch (s : State) : Served :=
  let w := s.watch
  served s (w.entries[0].block 0 ++ w.entries[1].block 1 ++ w.entries[2].block 2 ++ w.entries[3].block 3 ++
    w.chainBlock 0 ++ w.chainBlock 1 ++ [boolCode w.recording] ++ beBytes 1 w.capture.length)

/-- READ_WATCH (R78). -/
def execReadWatch (tag : Byte) (s : State) : Host.Outcome State Fault Refusal :=
  .next (s.arrive (requestFrame (.readWatch tag)) doReadWatch)

/-- R93: READ CAPTURE. -/
def doReadCapture (place : Byte) (s : State) : Served :=
  if place.toNat ≤ 15 then
    served s ([boolCode s.watch.recording] ++ beBytes 1 s.watch.capture.length ++
      (((s.watch.capture.drop place.toNat).take 8).map Summary.bytes).flatten)
  else refuse s .badValue

/-- READ_CAPTURE (R93). -/
def execReadCapture (tag place : Byte) (s : State) : Host.Outcome State Fault Refusal :=
  .next (s.arrive (requestFrame (.readCapture tag place)) (doReadCapture place))

/-- R94: FLUSH CAPTURE. -/
def doFlushCapture (s : State) : Served :=
  served { s with watch := { s.watch with capture := [] } } (beBytes 1 s.watch.capture.length)

/-- FLUSH_CAPTURE (R94). -/
def execFlushCapture (tag : Byte) (s : State) : Host.Outcome State Fault Refusal :=
  .next (s.arrive (requestFrame (.flushCapture tag)) doFlushCapture)

end Sys2Proof.Machine
end

