-- ==== Sys2Proof/Machine/RouterHeads.lean ====
section
/-! DEFINITION. The Lane Router's and the Bag Heads' requests and events (R96, R100 to R107, R112, R113). -/

namespace Sys2Proof.Machine

/-! ### CONNECT (R96) -/

/-- R96: a named head takes its source at once if it is IDLE, and otherwise when it is IDLE next. -/
def State.connectHead (h : Head) (src : Source) (s : State) : State :=
  if (s.heads.get h).step = .idle then s.giveSource h src
  else { s with router := { s.router with pending := s.router.pending.set h (some src) } }

/-- A head's active and pending sources as the link carries them. -/
def Router.sourceBytes (r : Router) (h : Head) : List Byte := [Source.code (r.active.get h), pendingSourceCode (r.pending.get h)]

/-- R96: prior and new sources of both heads. -/
def connectReply (before after : State) : List Byte :=
  before.router.sourceBytes .one ++ after.router.sourceBytes .one ++ before.router.sourceBytes .two ++ after.router.sourceBytes .two

/-- R96 step 1: a pair whose head is in range; the source may still be out of range. -/
def parsePair (p : SourcePair) : Option (Head × Option Source) := (headOf p.head).map fun h => (h, sourceOf p.source)

/-- The first pair's head, or every pair's. -/
def connectPairs (first : SourcePair) (second : Option SourcePair) : Option (List (Head × Option Source)) :=
  match parsePair first, second with
  | none, _ => none
  | some p, none => some [p]
  | some p, some q => (parsePair q).map fun x => [p, x]

/-- Two pairs name different heads. -/
def distinctHeads : List (Head × Option Source) → Bool
  | [p, q] => decide (p.1 ≠ q.1)
  | _ => true

/-- One pair's turn. -/
def State.connectPair (t : State) (p : Head × Option Source) : State :=
  match p.2 with
  | some src => t.connectHead p.1 src
  | none => t

/-- The named heads taken in turn. -/
def State.connectAll (pairs : List (Head × Option Source)) (s : State) : State := pairs.foldl State.connectPair s

/-- R96: CONNECT; where an IDLE head took a source, releases are attempted. -/
def doConnect (first : SourcePair) (second : Option SourcePair) (s : State) : Served :=
  match connectPairs first second with
  | none => refuse s .badValue
  | some pairs =>
    if pairs.all (fun p => p.2.isSome) && distinctHeads pairs then
      let atOnce := pairs.any fun p => decide ((s.heads.get p.1).step = .idle)
      let t := s.connectAll pairs
      let u := State.finish s none (if atOnce then t.attemptReleases else t)
      served u (connectReply s u)
    else refuse s .badValue (connectReply s s)

/-- CONNECT (R96). -/
def execConnect (tag : Byte) (first : SourcePair) (second : Option SourcePair) (s : State) : Host.Outcome State Fault Refusal :=
  .next (s.arrive (requestFrame (.connect tag first second)) (doConnect first second))

/-! ### Settings and reads (R112, R113) -/

/-- R112: an item's value lies within its range; item 6 is a letter A to Z. -/
def headPairOk (p : Setting) : Bool :=
  match p.item.toNat with
  | 1 | 2 | 3 | 4 | 5 => inRange 100 2000 p.value.toNat
  | 6 => inRange 0x41 0x5A p.value.toNat
  | _ => false

/-- Items 1 to 5 applied to a head's timeouts. -/
def Timeouts.apply (t : Timeouts) (p : Setting) : Timeouts :=
  match p.item.toNat with
  | 1 => { t with opening := p.value.toNat }
  | 2 => { t with loading := p.value.toNat }
  | 3 => { t with gathering := p.value.toNat }
  | 4 => { t with tying := p.value.toNat }
  | 5 => { t with discharging := p.value.toNat }
  | _ => t

/-- Item 6 applied to the line id. -/
def applyLineId (id : Byte) (p : Setting) : Byte := if p.item = 6 then BitVec.ofNat 8 p.value.toNat else id

/-- The five timeouts. -/
def Timeouts.bytes (t : Timeouts) : List Byte :=
  beBytes 2 t.opening ++ beBytes 2 t.loading ++ beBytes 2 t.gathering ++ beBytes 2 t.tying ++ beBytes 2 t.discharging

/-- R112: HEAD SETTINGS. -/
def doHeadSettings (head : Byte) (pairs : List Setting) (s : State) : Served :=
  onHead head s fun h =>
    if inRange 1 12 pairs.length && pairs.all headPairOk then
      let t := { s.modHead h fun x => { x with timeouts := pairs.foldl Timeouts.apply x.timeouts } with
                 lineId := pairs.foldl applyLineId s.lineId }
      served t ((t.heads.get h).timeouts.bytes ++ [t.lineId])
    else refuse s .badValue

/-- HEAD_SETTINGS (R112). -/
def execHeadSettings (tag head : Byte) (pairs : List Setting) (s : State) : Host.Outcome State Fault Refusal :=
  .next (s.arrive (requestFrame (.headSettings tag head pairs)) (doHeadSettings head pairs))

/-- The first `places` blocks of `size` bytes each, unused places 0. -/
def padded (places size : Nat) (blocks : List (List Byte)) : List Byte :=
  (blocks.take places).flatten ++ List.replicate (size * (places - (blocks.take places).length)) 0

/-- R113: the figures of READ ROUTER. -/
def Router.report (r : Router) : List Byte :=
  r.sourceBytes .one ++ r.sourceBytes .two ++
  beBytes 1 r.idleOrder.length ++ padded 2 1 (r.idleOrder.map fun h => [Head.code h]) ++
  beBytes 1 r.waitingOrder.length ++ padded 4 3 (r.waitingOrder.map fun w => beBytes 2 w.1 ++ [Lane.code w.2])

/-- R113: READ ROUTER. -/
def doReadRouter (s : State) : Served := served s s.router.report

/-- READ_ROUTER (R113). -/
def execReadRouter (tag : Byte) (s : State) : Host.Outcome State Fault Refusal :=
  .next (s.arrive (requestFrame (.readRouter tag)) doReadRouter)

/-- R113: the figures of READ HEAD. -/
def State.headReport (h : Head) (s : State) : List Byte :=
  let x := s.heads.get h
  [HeadStep.code x.step, boolCode x.direct] ++ beBytes 1 x.misses ++ beBytes 2 ((x.record.map LoafRecord.number).getD 0) ++
  timerCode x.timer ++ x.timeouts.bytes ++ [(s.inputs.heads.get h).byte]

/-- R113: READ HEAD. -/
def doReadHead (head : Byte) (s : State) : Served := onHead head s fun h => served s (s.headReport h)

/-- READ_HEAD (R113). -/
def execReadHead (tag head : Byte) (s : State) : Host.Outcome State Fault Refusal :=
  .next (s.arrive (requestFrame (.readHead tag head)) (doReadHead head))

/-! ### Completion inputs (R100 to R105) -/

/-- A head's completion inputs as now seen. -/
def State.setHeadInputs (h : Head) (f : HeadInputs → HeadInputs) (s : State) : State :=
  { s with inputs := { s.inputs with heads := s.inputs.heads.set h (f (s.inputs.heads.get h)) } }

/-- The level an edge leaves. -/
def edgeLevel : Edge → Bool
  | .rises => true
  | .falls => false

/-- An input last seen at `level` becomes asserted: one that is asserted already must clear first (R100, R121). -/
def becomesAsserted (level : Bool) (e : Edge) : Bool := edgeLevel e && !level

/-- R100: a completion input, last seen at `level`, becomes asserted in the state it completes, while the line is not HALTED. -/
def State.completes (step : HeadStep) (h : Head) (level : Bool) (e : Edge) (s : State) : Bool :=
  becomesAsserted level e && decide ((s.heads.get h).step = step) && decide (s.line.state ≠ .halted)

/-- BAG_OPEN (R102). -/
def execBagOpen (head : Head) (edge : Edge) (s : State) : Host.Outcome State Fault Refusal :=
  let t := s.setHeadInputs head fun i => { i with bagOpen := edgeLevel edge }
  if s.completes .opening head (s.inputs.heads.get head).bagOpen edge then .next (State.finish s none (t.takeBagOpen head)) else .next t

/-- LOAF_IN (R103). -/
def execLoafIn (head : Head) (edge : Edge) (s : State) : Host.Outcome State Fault Refusal :=
  let t := s.setHeadInputs head fun i => { i with loafIn := edgeLevel edge }
  if s.completes .loading head (s.inputs.heads.get head).loafIn edge then .next (State.finish s none (t.takeLoafIn head)) else .next t

/-- GATHER_DONE (R103). -/
def execGatherDone (head : Head) (edge : Edge) (s : State) : Host.Outcome State Fault Refusal :=
  let t := s.setHeadInputs head fun i => { i with gatherDone := edgeLevel edge }
  if s.completes .gathering head (s.inputs.heads.get head).gatherDone edge then .next (State.finish s none (t.takeGatherDone head)) else .next t

/-- DISCHARGE_CLEAR (R105). -/
def execDischargeClear (head : Head) (edge : Edge) (s : State) : Host.Outcome State Fault Refusal :=
  let t := s.setHeadInputs head fun i => { i with dischargeClear := edgeLevel edge }
  if s.completes .discharging head (s.inputs.heads.get head).dischargeClear edge then .next (State.finish s none (t.takeDischargeClear head)) else .next t

/-! ### Timers (R100, R102, R106) -/

/-- OPENING_TIMEOUT (R102): the timer runs out in OPENING. -/
def execOpeningTimeout (head : Head) (s : State) : Host.Outcome State Fault Refusal :=
  if (s.heads.get head).step = .opening ∧ (s.heads.get head).timer.isSome = true then
    .next (State.finish s none (s.takeOpeningTimeout head))
  else .next s

/-- BAG_FEED_PULSE_END (R100): the 100 ms output is withdrawn. -/
def execBagFeedPulseEnd (head : Head) (s : State) : Host.Outcome State Fault Refusal :=
  .next (s.modHead head fun x => { x with feedPulse := none })

/-- R106: the states whose timeout is a jam. -/
def HeadStep.jams : HeadStep → Bool
  | .loading | .gathering | .tying | .discharging => true
  | .idle | .opening | .bagOut => false

/-- HEAD_STATE_TIMEOUT (R106): HEAD_JAM is raised, and the timer stays stopped. -/
def execHeadStateTimeout (head : Head) (s : State) : Host.Outcome State Fault Refusal :=
  if (s.heads.get head).step.jams && (s.heads.get head).timer.isSome then
    .next (State.finish s none ((s.modHead head fun x => { x with timer := none }).raiseJam (.headJam head (s.heads.get head).step)))
  else .next s

end Sys2Proof.Machine
end

