-- ==== Sys2Proof/Machine/ShiftTotals.lean ====
section
/-! DEFINITION. Shift Totals' requests (R166, R169 to R171). -/

namespace Sys2Proof.Machine

/-- R166: the records of each product carried out of a shift closed now, products 0 to 15. -/
def State.carriedOutBytes (s : State) : List Byte :=
  ((List.finRange 16).map fun p => beBytes 1 (s.inFlight p)).flatten

/-- R166: CLOSE SHIFT. -/
def doCloseShift (s : State) : Served :=
  served (s.closeShift false) (beBytes 2 s.totals.shift ++ beBytes 2 (nextShift s.totals.shift) ++ s.carriedOutBytes)

/-- CLOSE_SHIFT (R166). -/
def execCloseShift (tag : Byte) (s : State) : Host.Outcome State Fault Refusal :=
  .next (s.arrive (requestFrame (.closeShift tag)) doCloseShift)

/-- R169: one product's running block, with in_flight. -/
def State.runningBlock (s : State) (p : ProductIx) : List Byte := s.totals.products[p].block p.val (s.inFlight p)

/-- R169: READ TOTALS. -/
def doReadTotals (first : Byte) (s : State) : Served :=
  onProduct first s fun p => served s (beBytes 2 s.totals.shift ++ ((fourFrom p).map s.runningBlock).flatten)

/-- READ_TOTALS (R169). -/
def execReadTotals (tag first : Byte) (s : State) : Host.Outcome State Fault Refusal :=
  .next (s.arrive (requestFrame (.readTotals tag first)) (doReadTotals first))

/-- R163: lane blocks A and B and head blocks 1 and 2. -/
def laneAndHeadBlocks (lanes : PerLane LaneTotals) (heads : PerHead HeadTotals) : List Byte :=
  lanes.a.block ++ lanes.b.block ++ heads.one.block ++ heads.two.block

/-- R170: READ LANE TOTALS. -/
def doReadLaneTotals (s : State) : Served :=
  served s (beBytes 2 s.totals.shift ++ laneAndHeadBlocks s.totals.lanes s.totals.heads)

/-- READ_LANE_TOTALS (R170). -/
def execReadLaneTotals (tag : Byte) (s : State) : Host.Outcome State Fault Refusal :=
  .next (s.arrive (requestFrame (.readLaneTotals tag)) doReadLaneTotals)

/-- R171: one product's block of the snapshot, with carried_out. -/
def Snapshot.productBlock (x : Snapshot) (p : ProductIx) : List Byte := x.products[p].block p.val x.carriedOut[p]

/-- R171: the blocks of a part: a first product, or the lane and head figures for LANES (none). -/
def Snapshot.part (x : Snapshot) : Option ProductIx → List Byte
  | some p => ((fourFrom p).map x.productBlock).flatten
  | none => laneAndHeadBlocks x.lanes x.heads

/-- R167, R171: READ SNAPSHOT. DESIGN CHOICE (entry 17): the part is checked first, so that with no snapshot held a part outside
0 to 15 and LANES is refused BAD_VALUE; the rules name both refusals without an order. -/
def doReadSnapshot (part : Byte) (s : State) : Served :=
  match productOrNoneOf part with
  | none => refuse s .badValue
  | some p =>
    match s.totals.snapshot with
    | none => refuse s .notPresent
    | some x => served s (beBytes 2 x.shift ++ [boolCode x.automatic] ++ x.part p)

/-- READ_SNAPSHOT (R171). -/
def execReadSnapshot (tag part : Byte) (s : State) : Host.Outcome State Fault Refusal :=
  .next (s.arrive (requestFrame (.readSnapshot tag part)) (doReadSnapshot part))

end Sys2Proof.Machine
end

