-- ==== Sys2Proof/Machine/Slicers.lean ====
section
/-! DEFINITION. The Slicer Stations' requests and events (R61 to R75). -/

namespace Sys2Proof.Machine

/-! ### Requests (R73 to R75) -/

/-- R73: SET WEAR RATE, clamped to 255. -/
def doSetWearRate (lane : Byte) (rate : Half) (s : State) : Served :=
  onLane lane s fun l =>
    let new := min rate.toNat Limits.wearRateMax
    served (s.modSlicer l fun sl => { sl with wearRate := new }) (beBytes 1 (s.slicers.get l).wearRate ++ beBytes 1 new)

/-- SET_WEAR_RATE (R73). -/
def execSetWearRate (tag lane : Byte) (rate : Half) (s : State) : Host.Outcome State Fault Refusal :=
  .next (s.arrive (requestFrame (.setWearRate tag lane rate)) (doSetWearRate lane rate))

/-- R74: a station after BLADE CHANGE: the new blade is not known to be home, and a stroke or move is abandoned uncounted. -/
def Slicer.newBlade (sl : Slicer) : Slicer := { sl with strokes := 0, wearLimit := false, blade := .homing false, timer := none }

/-- R74: BLADE CHANGE. DESIGN CHOICE (entry 17): the lane is checked before the line state. -/
def doBladeChange (lane : Byte) (s : State) : Served :=
  onLane lane s fun l =>
    if s.moving then refuse s .wrongState
    else served (s.modSlicer l Slicer.newBlade) (beBytes 3 (s.slicers.get l).strokes ++ [boolCode (s.slicers.get l).wearLimit])

/-- BLADE_CHANGE (R74). -/
def execBladeChange (tag lane : Byte) (s : State) : Host.Outcome State Fault Refusal :=
  .next (s.arrive (requestFrame (.bladeChange tag lane)) (doBladeChange lane))

/-- A cut as reported: loaf number and cut index, zeros for none. -/
def cutBytes : Option Cut → List Byte
  | none => [0, 0, 0]
  | some c => beBytes 2 c.loaf ++ beBytes 1 c.index

/-- The stroke in progress. -/
def Blade.stroke : Blade → Option Cut
  | .stroking c => some c
  | .home => none
  | .homing _ => none

/-- A homing move is in progress. -/
def Blade.isMoving : Blade → Bool
  | .homing moving => moving
  | .home => false
  | .stroking _ => false

/-- R75: the figures of a station. -/
def State.slicerReport (l : Lane) (s : State) : List Byte :=
  let sl := s.slicers.get l
  [Blade.code sl.blade, boolCode sl.blade.isMoving] ++ cutBytes sl.blade.stroke ++ cutBytes sl.pending ++
  beBytes 1 sl.schedule.length ++
  (match sl.schedule with
    | [] => [0, 0, 0]
    | e :: _ => beBytes 2 e.loaf ++ beBytes 1 e.next) ++
  beBytes 3 sl.strokes ++ beBytes 1 sl.wearRate ++ [boolCode sl.wearLimit, boolCode (s.inputs.bladeHome.get l)]

/-- R75: READ SLICER. -/
def doReadSlicer (lane : Byte) (s : State) : Served := onLane lane s fun l => served s (s.slicerReport l)

/-- READ_SLICER (R75). -/
def execReadSlicer (tag lane : Byte) (s : State) : Host.Outcome State Fault Refusal :=
  .next (s.arrive (requestFrame (.readSlicer tag lane)) (doReadSlicer lane))

/-! ### Cut due (R63 to R65) -/

/-- R63: the schedule after its oldest entry has been offered the cut `e.next` of a list of `count` cuts. -/
def advanceSchedule (e : ScheduleEntry) (count : Nat) (rest : List ScheduleEntry) : List ScheduleEntry :=
  if e.next + 1 < count then { e with next := e.next + 1 } :: rest else rest

/-- R64: the cut becomes pending, and late. -/
def State.holdCut (l : Lane) (c : Cut) (s : State) : State :=
  ((s.modSlicer l fun sl => { sl with pending := some c }).updateRecord c.loaf fun r =>
    { r with flags := { r.flags with lateCut := true } }).modLaneTotals l fun t =>
      { t with lateCuts := satAdd Limits.max32 t.lateCuts 1 }

/-- R63: what becomes of the cut just due. -/
def State.offerCut (l : Lane) (c : Cut) (s : State) : State :=
  match (s.slicers.get l).blade with
  | .home => s.startStroke l c
  | .stroking _ => if (s.slicers.get l).pending.isSome then s.abandonLoaf l c.loaf else s.holdCut l c
  | .homing _ => if (s.slicers.get l).pending.isSome then s.abandonLoaf l c.loaf else s.holdCut l c

/-- The cut of an entry: its record, plan and cut position. -/
def State.cutOf (l : Lane) (e : ScheduleEntry) (s : State) : Option (LoafRecord × Plan × Nat) :=
  match s.queued l e.loaf with
  | none => none
  | some r =>
    match r.plan with
    | none => none
    | some p =>
      match p.cuts[e.next]? with
      | none => none
      | some c => some (r, p, c)

/-- R63: the lane's next cut falls due, on a running belt. -/
def State.cutDue (l : Lane) (s : State) : State :=
  match (s.slicers.get l).schedule with
  | [] => s
  | e :: rest =>
    match s.cutOf l e with
    | none => s
    | some (r, p, c) =>
      if s.conveyorRuns l then
        let t := s.advanceTo l (pointAt r.lead ((s.lanes.get l).geometry.dBlade + c))
        let t := t.modSlicer l fun sl => { sl with schedule := advanceSchedule e p.cuts.length rest }
        State.finish s none (t.offerCut l ⟨e.loaf, e.next, r.product, p.crumbPerCut⟩)
      else s

/-- CUT_DUE (R63). -/
def execCutDue (lane : Lane) (s : State) : Host.Outcome State Fault Refusal := .next (s.cutDue lane)

/-! ### The blade-home input (R61, R66, R71) -/

/-- The blade-home input of a lane as now seen. -/
def State.setBladeHome (l : Lane) (level : Bool) (s : State) : State :=
  { s with inputs := { s.inputs with bladeHome := s.inputs.bladeHome.set l level } }

/-- R66 steps 1 to 3: the stroke, its crumb and its slice are counted. -/
def State.countStroke (l : Lane) (c : Cut) (s : State) : State :=
  let s := s.modSlicer l fun sl => { sl with strokes := satAdd Limits.max24 sl.strokes 1 }
  let s := s.modCrumb l fun x => { x with load := satAdd Limits.max24 x.load c.crumb }
  let s := s.modLaneTotals l fun t => { t with crumb := satAdd Limits.max48 t.crumb c.crumb }
  s.modProductTotals c.product fun t => { t with slices := satAdd Limits.max32 t.slices 1 }

/-- R66: stroke completion; the crumb addition asks for the lane's start test (R134). -/
def State.completeStroke (l : Lane) (c : Cut) (s : State) : State :=
  let s := s.countStroke l c
  let s := s.modSlicer l fun sl => { sl with blade := .home, timer := none }
  let s := (s.updateRecord c.loaf fun r => { r with cutsDone := r.cutsDone + 1 }).trySliced l c.loaf
  s.freeBlade l

/-- Blade-home becomes asserted: the completion of a stroke (R66) or of a homing move (R71), or HOME for a HOMING blade
without a move (R61). -/
def State.bladeHomeRises (l : Lane) (s : State) : State :=
  let t := s.setBladeHome l true
  match (s.slicers.get l).blade with
  | .home => t
  | .stroking c => State.finish s (some l) (t.completeStroke l c)
  | .homing true => State.finish s none (t.freeBlade l)
  | .homing false => t.modSlicer l fun sl => { sl with blade := .home }

/-- R61: blade-home clears; a HOME blade with no stroke given becomes HOMING, and is homed if the line runs. -/
def State.bladeHomeFalls (l : Lane) (s : State) : State :=
  let t := s.setBladeHome l false
  match (s.slicers.get l).blade with
  | .home =>
    let t := t.modSlicer l fun sl => { sl with blade := .homing false }
    if s.moving then t.startHoming l else t
  | .stroking _ => t
  | .homing _ => t

/-- Blade-home seen asserted: an input that stands asserted already has not become so (R61, R71). -/
def State.bladeHomeSeen (l : Lane) (s : State) : State := if s.inputs.bladeHome.get l then s else s.bladeHomeRises l

/-- STROKE_COMPLETION (R66): blade-home becomes asserted after clearing, whatever level was last seen (entry 2). -/
def execStrokeCompletion (lane : Lane) (s : State) : Host.Outcome State Fault Refusal := .next (s.bladeHomeRises lane)

/-- HOMING_COMPLETION (R71): the same physical edge; which of the three it is depends on the blade (entry 2). -/
def execHomingCompletion (lane : Lane) (s : State) : Host.Outcome State Fault Refusal := .next (s.bladeHomeSeen lane)

/-- BLADE_HOME_SEEN (R61): the same physical edge (entry 2). -/
def execBladeHomeSeen (lane : Lane) (s : State) : Host.Outcome State Fault Refusal := .next (s.bladeHomeSeen lane)

/-- BLADE_HOME_LOST (R61). -/
def execBladeHomeLost (lane : Lane) (s : State) : Host.Outcome State Fault Refusal := .next (s.bladeHomeFalls lane)

/-! ### Timeouts (R68, R71) -/

/-- R68 steps 1 to 4 and R71: the stroke or move is abandoned with its loaves. DEDUCED (entry 38): the start tests of a lane
whose record leaves the blade by it (R134), and the purge a lane made quiet can begin (R136), are taken before step 5 raises
the jam, while the line is still as the event found it. -/
def State.timeoutAbandons (l : Lane) (s : State) : State := State.purgeTests s none (s.abandonStroke l)

/-- The stroke or move is abandoned with its loaves, and SLICER_JAM is raised (R68 step 5). -/
def State.slicerTimeout (l : Lane) (s : State) : State :=
  State.finish (s.timeoutAbandons l) none ((s.timeoutAbandons l).raiseJam (.slicerJam l))

/-- STROKE_TIMEOUT (R68): the stroke timer runs out with the blade STROKING. -/
def execStrokeTimeout (lane : Lane) (s : State) : Host.Outcome State Fault Refusal :=
  if (s.slicers.get lane).blade.stroke.isSome && (s.slicers.get lane).timer.isSome then .next (s.slicerTimeout lane) else .next s

/-- HOMING_TIMEOUT (R71): the timer runs out during a homing move. -/
def execHomingTimeout (lane : Lane) (s : State) : Host.Outcome State Fault Refusal :=
  if (s.slicers.get lane).blade.isMoving && (s.slicers.get lane).timer.isSome then .next (s.slicerTimeout lane) else .next s

end Sys2Proof.Machine
end

