-- ==== Sys2Proof/Machine/Tiers.lean ====
section
/-! DEFINITION. The Clip Tiers' requests and events (R115, R120 to R129). -/

namespace Sys2Proof.Machine

/-! ### Magazine (R115) -/

/-- R115: the tier after RELOAD MAGAZINE. -/
def Tier.reload (count : Nat) (t : Tier) : Tier :=
  { t with magazine := count, loaded := count, used := 0, warmUp := Limits.warmUpTies }

/-- R115: RELOAD MAGAZINE, clamped to 2000; of 0 at a head with a source it raises CLIP_EMPTY. -/
def doReloadMagazine (head : Byte) (count : Half) (s : State) : Served :=
  onHead head s fun h =>
    let old := s.tiers.get h
    let new := min count.toNat Limits.magazineMax
    let t := s.modTier h (Tier.reload new)
    let t := if t.clipEmptyAt h then t.raise (.clipEmpty h) else t
    served (State.finish s none t) (beBytes 2 old.magazine ++ beBytes 2 old.loaded ++ beBytes 2 old.used ++ beBytes 2 new)

/-- RELOAD_MAGAZINE (R115). -/
def execReloadMagazine (tag head : Byte) (count : Half) (s : State) : Host.Outcome State Fault Refusal :=
  .next (s.arrive (requestFrame (.reloadMagazine tag head count)) (doReloadMagazine head count))

/-! ### Learning and checking (R124 to R126) -/

/-- R124: the two orders of LEARN SIGNATURE. -/
def Learn.order : Byte → Learn → Option Learn
  | 0x00#8, .none => some .armed
  | 0x00#8, .armed => some .armed
  | 0x00#8, .bound p => some (.bound p)
  | 0x01#8, _ => some .none
  | _, _ => Option.none

/-- A learn as the link carries it. -/
def Learn.bytes (x : Learn) : List Byte := [Learn.code x, Learn.boundCode x]

/-- R124: LEARN SIGNATURE. -/
def doLearnSignature (head order : Byte) (s : State) : Served :=
  onHead head s fun h =>
    let old := (s.tiers.get h).learn
    match old.order order with
    | none => refuse s .badValue
    | some new => served (s.modTier h fun t => { t with learn := new }) (old.bytes ++ new.bytes)

/-- LEARN_SIGNATURE (R124). -/
def execLearnSignature (tag head order : Byte) (s : State) : Host.Outcome State Fault Refusal :=
  .next (s.arrive (requestFrame (.learnSignature tag head order)) (doLearnSignature head order))

/-- A signature as the link carries it. DESIGN CHOICE (entry 37): the value bytes of an absent one are 0000h. -/
def signatureBytes (v : Option Half) : List Byte := boolCode v.isSome :: halfBytes (v.getD 0)

/-- R125, section 11.6: the value carried, or ABSENT with the value bytes 0 (entry 18). -/
def signatureOf (present : Byte) (value : Half) : Option (Option Half) :=
  if present = 1 then some (some value) else if present = 0 ∧ value = 0 then some none else none

/-- R125: some tier's learn is bound to the product. -/
def State.learnBoundTo (p : ProductIx) (s : State) : Bool :=
  decide (s.tiers.one.learn = .bound p) || decide (s.tiers.two.learn = .bound p)

/-- R125: SET SIGNATURE. -/
def doSetSignature (index present : Byte) (value : Half) (s : State) : Served :=
  onProduct index s fun p =>
    match signatureOf present value with
    | none => refuse s .badValue
    | some v =>
      if s.products[p].isNone then refuse s .notPresent
      else if s.learnBoundTo p then refuse s .inUse
      else served (s.setExpected p v) (signatureBytes (s.expectedSignature p) ++ signatureBytes v)

/-- SET_SIGNATURE (R125). -/
def execSetSignature (tag index present : Byte) (value : Half) (s : State) : Host.Outcome State Fault Refusal :=
  .next (s.arrive (requestFrame (.setSignature tag index present value)) (doSetSignature index present value))

/-- R126: the tier after TIE CHECK. -/
def Tier.setCheck (on : Bool) (t : Tier) : Tier :=
  { t with check := on, warmUp := if on then Limits.warmUpTies else t.warmUp }

/-- R126: the tiers a TIE CHECK names, tier 1 first. -/
def tiersNamed (head : Byte) : Option (List Head) :=
  if head = 0xFF then some [.one, .two] else (headOf head).map fun h => [h]

/-- R126: a tier's check and warm-up before and after. -/
def tieCheckBytes (before after : State) (h : Head) : List Byte :=
  [Head.code h, boolCode (before.tiers.get h).check] ++ beBytes 1 (before.tiers.get h).warmUp ++
  [boolCode (after.tiers.get h).check] ++ beBytes 1 (after.tiers.get h).warmUp

/-- R126: TIE CHECK. -/
def doTieCheck (head setting : Byte) (s : State) : Served :=
  match tiersNamed head, boolOf setting with
  | some hs, some on =>
    let t := hs.foldl (fun u h => u.modTier h (Tier.setCheck on)) s
    served t ((hs.map (tieCheckBytes s t)).flatten)
  | _, _ => refuse s .badValue

/-- TIE_CHECK (R126). -/
def execTieCheck (tag head setting : Byte) (s : State) : Host.Outcome State Fault Refusal :=
  .next (s.arrive (requestFrame (.tieCheck tag head setting)) (doTieCheck head setting))

/-! ### Reading a tier (R129) -/

/-- The tie in flight as reported, zeros for none. -/
def tieBytes : Option Tie → List Byte
  | none => [0, 0, 0, 0, 0, 0, 0, 0, 0]
  | some t => [1] ++ beBytes 2 t.loaf ++ [productCode (some t.product)] ++ beBytes 2 t.ticks ++ halfBytes t.signature ++ [boolCode t.interrupted]

/-- The last clip code as reported, zeros for none. -/
def clipCodeBytes : Option ClipCode → List Byte
  | none => [0, 0, 0, 0, 0]
  | some c => [c.day.c1, c.day.c2, c.day.c3, c.shift, c.line]

/-- R129: the figures of a tier. -/
def State.tierReport (h : Head) (s : State) : List Byte :=
  let t := s.tiers.get h
  beBytes 2 t.magazine ++ beBytes 2 t.loaded ++ beBytes 2 t.used ++ beBytes 1 t.warmUp ++ beBytes 1 t.streak ++ [boolCode t.check] ++
  t.learn.bytes ++ [productCode t.lastProduct] ++ signatureBytes t.lastSignature ++ clipCodeBytes t.lastCode ++ tieBytes t.tie ++
  [(s.inputs.tiers.get h).byte]

/-- R129: READ TIER. -/
def doReadTier (head : Byte) (s : State) : Served := onHead head s fun h => served s (s.tierReport h)

/-- READ_TIER (R129). -/
def execReadTier (tag head : Byte) (s : State) : Host.Outcome State Fault Refusal :=
  .next (s.arrive (requestFrame (.readTier tag head)) (doReadTier head))

/-! ### Cycle-complete and encoder ticks (R120, R121) -/

/-- A tier's inputs as now seen. -/
def State.setTierInputs (h : Head) (f : TierInputs → TierInputs) (s : State) : State :=
  { s with inputs := { s.inputs with tiers := s.inputs.tiers.set h (f (s.inputs.tiers.get h)) } }

/-- TIE_DONE (R121): cycle-complete becomes asserted while a tie is in flight and the line is not HALTED. One that is asserted
already, at the tie start or since, is taken only after it has cleared. -/
def execTieDone (head : Head) (edge : Edge) (s : State) : Host.Outcome State Fault Refusal :=
  let t := s.setTierInputs head fun i => { i with cycleComplete := edgeLevel edge }
  match (s.tiers.get head).tie with
  | none => .next t
  | some tie =>
    if becomesAsserted (s.inputs.tiers.get head).cycleComplete edge && decide (s.line.state ≠ .halted) then
      .next (State.finish s none (t.takeTieDone head tie))
    else .next t

/-- R120: a step byte folded into a tie's running signature. -/
def Tie.sample (lines : BitVec 4) (t : Tie) : Tie :=
  { t with signature := crcByte t.signature (lines.setWidth 8), ticks := satAdd Limits.max16 t.ticks 1 }

/-- R120: a tier encoder tick, taken during a tie in flight with the line not HALTED. -/
def State.tierTick (h : Head) (lines : BitVec 4) (s : State) : State :=
  if s.line.state = .halted then s else s.modTier h fun x => { x with tie := x.tie.map (Tie.sample lines) }

/-- TIER_ENCODER_TICK (R120). DESIGN CHOICE (entry 33): the row also carries a change of the step lines between two ticks, at
which nothing is sampled, so that READ TIER reports the lines as they stand (R129). -/
def execTierEncoderTick (head : Head) (lines : StepLines) (s : State) : Host.Outcome State Fault Refusal :=
  match lines with
  | .tick lines => .next ((s.setTierInputs head fun i => { i with lines := lines }).tierTick head lines)
  | .still lines => .next (s.setTierInputs head fun i => { i with lines := lines })

end Sys2Proof.Machine
end

