-- ==== Sys2Proof/Machine/LinkPort.lean ====
section
/-! DEFINITION. The Link Port: its own requests and the Notice Queue's, the handing of a frame to its owner, the receiver and
the end of a reply (R172 to R181). -/

namespace Sys2Proof.Machine

/-! ### Identity and notices (R178 to R181) -/

/-- R181: IDENTIFY. -/
def doIdentify (s : State) : Served := served s [0x4F, 0x4E, 0x34, 0x31, 0x32, 0x30, 0x43, s.lineId]

/-- IDENTIFY (R181). -/
def execIdentify (tag : Byte) (s : State) : Host.Outcome State Fault Refusal :=
  .next (s.arrive (requestFrame (.identify tag)) doIdentify)

/-- R178: READ NOTICES; forming the reply clears notice lost after reporting it. -/
def doReadNotices (count : Byte) (s : State) : Served :=
  if inRange 1 8 count.toNat then
    let taken := s.notices.queue.take count.toNat
    let left := s.notices.queue.drop count.toNat
    { state := { s with notices := { s.notices with queue := left } }
      reply := some (.ok, beBytes 1 taken.length ++ beBytes 1 left.length ++ (taken.map Notice.record).flatten)
      clearsLost := true }
  else refuse s .badValue

/-- READ_NOTICES (R178). -/
def execReadNotices (tag count : Byte) (s : State) : Host.Outcome State Fault Refusal :=
  .next (s.arrive (requestFrame (.readNotices tag count)) (doReadNotices count))

/-- R179: FLUSH NOTICES. -/
def doFlushNotices (s : State) : Served :=
  served { s with notices := { s.notices with queue := [] } } (beBytes 1 s.notices.queue.length)

/-- FLUSH_NOTICES (R179). -/
def execFlushNotices (tag : Byte) (s : State) : Host.Outcome State Fault Refusal :=
  .next (s.arrive (requestFrame (.flushNotices tag)) doFlushNotices)

/-- R179: SET NOTICE CLASSES. -/
def doSetNoticeClasses (classes : Byte) (s : State) : Served :=
  served { s with notices := { s.notices with enabled := classes } } [s.notices.enabled, classes]

/-- SET_NOTICE_CLASSES (R179). -/
def execSetNoticeClasses (tag classes : Byte) (s : State) : Host.Outcome State Fault Refusal :=
  .next (s.arrive (requestFrame (.setNoticeClasses tag classes)) (doSetNoticeClasses classes))

/-- R180: SET LOAF REPORTS. -/
def doSetLoafReports (mode : Byte) (s : State) : Served :=
  match reportModeOf mode with
  | none => refuse s .badValue
  | some m =>
    served { s with notices := { s.notices with reports := m } } [ReportMode.code s.notices.reports, ReportMode.code m]

/-- SET_LOAF_REPORTS (R180). -/
def execSetLoafReports (tag mode : Byte) (s : State) : Host.Outcome State Fault Refusal :=
  .next (s.arrive (requestFrame (.setLoafReports tag mode)) (doSetLoafReports mode))

/-! ### Taking a request (R174, R175) -/

/-- R175 step 3: the owner of a request. An event row is carried by no frame. -/
def serve (i : Instr) (s : State) : Served :=
  match i with
  | .identify _ => doIdentify s
  | .readNotices _ count => doReadNotices count s
  | .flushNotices _ => doFlushNotices s
  | .setNoticeClasses _ classes => doSetNoticeClasses classes s
  | .setLoafReports _ mode => doSetLoafReports mode s
  | .start _ => doStart s
  | .stop _ form => doStop form s
  | .resume _ => doResume s
  | .clear _ => doClear s
  | .readLineStatus _ => doReadLineStatus s
  | .writeProduct _ index fields signature => doWriteProduct index fields signature s
  | .eraseProduct _ index => doEraseProduct index s
  | .readProduct _ index => doReadProduct index s
  | .assignProduct _ lane product => doAssignProduct lane product s
  | .readAssignment _ => doReadAssignment s
  | .writeDayCodes _ pairs => doWriteDayCodes pairs s
  | .laneSettings _ lane pairs => doLaneSettings lane pairs s
  | .readLaneSettings _ lane => doReadLaneSettings lane s
  | .readQueue _ lane place => doReadQueue lane place s
  | .readLoaf _ loaf => doReadLoaf loaf s
  | .trialPlan _ lane length height product => doTrialPlan lane length height product s
  | .readPlannerStatus _ => doReadPlannerStatus s
  | .setWearRate _ lane rate => doSetWearRate lane rate s
  | .bladeChange _ lane => doBladeChange lane s
  | .readSlicer _ lane => doReadSlicer lane s
  | .writeWatch _ entry fields => doWriteWatch entry fields s
  | .readWatch _ => doReadWatch s
  | .readCapture _ place => doReadCapture place s
  | .flushCapture _ => doFlushCapture s
  | .connect _ first second => doConnect first second s
  | .headSettings _ head pairs => doHeadSettings head pairs s
  | .readRouter _ => doReadRouter s
  | .readHead _ head => doReadHead head s
  | .reloadMagazine _ head count => doReloadMagazine head count s
  | .learnSignature _ head order => doLearnSignature head order s
  | .setSignature _ index present value => doSetSignature index present value s
  | .tieCheck _ head setting => doTieCheck head setting s
  | .readTier _ head => doReadTier head s
  | .crumbSettings _ lane pairs => doCrumbSettings lane pairs s
  | .setCrumbMode _ lane mode => doSetCrumbMode lane mode s
  | .purgeStart _ lane => doPurgeStart lane s
  | .purgeStop _ lane => doPurgeStop lane s
  | .singlePurge _ lane => doSinglePurge lane s
  | .crumbReset _ lane => doCrumbReset lane s
  | .readCrumb _ lane => doReadCrumb lane s
  | .closeShift _ => doCloseShift s
  | .readTotals _ first => doReadTotals first s
  | .readLaneTotals _ => doReadLaneTotals s
  | .readSnapshot _ part => doReadSnapshot part s
  | _ => refuse s .unknownKind

/-- R175: a frame taken from the handled place: its kind and length are checked, then its owner acts. -/
def takeFrame (f : Frame) (s : State) : Served :=
  match decodeRequest f with
  | .error code => refuse s code
  | .ok i => serve i s

/-! ### The receiver (R172, R173) -/

/-- R172: a frame's check, over the length byte through the last body byte. -/
def checkOf (n : Nat) (content : List Byte) : BitVec 16 := crc16 (BitVec.ofNat 8 n :: content)

/-- The frame of its content from the kind on. -/
def frameOf : List Byte → Frame
  | kind :: tag :: body => ⟨kind, tag, body⟩
  | _ => ⟨0, 0, []⟩

/-- The receiver hunts again, its timer stopped. -/
def LinkPort.hunt (k : LinkPort) : LinkPort := { k with receiver := .hunting, interByte := none }

/-- R173: the receiver goes on in a frame, its timer restarted. -/
def LinkPort.gather (r : Receiver) (k : LinkPort) : LinkPort := { k with receiver := r, interByte := some Limits.interByteMs }

/-- R173, R174: a complete frame; one whose check fails is discarded. -/
def State.completeFrame (n : Nat) (got : List Byte) (s : State) : State :=
  let s := { s with link := s.link.hunt }
  if got.drop n = halfBytes (checkOf n (got.take n)) then
    let f := frameOf (got.take n)
    s.arrive f (takeFrame f)
  else s

/-- R173: a byte arrives on the receive pair. -/
def State.takeByte (b : Byte) (s : State) : State :=
  match s.link.receiver with
  | .hunting => if b = 0xC3 then { s with link := s.link.gather .length } else s
  | .length =>
    if inRange 2 250 b.toNat then { s with link := s.link.gather (.content b.toNat []) } else { s with link := s.link.hunt }
  | .content n got =>
    if got.length + 1 < n + 2 then { s with link := s.link.gather (.content n (got ++ [b])) }
    else s.completeFrame n (got ++ [b])

/-- BYTE_RECEIVED (R173). -/
def execByteReceived (byte : Byte) (s : State) : Host.Outcome State Fault Refusal := .next (s.takeByte byte)

/-- The receiver awaits the second check byte of a frame. -/
def Receiver.awaitsLast : Receiver → Bool
  | .hunting => false
  | .length => false
  | .content n got => decide (n + 2 ≤ got.length + 1)

/-- FRAME_COMPLETE (R174): the second check byte of a frame is received. -/
def execFrameComplete (check : Byte) (s : State) : Host.Outcome State Fault Refusal :=
  if s.link.receiver.awaitsLast then .next (s.takeByte check) else .next s

/-- INTER_BYTE_TIMEOUT (R173): the partial frame is discarded. -/
def execInterByteTimeout (s : State) : Host.Outcome State Fault Refusal := .next { s with link := s.link.hunt }

/-! ### The end of a reply (R174) -/

/-- R174: the handled place empties; the waiting frame moves up and is taken. -/
def State.nextFrame (s : State) : State :=
  match s.link.waiting with
  | none => { s with link := { s.link with handled := none } }
  | some f =>
    let s := { s with link := { s.link with handled := none, waiting := none } }
    State.conclude f (takeFrame f s)

/-- A reply stands formed in the handled place. -/
def LinkPort.replying (k : LinkPort) : Bool := k.handled.any (fun h => h.reply.isSome)

/-- REPLY_SENT (R174): taken once the reply has been formed. -/
def execReplySent (s : State) : Host.Outcome State Fault Refusal :=
  if s.link.replying then .next s.nextFrame else .next s

end Sys2Proof.Machine
end

