-- ==== Sys2Proof/Machine/Dispatch.lean ====
section
/-! DEFINITION. One arm per command: exec is the command's effect on everything but the queue of waiting commands. -/

namespace Sys2Proof.Machine

/-- The effect of a command. -/
def exec (i : Instr) (s : State) : Host.Outcome State Fault Refusal :=
  match i with
  | .powerOn => Sys2Proof.Machine.execPowerOn s
  | .frameComplete check => Sys2Proof.Machine.execFrameComplete check s
  | .interByteTimeout => Sys2Proof.Machine.execInterByteTimeout s
  | .replySent => Sys2Proof.Machine.execReplySent s
  | .identify tag => Sys2Proof.Machine.execIdentify tag s
  | .readNotices tag count => Sys2Proof.Machine.execReadNotices tag count s
  | .flushNotices tag => Sys2Proof.Machine.execFlushNotices tag s
  | .setNoticeClasses tag classes => Sys2Proof.Machine.execSetNoticeClasses tag classes s
  | .setLoafReports tag mode => Sys2Proof.Machine.execSetLoafReports tag mode s
  | .start tag => Sys2Proof.Machine.execStart tag s
  | .stop tag form => Sys2Proof.Machine.execStop tag form s
  | .resume tag => Sys2Proof.Machine.execResume tag s
  | .clear tag => Sys2Proof.Machine.execClear tag s
  | .readLineStatus tag => Sys2Proof.Machine.execReadLineStatus tag s
  | .writeProduct tag index fields signature => Sys2Proof.Machine.execWriteProduct tag index fields signature s
  | .eraseProduct tag index => Sys2Proof.Machine.execEraseProduct tag index s
  | .readProduct tag index => Sys2Proof.Machine.execReadProduct tag index s
  | .assignProduct tag lane product => Sys2Proof.Machine.execAssignProduct tag lane product s
  | .readAssignment tag => Sys2Proof.Machine.execReadAssignment tag s
  | .writeDayCodes tag pairs => Sys2Proof.Machine.execWriteDayCodes tag pairs s
  | .laneSettings tag lane pairs => Sys2Proof.Machine.execLaneSettings tag lane pairs s
  | .readLaneSettings tag lane => Sys2Proof.Machine.execReadLaneSettings tag lane s
  | .readQueue tag lane place => Sys2Proof.Machine.execReadQueue tag lane place s
  | .readLoaf tag loaf => Sys2Proof.Machine.execReadLoaf tag loaf s
  | .trialPlan tag lane length height product => Sys2Proof.Machine.execTrialPlan tag lane length height product s
  | .readPlannerStatus tag => Sys2Proof.Machine.execReadPlannerStatus tag s
  | .setWearRate tag lane rate => Sys2Proof.Machine.execSetWearRate tag lane rate s
  | .bladeChange tag lane => Sys2Proof.Machine.execBladeChange tag lane s
  | .readSlicer tag lane => Sys2Proof.Machine.execReadSlicer tag lane s
  | .writeWatch tag entry fields => Sys2Proof.Machine.execWriteWatch tag entry fields s
  | .readWatch tag => Sys2Proof.Machine.execReadWatch tag s
  | .readCapture tag place => Sys2Proof.Machine.execReadCapture tag place s
  | .flushCapture tag => Sys2Proof.Machine.execFlushCapture tag s
  | .connect tag first second => Sys2Proof.Machine.execConnect tag first second s
  | .headSettings tag head pairs => Sys2Proof.Machine.execHeadSettings tag head pairs s
  | .readRouter tag => Sys2Proof.Machine.execReadRouter tag s
  | .readHead tag head => Sys2Proof.Machine.execReadHead tag head s
  | .reloadMagazine tag head count => Sys2Proof.Machine.execReloadMagazine tag head count s
  | .learnSignature tag head order => Sys2Proof.Machine.execLearnSignature tag head order s
  | .setSignature tag index present value => Sys2Proof.Machine.execSetSignature tag index present value s
  | .tieCheck tag head setting => Sys2Proof.Machine.execTieCheck tag head setting s
  | .readTier tag head => Sys2Proof.Machine.execReadTier tag head s
  | .crumbSettings tag lane pairs => Sys2Proof.Machine.execCrumbSettings tag lane pairs s
  | .setCrumbMode tag lane mode => Sys2Proof.Machine.execSetCrumbMode tag lane mode s
  | .purgeStart tag lane => Sys2Proof.Machine.execPurgeStart tag lane s
  | .purgeStop tag lane => Sys2Proof.Machine.execPurgeStop tag lane s
  | .singlePurge tag lane => Sys2Proof.Machine.execSinglePurge tag lane s
  | .crumbReset tag lane => Sys2Proof.Machine.execCrumbReset tag lane s
  | .readCrumb tag lane => Sys2Proof.Machine.execReadCrumb tag lane s
  | .closeShift tag => Sys2Proof.Machine.execCloseShift tag s
  | .readTotals tag first => Sys2Proof.Machine.execReadTotals tag first s
  | .readLaneTotals tag => Sys2Proof.Machine.execReadLaneTotals tag s
  | .readSnapshot tag part => Sys2Proof.Machine.execReadSnapshot tag part s
  | .leadingEdge lane travel beams => Sys2Proof.Machine.execLeadingEdge lane travel beams s
  | .highestBeamRaise lane travel beams => Sys2Proof.Machine.execHighestBeamRaise lane travel beams s
  | .trailingEdge lane travel => Sys2Proof.Machine.execTrailingEdge lane travel s
  | .voidClose lane travel => Sys2Proof.Machine.execVoidClose lane travel s
  | .bladeLineArrival lane loaf => Sys2Proof.Machine.execBladeLineArrival lane loaf s
  | .trailingEdgePastBlade lane loaf => Sys2Proof.Machine.execTrailingEdgePastBlade lane loaf s
  | .rejectGateArrival lane loaf => Sys2Proof.Machine.execRejectGateArrival lane loaf s
  | .diverterPulseEnd lane => Sys2Proof.Machine.execDiverterPulseEnd lane s
  | .routerGateArrival lane loaf => Sys2Proof.Machine.execRouterGateArrival lane loaf s
  | .gaugeRequestArrival lane loaf => Sys2Proof.Machine.execGaugeRequestArrival lane loaf s
  | .planCompletion => Sys2Proof.Machine.execPlanCompletion s
  | .trialPlanCompletion => Sys2Proof.Machine.execTrialPlanCompletion s
  | .cutDue lane => Sys2Proof.Machine.execCutDue lane s
  | .strokeCompletion lane => Sys2Proof.Machine.execStrokeCompletion lane s
  | .strokeTimeout lane => Sys2Proof.Machine.execStrokeTimeout lane s
  | .bladeHomeLost lane => Sys2Proof.Machine.execBladeHomeLost lane s
  | .bladeHomeSeen lane => Sys2Proof.Machine.execBladeHomeSeen lane s
  | .homingCompletion lane => Sys2Proof.Machine.execHomingCompletion lane s
  | .homingTimeout lane => Sys2Proof.Machine.execHomingTimeout lane s
  | .bagOpen head edge => Sys2Proof.Machine.execBagOpen head edge s
  | .openingTimeout head => Sys2Proof.Machine.execOpeningTimeout head s
  | .bagFeedPulseEnd head => Sys2Proof.Machine.execBagFeedPulseEnd head s
  | .loafIn head edge => Sys2Proof.Machine.execLoafIn head edge s
  | .gatherDone head edge => Sys2Proof.Machine.execGatherDone head edge s
  | .tieDone head edge => Sys2Proof.Machine.execTieDone head edge s
  | .headStateTimeout head => Sys2Proof.Machine.execHeadStateTimeout head s
  | .dischargeClear head edge => Sys2Proof.Machine.execDischargeClear head edge s
  | .gapWaitExpiry lane => Sys2Proof.Machine.execGapWaitExpiry lane s
  | .holdOffExpiry lane => Sys2Proof.Machine.execHoldOffExpiry lane s
  | .purgeTimeExpiry lane => Sys2Proof.Machine.execPurgeTimeExpiry lane s
  | .settleExpiry lane => Sys2Proof.Machine.execSettleExpiry lane s
  | .eStopAsserted => Sys2Proof.Machine.execEStopAsserted s
  | .eStopReleased => Sys2Proof.Machine.execEStopReleased s
  | .guardOpens guard => Sys2Proof.Machine.execGuardOpens guard s
  | .guardCloses guard => Sys2Proof.Machine.execGuardCloses guard s
  | .resumeWindowExpiry => Sys2Proof.Machine.execResumeWindowExpiry s
  | .byteReceived byte => Sys2Proof.Machine.execByteReceived byte s
  | .tierEncoderTick head lines => Sys2Proof.Machine.execTierEncoderTick head lines s

end Sys2Proof.Machine
end

