-- ==== Sys2Proof/Machine/Timing.lean ====
section
/-! DEFINITION. The millisecond timebase (00_scope.md, Units): one millisecond passing over every running timer. -/

namespace Sys2Proof.Machine

/-- A running timer one millisecond on; at 0 it stands until its expiry is taken (entry 4). -/
def countDown (t : Option Nat) : Option Nat := t.map (fun n => n - 1)

def LaneState.tick (q : LaneState) : LaneState := { q with diverter := countDown q.diverter }
def Slicer.tick (x : Slicer) : Slicer := { x with timer := countDown x.timer }
def HeadState.tick (h : HeadState) : HeadState := { h with timer := countDown h.timer, feedPulse := countDown h.feedPulse }
def Crumb.tick (c : Crumb) : Crumb := { c with phase := countDown c.phase, holdOff := countDown c.holdOff }

/-- DESIGN CHOICE (entry 4): one millisecond of the timebase. The expiry of a timer is a command of its own. -/
def State.tick (s : State) : State :=
  { s with
    lanes := ⟨s.lanes.a.tick, s.lanes.b.tick⟩
    slicers := ⟨s.slicers.a.tick, s.slicers.b.tick⟩
    heads := ⟨s.heads.one.tick, s.heads.two.tick⟩
    crumb := ⟨s.crumb.a.tick, s.crumb.b.tick⟩
    line := { s.line with window := countDown s.line.window }
    link := { s.link with interByte := countDown s.link.interByte } }

end Sys2Proof.Machine
end

