-- ==== Sys2Proof/Safety.lean ====
section
/-! DEFINITION. The vocabulary of the claims: what it means that a request is carried out or refused, the bytes of a frame
and the lengths of R182, and the properties of a state that every step of the coordinator keeps. -/

namespace Sys2Proof.Machine

/-! ### Requests -/

/-- The request, taken in `s`, has the effect `t` and is answered OK with `data`. -/
def Accepts (i : Instr) (s t : State) (data : List Byte) : Prop :=
  exec i s = .next (t.formReply (requestFrame i) .ok data false)

/-- The request, taken in `s`, is answered `code` with `data`, and nothing else changes. -/
def Rejects (i : Instr) (s : State) (code : ResultCode) (data : List Byte) : Prop :=
  exec i s = .next (s.formReply (requestFrame i) code data false)

/-- The request is one of the catalogue (section 11.5). -/
def Instr.isRequest (i : Instr) : Bool := (encode i).isSome

/-- R182: the body lengths of a kind of the catalogue, by the first body bytes where a count gives them; none for a kind that
is not in the catalogue. -/
def bodyLengths (f : Frame) : Option (List Nat) :=
  let k := f.kind.toNat
  let count := (f.body[1]?.map BitVec.toNat).getD 0
  let codes := (f.body[0]?.map BitVec.toNat).getD 0
  if [0x01, 0x03, 0x10, 0x12, 0x13, 0x14, 0x1C, 0x29, 0x31, 0x33, 0x3A, 0x50, 0x52].contains k then some [0]
  else if [0x02, 0x04, 0x05, 0x11, 0x19, 0x1A, 0x21, 0x2D, 0x2E, 0x32, 0x3B, 0x44, 0x4A, 0x4B, 0x4C, 0x4D, 0x4E, 0x51, 0x53].contains k then
    some [1]
  else if [0x1B, 0x22, 0x23, 0x41, 0x43, 0x49].contains k then some [2]
  else if [0x2C, 0x40].contains k then some [3]
  else if k = 0x42 then some [4]
  else if k = 0x28 then some [6]
  else if k = 0x38 then some [2, 4]
  else if k = 0x18 then some [16, 18]
  else if k = 0x30 then some [21]
  else if k = 0x1D then some [1 + 4 * codes]
  else if [0x20, 0x39, 0x48].contains k then some [2 + 5 * count]
  else none

/-- The commands taken one after another; none where one of them does not complete. -/
def execAll : List Instr → State → Option State
  | [], s => some s
  | c :: rest, s =>
    match exec c s with
    | .next t => execAll rest t
    | .fault _ => none
    | .refused _ => none

/-- R1, R3: the fields of WRITE PRODUCT within their ranges, with T_min ≤ T_nom ≤ T_max. -/
def ProductFieldsAllowed (f : ProductBody) : Prop :=
  40 ≤ f.tMin.toNat ∧ f.tMin.toNat ≤ f.tNom.toNat ∧ f.tNom.toNat ≤ f.tMax.toNat ∧ f.tMax.toNat ≤ 400 ∧
  f.heel.toNat ≤ 1000 ∧ f.kerf.toNat ≤ 30 ∧ 1 ≤ f.nMax.toNat ∧ f.nMax.toNat ≤ 60 ∧
  f.wholeOk.toNat ≤ 1 ∧ f.shelfClass.toNat ≤ 7

/-- The value of a setting after a list of pairs has been applied in list order (R16, R112, R132): that of the last pair that
names its item, and the value before where none does. -/
def lastFor (item : Byte) (old : Nat) (pairs : List Setting) : Nat :=
  pairs.foldl (fun v p => if p.item = item then p.value.toNat else v) old

/-- R15: the six settings in the order of their items. -/
def Geometry.asList (g : Geometry) : List Nat := [g.dBlade, g.dReject, g.dRouter, g.minGap, g.debrisLen, g.beamPitch]

/-! ### Properties of a state -/

/-- R150: while an immediate stop cause is present, the line is in STOPPED or HALTED. -/
def State.CausesRest (s : State) : Prop := s.immediateCausePresent = true → s.moving = false

/-- R140, R135, R136: the grant holder and the waiting request against the controllers' states. -/
def State.AirOrdered (s : State) : Prop :=
  (∀ l, s.air.waiting = some l → s.air.holder = some (otherLane l) ∧ (s.crumb.get l).step = .gapWait) ∧
  (∀ l, s.air.holder = some l → (s.crumb.get l).step.inCycle = true) ∧
  (∀ l, (s.crumb.get l).step = .purging ∨ (s.crumb.get l).step = .settling → s.air.holder = some l) ∧
  (∀ l, (s.crumb.get l).step = .gapWait → s.air.holder = some l ∨ s.air.waiting = some l)

/-- R2: every product a lane's assignment, an open window or a held record names is DEFINED. -/
def State.ProductsDefined (s : State) : Prop :=
  (∀ l p, (s.assign.get l).active = some p → s.products[p].isSome = true) ∧
  (∀ l p, (s.assign.get l).pending = some (some p) → s.products[p].isSome = true) ∧
  (∀ l p, (s.lanes.get l).window.product = some p → s.products[p].isSome = true) ∧
  (∀ r ∈ s.held, s.products[r.product].isSome = true)

/-- R165: loaves in against loaves out, for one product. -/
def State.Balanced (p : ProductIx) (s : State) : Prop :=
  let t := s.totals.products[p]
  t.admitted + t.carriedIn =
    t.bagged + (t.rejWatch + t.rejNoPlan + t.rejLatePlan + t.rejNoSpan + t.rejMiscut + t.rejUntied) + t.cleared + s.inFlight p

/-- R167: the figures of a closed shift, for one product. -/
def Snapshot.Balanced (p : ProductIx) (x : Snapshot) : Prop :=
  let t := x.products[p]
  t.admitted + t.carriedIn =
    t.bagged + (t.rejWatch + t.rejNoPlan + t.rejLatePlan + t.rejNoSpan + t.rejMiscut + t.rejUntied) + t.cleared + x.carriedOut[p]

/-- R28, R165, R167: the books: no number twice among the held records, the capacities of queues, idle heads without a record,
and every product balanced, in the current shift and in the closed one. -/
def State.BooksKept (s : State) : Prop :=
  (s.held.map LoafRecord.number).Nodup ∧
  (∀ l, (s.lanes.get l).queue.length ≤ Limits.queuePlaces) ∧
  s.router.idleOrder.Nodup ∧
  (∀ h, h ∈ s.router.idleOrder → (s.heads.get h).record = none) ∧
  (∀ p, s.Balanced p) ∧
  (∀ x, s.totals.snapshot = some x → ∀ p, x.Balanced p)

/-- R115: a tier's clips, and the ranges of R114. -/
def Tier.InRange (t : Tier) : Prop :=
  t.magazine + t.used = t.loaded ∧ t.loaded ≤ Limits.magazineMax ∧ t.warmUp ≤ 2 ∧ t.streak ≤ 2

/-- R130: the ranges and order of a controller's figures. -/
def Crumb.InRange (c : Crumb) : Prop :=
  c.load ≤ Limits.max24 ∧ 1 ≤ c.tLow ∧ c.tLow ≤ c.tHigh ∧ c.tHigh ≤ Limits.max24 ∧ c.count ≤ Limits.purgeCountMax

/-- R60: the ranges of a station's figures. -/
def Slicer.InRange (x : Slicer) : Prop := x.strokes ≤ Limits.max24 ∧ x.wearRate ≤ Limits.wearRateMax

/-- R15: the ranges of the six settings, and D_blade < D_reject < D_router. -/
def Geometry.InRange (g : Geometry) : Prop :=
  (500 ≤ g.dBlade ∧ g.dBlade ≤ 20000) ∧ (501 ≤ g.dReject ∧ g.dReject ≤ 30000) ∧ (502 ≤ g.dRouter ∧ g.dRouter ≤ 40000) ∧
  g.minGap ≤ 2000 ∧ (10 ≤ g.debrisLen ∧ g.debrisLen ≤ 500) ∧ (10 ≤ g.beamPitch ∧ g.beamPitch ≤ 60) ∧
  g.dBlade < g.dReject ∧ g.dReject < g.dRouter

/-- The capacities and ranges the manual gives (R15, R26, R42, R60, R90, R100, R114, R130, R168, R177), with R85's rule that a
pair that is not chained is disarmed. -/
def State.FiguresInRange (s : State) : Prop :=
  s.notices.queue.length ≤ Limits.noticePlaces ∧
  s.watch.capture.length ≤ Limits.capturePlaces ∧
  s.planner.queue.length ≤ Limits.plannerPlaces ∧
  s.lastLoaf ≤ Limits.numberMax ∧
  1 ≤ s.totals.shift ∧ s.totals.shift ≤ Limits.numberMax ∧
  (∀ l, (s.lanes.get l).geometry.InRange) ∧
  (∀ l, (s.slicers.get l).InRange) ∧
  (∀ l, (s.crumb.get l).InRange) ∧
  (∀ h, (s.tiers.get h).InRange) ∧
  (∀ h, (s.heads.get h).misses ≤ 2) ∧
  (∀ p : Fin 2, s.watch.pairChained p = false → s.watch.chains[p] = none)

end Sys2Proof.Machine
end

