-- ==== Sys2Proof/Certificates/Slice0/Obligations.lean ====
section
/-! DEFINITION. The statements about the coordinator, for the provers. Each docstring names the sections, or the rules, a
statement formalises; where a clause is the model's own choice it names the entry of the assumption log. -/

open Sys2Proof Sys2Proof.Machine

/-! ### The step, power-on and what every command keeps -/

/-- The model's own queue (entry 29): a step takes the command at the front and answers what exec makes of it with the rest
of the queue. -/
def Obligations.StepTakesTheFrontCommand : Prop :=
  ∀ (c : Instr) (rest : List Instr) (s : State),
    step { s with pending := c :: rest } = exec c { s with pending := rest }

/-- Entry 4, the model's choice: with no command waiting, a step is one millisecond. Every running timer goes down by one
and stands at 0; nothing else changes, lane position among it, since travel is told by rows of its own (entry 5). -/
def Obligations.IdleStepIsOneMillisecond : Prop :=
  ∀ s : State, s.pending = [] → ∃ t,
    step s = .next t ∧
    (∀ l, t.lanes.get l = { s.lanes.get l with diverter := (s.lanes.get l).diverter.map (· - 1) }) ∧
    (∀ l, t.slicers.get l = { s.slicers.get l with timer := (s.slicers.get l).timer.map (· - 1) }) ∧
    (∀ h, t.heads.get h =
      { s.heads.get h with timer := (s.heads.get h).timer.map (· - 1), feedPulse := (s.heads.get h).feedPulse.map (· - 1) }) ∧
    (∀ l, t.crumb.get l =
      { s.crumb.get l with phase := (s.crumb.get l).phase.map (· - 1), holdOff := (s.crumb.get l).holdOff.map (· - 1) }) ∧
    t.line = { s.line with window := s.line.window.map (· - 1) } ∧
    t.link = { s.link with interByte := s.link.interByte.map (· - 1) } ∧
    t.pending = [] ∧ t.products = s.products ∧ t.dayCodes = s.dayCodes ∧ t.assign = s.assign ∧ t.lastLoaf = s.lastLoaf ∧
    t.planner = s.planner ∧ t.watch = s.watch ∧ t.router = s.router ∧ t.lineId = s.lineId ∧ t.tiers = s.tiers ∧ t.air = s.air ∧
    t.totals = s.totals ∧ t.notices = s.notices ∧ t.inputs = s.inputs

/-- POWER_ON leaves every block at its power-on values, read from the plant inputs as they stand, and keeps the inputs and
the queue of waiting commands (entry 29). The record of the print line starts empty (entry 34); how a controller's last
purge ended is left out (entry 24). -/
def Obligations.PowerOnValues : Prop :=
  (∀ s : State, ∃ t,
     exec .powerOn s = .next t ∧ t.inputs = s.inputs ∧ t.pending = s.pending ∧
     (∀ p : ProductIx, t.products[p] = none) ∧ (∀ k : Fin 8, t.dayCodes[k] = ⟨0x30, 0x30, 0x30⟩) ∧
     (∀ l, t.assign.get l = ⟨none, none⟩) ∧
     (∀ l, t.lanes.get l =
       { position := 0, geometry := ⟨3000, 6000, 9000, 300, 150, 40⟩,
         window := if s.inputs.curtain.get l = 0 then .clear else .void, previous := none, queue := [], gateHeld := none,
         holdInEffect := true, diverter := none }) ∧
     t.lastLoaf = 0 ∧ t.planner = ⟨[], [], none, false, 0⟩ ∧
     (∀ l, t.slicers.get l =
       { blade := if s.inputs.bladeHome.get l then .home else .homing false, pending := none, schedule := [], timer := none,
         strokes := 0, wearRate := 0, wearLimit := false }) ∧
     (∀ i : Fin 4, t.watch.entries[i] =
       { enable := false, productValue := 0, productMask := 0, laneSelect := .either, lengthMode := .off, lengthLow := 0,
         lengthHigh := 0, heightMode := .off, heightLow := 0, heightHigh := 0, needCloseGap := false, needOverlong := false,
         outcomes := ⟨false, false, false, false, false, false⟩, combine := .all, chained := false, armWindow := 1,
         actions := ⟨false, false, false, false, false⟩, fireCount := 0 }) ∧
     (∀ p : Fin 2, t.watch.chains[p] = none) ∧ t.watch.capture = [] ∧ t.watch.recording = false ∧
     t.router = ⟨⟨.a, .b⟩, ⟨none, none⟩, [.one, .two], []⟩) ∧
  (∀ s : State, ∃ t,
     exec .powerOn s = .next t ∧
     (∀ h, t.heads.get h =
       { step := .idle, record := none, direct := false, misses := 0, timer := none, timeouts := ⟨400, 800, 300, 600, 500⟩,
         feedPulse := none }) ∧
     t.lineId = 0x41 ∧
     (∀ h, t.tiers.get h =
       { magazine := 0, loaded := 0, used := 0, tie := none, warmUp := 2, streak := 0, check := true, learn := .none,
         lastProduct := none, lastSignature := none, lastCode := none, printed := [] }) ∧
     (∀ l, t.crumb.get l =
       { mode := .disabled, step := .disabled, last := .disabled, load := 0, tLow := 200000, tHigh := 400000, purgeTime := 1500,
         settleTime := 500, phase := none, holdOff := none, single := false, count := 0, manual := false,
         ended := (t.crumb.get l).ended }) ∧
     t.air = ⟨none, none⟩ ∧
     t.line.state = .stopped ∧ t.line.latched = none ∧ t.line.window = none ∧ t.line.causes = EventCauses.none ∧
     (∀ p : ProductIx, t.totals.products[p] = ⟨0, 0, 0, 0, 0, 0, 0, 0, 0, 0, 0, 0, 0, 0⟩) ∧
     (∀ l, t.totals.lanes.get l = ⟨0, 0, 0, 0⟩) ∧ (∀ h, t.totals.heads.get h = ⟨0, 0, 0, 0, 0, 0⟩) ∧
     t.totals.shift = 1 ∧ t.totals.snapshot = none ∧
     t.notices = ⟨[], false, 0xFF, .off⟩ ∧ t.link = ⟨.hunting, none, none, none, false⟩)

/-- The state after reset has every property that the steps keep. -/
def Obligations.ResetKeepsTheProperties : Prop :=
  State.reset.CausesRest ∧ State.reset.AirOrdered ∧ State.reset.ProductsDefined ∧ State.reset.BooksKept ∧
    State.reset.FiguresInRange

/-- Section 9.2: no step lets an immediate stop cause stand on a line that runs or drains. -/
def Obligations.EveryStepKeepsCausesRest : Prop :=
  ∀ s t : State, s.CausesRest → step s = .next t → t.CausesRest

/-- Section 8.3: every step keeps one grant, its holder in GAP_WAIT, PURGING or SETTLING, and the waiting lane in GAP_WAIT
behind the other lane's grant. -/
def Obligations.EveryStepKeepsTheAirOrdered : Prop :=
  ∀ s t : State, s.AirOrdered → step s = .next t → t.AirOrdered

/-- Section 1.2: every step keeps DEFINED each product that an assignment, an open span or a held record names. -/
def Obligations.EveryStepKeepsProductsDefined : Prop :=
  ∀ s t : State, s.ProductsDefined → step s = .next t → t.ProductsDefined

/-- Sections 2.3, 2.4 and 10.2: every step keeps loaf numbers single, the queues within 24 places, idle heads without a
record, and every product balanced, in the current shift and in the closed one. -/
def Obligations.EveryStepKeepsTheBooks : Prop :=
  ∀ s t : State, s.BooksKept → step s = .next t → t.BooksKept

/-- Every step keeps the figures within the ranges and capacities the manual gives (the geometry within R15's ranges and
order among them), and a pair that is not chained disarmed. -/
def Obligations.EveryStepKeepsFiguresInRange : Prop :=
  ∀ s t : State, s.FiguresInRange → step s = .next t → t.FiguresInRange

/-- Every command answers a next state, also where its event cannot happen in the state found (the model's reading, entry
7), and leaves the commands behind it, the model's own queue (entry 29), as they were. -/
def Obligations.NoCommandTouchesTheQueue : Prop :=
  ∀ (c : Instr) (s : State), ∃ t, exec c s = .next t ∧ t.pending = s.pending

/-- Section 2.4: lane position stands still while the lane conveyor is stopped, whatever the command but POWER_ON. Section
1.4: a product entry changes at the requests that write it, at a tie-done and at POWER_ON; a frame of the link may carry
such a request. -/
def Obligations.PositionAndProductsHaveTheirWriters : Prop :=
  (∀ (c : Instr) (l : Lane) (s : State), c ≠ .powerOn → s.conveyorRuns l = false →
     ∃ t, exec c s = .next t ∧ (t.lanes.get l).position = (s.lanes.get l).position) ∧
  (∀ (c : Instr) (s : State), (∃ t, exec c s = .next t ∧ t.products = s.products) ∨
     c = .powerOn ∨ (∃ b, c = .frameComplete b) ∨ (∃ b, c = .byteReceived b) ∨ c = .replySent ∨
     (∃ tag i f g, c = .writeProduct tag i f g) ∨ (∃ tag i, c = .eraseProduct tag i) ∨
     (∃ tag i p v, c = .setSignature tag i p v) ∨ (∃ h, c = .tieDone h .rises))

/-! ### Link and Notice Queue (chapter 11) -/

/-- Section 11.5: the frame of every well-formed request decodes to the request, with every operand at every value. -/
def Obligations.RequestFramesDecode : Prop :=
  ∀ (i : Instr) (f : Frame), i.wellFormed = true → encode i = some f → decodeRequest f = .ok i

/-- Section 11.5: a frame that fits the link and decodes is the frame of the request it decodes to, so that no byte of a
body is dropped. -/
def Obligations.DecodedFramesEncode : Prop :=
  ∀ (f : Frame) (i : Instr), f.body.length ≤ 248 → decodeRequest f = .ok i → encode i = some f ∧ i.wellFormed = true

/-- Section 11.2 and the body table of 11.5: a kind outside the catalogue, a body of a wrong length, and the frames that
reach their owner. -/
def Obligations.KindAndLengthAreCheckedFirst : Prop :=
  ∀ (f : Frame) (s : State),
    (bodyLengths f = none → takeFrame f s = ⟨s, some (.unknownKind, []), false⟩) ∧
    (∀ ls, bodyLengths f = some ls → f.body.length ∉ ls → takeFrame f s = ⟨s, some (.badLength, []), false⟩) ∧
    (∀ ls, bodyLengths f = some ls → f.body.length ∈ ls → ∃ i, decodeRequest f = .ok i ∧ takeFrame f s = serve i s)

/-- Section 11.2: a request is taken at once in an empty port, waits behind a frame being handled, and is discarded for
overrun when both places are occupied. A request row stands for the arrival of its frame (entry 3). -/
def Obligations.RequestsArriveAsFrames : Prop :=
  ∀ (i : Instr) (f : Frame) (s : State), i.wellFormed = true → encode i = some f →
    (s.link.handled = none → exec i s = .next (State.conclude f (serve i s))) ∧
    (s.link.handled ≠ none → s.link.waiting = none → exec i s = .next { s with link := { s.link with waiting := some f } }) ∧
    (s.link.handled ≠ none → s.link.waiting ≠ none → exec i s = .next { s with link := { s.link with overrun := true } })

/-- Sections 11.1 and 11.2: the bytes of a frame with its check, received one by one, bring the frame to the port; with
another check they leave no trace. -/
def Obligations.FrameBytesReachThePort : Prop :=
  (∀ (f : Frame) (s : State), f.body.length ≤ 248 → s.link.receiver = .hunting →
     execAll ((frameBytes f (frameCheck f)).map .byteReceived) s =
       some ({ s with link := { s.link with interByte := none } }.arrive f (takeFrame f))) ∧
  (∀ (f : Frame) (check : BitVec 16) (s : State), f.body.length ≤ 248 → s.link.receiver = .hunting → check ≠ frameCheck f →
     execAll ((frameBytes f check).map .byteReceived) s = some { s with link := { s.link with interByte := none } })

/-- Sections 11.1 and 11.2: one received byte by the receiver's state; the second check byte and the inter-byte timeout; a
reply sent; and the form of a reply with its summary byte, and the bytes the link sends for it; section 11.2: the result
codes; section 11.6: the value codes, and a number in bytes, high byte first. FRAME_COMPLETE carries the second check byte
(entry 22). -/
def Obligations.PortEvents : Prop :=
  (∀ (b : Byte) (s : State),
     (s.link.receiver = .hunting → b ≠ 0xC3 → exec (.byteReceived b) s = .next s) ∧
     (s.link.receiver = .hunting → b = 0xC3 →
       exec (.byteReceived b) s = .next { s with link := { s.link with receiver := .length, interByte := some 20 } }) ∧
     (s.link.receiver = .length → (b.toNat < 2 ∨ 250 < b.toNat) →
       exec (.byteReceived b) s = .next { s with link := { s.link with receiver := .hunting, interByte := none } }) ∧
     (s.link.receiver = .length → 2 ≤ b.toNat → b.toNat ≤ 250 →
       exec (.byteReceived b) s = .next { s with link := { s.link with receiver := .content b.toNat [], interByte := some 20 } }) ∧
     (∀ n got, s.link.receiver = .content n got → got.length + 1 < n + 2 →
       exec (.byteReceived b) s = .next { s with link := { s.link with receiver := .content n (got ++ [b]), interByte := some 20 } })) ∧
  (∀ (f : Frame) (check : BitVec 16) (s : State),
     let hunting := { s with link := { s.link with receiver := .hunting, interByte := none } }
     (s.link.receiver = .content (f.body.length + 2) (f.kind :: f.tag :: (f.body ++ [hiByte check])) →
       (check = frameCheck f → exec (.frameComplete (loByte check)) s = .next (hunting.arrive f (takeFrame f))) ∧
       (check ≠ frameCheck f → exec (.frameComplete (loByte check)) s = .next hunting)) ∧
     exec .interByteTimeout s = .next hunting) ∧
  ((∀ (s : State) (h : Handled) (r : Frame), s.link.handled = some h → h.reply = some r →
     (s.link.waiting = none → exec .replySent s = .next { s with link := { s.link with handled := none } }) ∧
     (∀ f, s.link.waiting = some f →
       exec .replySent s =
         .next (State.conclude f (takeFrame f { s with link := { s.link with handled := none, waiting := none } })))) ∧
   (∀ s : State, (∀ h, s.link.handled = some h → h.reply = none) → exec .replySent s = .next s ∧ s.transmitOutput = [])) ∧
  (∀ (f : Frame) (code : ResultCode) (data : List Byte) (clears : Bool) (s : State), ∃ summary : Byte,
     s.formReply f code data clears =
       { s with
         link := { s.link with handled := some ⟨f, some ⟨f.kind + 0x80, f.tag, code.byte :: summary :: data⟩⟩, overrun := false }
         notices := { s.notices with lost := s.notices.lost && !clears } } ∧
     summary.toNat % 4 = (match s.line.state with
       | .stopped => 0
       | .running => 1
       | .draining => 2
       | .halted => 3) ∧
     summary.getLsbD 2 = !s.notices.queue.isEmpty ∧ summary.getLsbD 3 = s.notices.lost ∧ summary.getLsbD 4 = s.link.overrun ∧
     summary.toNat < 32 ∧
     (let counted := BitVec.ofNat 8 (data.length + 4) :: (f.kind + 0x80) :: f.tag :: code.byte :: summary :: data
      (s.formReply f code data clears).transmitOutput = 0xC3 :: (counted ++ [hiByte (crc16 counted), loByte (crc16 counted)]))) ∧
  ((∀ n : Nat, beBytes 1 n = [BitVec.ofNat 8 n] ∧ beBytes 2 n = [BitVec.ofNat 8 (n / 256), BitVec.ofNat 8 n] ∧
     beBytes 3 n = BitVec.ofNat 8 (n / 65536) :: beBytes 2 n ∧ beBytes 4 n = BitVec.ofNat 8 (n / 16777216) :: beBytes 3 n ∧
     beBytes 6 n = BitVec.ofNat 8 (n / 1099511627776) :: BitVec.ofNat 8 (n / 4294967296) :: beBytes 4 n) ∧
   [ResultCode.ok, .unknownKind, .badLength, .badValue, .wrongState, .inUse, .busy, .notPresent].map ResultCode.byte =
     [0, 1, 2, 3, 4, 5, 6, 7] ∧
   (boolCode false = 0 ∧ boolCode true = 1) ∧ (Lane.code .a = 0 ∧ Lane.code .b = 1) ∧ (Head.code .one = 1 ∧ Head.code .two = 2) ∧
   headCode none = 0 ∧ (∀ h, headCode (some h) = Head.code h) ∧
   productCode none = 0xFF ∧ (∀ p : ProductIx, (productCode (some p)).toNat = p.val) ∧
   pendingProductCode none = 0xFE ∧ (∀ x, pendingProductCode (some x) = productCode x) ∧
   [Stage.gauged, .planWait, .planned, .slicing, .sliced, .waiting, .atHead].map Stage.code = [0, 1, 2, 3, 4, 5, 6] ∧
   [PlanOutcome.even, .heelLong, .heelShort, .noSpan, .noPlan, .latePlan].map PlanOutcome.code = [0, 1, 2, 3, 4, 5] ∧
   [none, some Reason.watch, some .noPlan, some .latePlan, some .noSpan, some .miscut, some .untied].map dispositionCode =
     [0, 1, 2, 3, 4, 5, 6] ∧
   [none, some TieResult.good, some .unchecked, some .mismatch, some .noClip].map tieResultCode = [0, 1, 2, 3, 4] ∧
   [HeadStep.idle, .opening, .loading, .gathering, .tying, .discharging, .bagOut].map HeadStep.code = [0, 1, 2, 3, 4, 5, 6] ∧
   [LineState.stopped, .running, .draining, .halted].map LineState.code = [0, 1, 2, 3] ∧
   [Source.none, .a, .b, .both].map Source.code = [0, 1, 2, 3] ∧
   pendingSourceCode none = 0xFE ∧ (∀ x, pendingSourceCode (some x) = Source.code x) ∧
   [ReportMode.off, .every, .once].map ReportMode.code = [0, 1, 2] ∧
   [LaneSelect.a, .b, .either].map LaneSelect.code = [0, 1, 2] ∧
   [TestMode.off, .below, .inside, .outside].map TestMode.code = [0, 1, 2, 3] ∧ [Combine.all, .any].map Combine.code = [0, 1] ∧
   (∀ c m, [Blade.home, .stroking c, .homing m].map Blade.code = [0, 1, 2]) ∧
   (∀ p : ProductIx, [Learn.none, .armed, .bound p].map Learn.code = [0, 1, 2] ∧
     [Learn.none, .armed, .bound p].map Learn.boundCode = [0xFF, 0xFF, productCode (some p)]) ∧
   [CrumbMode.disabled, .auto, .commanded, .manual].map CrumbMode.code = [0, 1, 2, 3] ∧
   [CrumbStep.disabled, .watching, .gapWait, .purging, .settling].map CrumbStep.code = [0, 1, 2, 3, 4] ∧
   [none, some Lane.a, some .b].map grantCode = [0xFF, 0, 1] ∧ latchedCode none = 0 ∧
   (∀ g l h st e, ([Cause.eStop, .guardOpen g, .repeatFault, .slicerJam l, .headJam h st, .bagEmpty h, .commandHalt, .clipEmpty h,
     .tieFault h, .watchStop e, .commandStop].map fun c => latchedCode (some c)) = [1, 2, 3, 4, 5, 6, 7, 8, 9, 10, 11]) ∧
   timerCode none = [0xFF, 0xFF] ∧ (∀ n, timerCode (some n) = beBytes 2 n))

/-- Scope, Refusal and clamping: a request that is not answered OK has changed nothing; a TRIAL PLAN that waits has no reply
yet. R182: each of the fifteen requests that carry a lane refuses a lane above 1 with BAD_VALUE and no data; that the lane
is checked before the line state or the mode is the model's choice at BLADE CHANGE, PURGE START, PURGE STOP and SINGLE PURGE
(entry 17). -/
def Obligations.RefusedRequestsChangeNothing : Prop :=
  (∀ (f : Frame) (s : State) (code : ResultCode) (data : List Byte),
     (takeFrame f s).reply = some (code, data) → code ≠ .ok → (takeFrame f s).state = s ∧ (takeFrame f s).clearsLost = false) ∧
  (∀ (tag b c : Byte) (rate length height : Half) (pairs : List Setting) (s : State), s.link.handled = none → 1 < b.toNat →
     ∀ i, i ∈ [Instr.assignProduct tag b c, .laneSettings tag b pairs, .readLaneSettings tag b, .readQueue tag b c,
         .trialPlan tag b length height c, .setWearRate tag b rate, .bladeChange tag b, .readSlicer tag b, .crumbSettings tag b pairs,
         .setCrumbMode tag b c, .purgeStart tag b, .purgeStop tag b, .singlePurge tag b, .crumbReset tag b, .readCrumb tag b] →
       Rejects i s .badValue [])

/-- Section 11.3: a placed notice is dropped, queued or lost, and ATTN shows a notice held; section 11.6: the record and the
class of each of the sixteen notices; the requests of the Notice Queue; the loaf report of a removal by the loaf-report
mode. A STOP_CAUSE carries 0 as its HEAD_JAM states where the cause is another, and as the four bits of the other head (the
model's choice, entry 41), and as the places of a cause without detail (its reading, entry 41). -/
def Obligations.NoticesPlacedReadAndReported : Prop :=
  (∀ (n : Notice) (s : State),
     (s.notices.enabled.getLsbD n.classBit = false → s.notify n = s) ∧
     (s.notices.enabled.getLsbD n.classBit = true → s.notices.queue.length < 32 →
       s.notify n = { s with notices := { s.notices with queue := s.notices.queue ++ [n] } }) ∧
     (s.notices.enabled.getLsbD n.classBit = true → 32 ≤ s.notices.queue.length →
       s.notify n = { s with notices := { s.notices with lost := true } }) ∧
     (s.attn = true ↔ s.notices.queue ≠ [])) ∧
  (∀ (l : Lane) (h : Head) (p : ProductIx) (e : Fin 4) (n m k : Nat) (v w : Half) (x y : Quad) (on : Bool) (st : LineState)
     (r : LoafReport),
     let b2 := fun (n : Nat) => [BitVec.ofNat 8 (n / 256), BitVec.ofNat 8 n]
     let b3 := fun (n : Nat) => [BitVec.ofNat 8 (n / 65536), BitVec.ofNat 8 (n / 256), BitVec.ofNat 8 n]
     let b4 := fun (n : Nat) =>
       [BitVec.ofNat 8 (n / 16777216), BitVec.ofNat 8 (n / 65536), BitVec.ofNat 8 (n / 256), BitVec.ofNat 8 n]
     let yes := fun (b : Bool) => if b then (1 : Byte) else 0
     let bits := fun (places : List Bool) => BitVec.ofNat 8 (places.foldr (fun b n => (if b then 1 else 0) + 2 * n) 0)
     let shows := fun (notice : Notice) (classBit : Nat) (data : List Byte) =>
       notice.classBit = classBit ∧ data.length ≤ 16 ∧ notice.record = data ++ List.replicate (16 - data.length) 0
     let flags := bits [r.flags.closeGap, r.flags.overlong, r.flags.lateCut, r.flags.miscut, r.flags.uncheckedTie]
     let leftBy : Byte := match r.leftBy with
       | .rejectGate => 0
       | .head => 1
       | .lineClear => 2
     let head : Byte := match r.head with
       | none => 0
       | some k => Head.code k
     (∀ (left : LineState) (latched : Option Cause), shows (.lineState left st latched) 0
       [0x01, LineState.code left, LineState.code st, match latched with
         | none => 0
         | some c => BitVec.ofNat 8 c.priority]) ∧
     (∀ c : Cause, shows (.stopCause c st) 0 ([(0x02 : Byte)] ++ (match c with
         | .eStop => [(1 : Byte), 0, 0]
         | .guardOpen g => [2, BitVec.ofNat 8 (2 ^ g.val), 0]
         | .repeatFault => [3, 0, 0]
         | .slicerJam l => [4, Lane.code l + 1, 0]
         | .headJam h at' => [5, Head.code h, if h = .one then HeadStep.code at' else 16 * HeadStep.code at']
         | .bagEmpty h => [6, Head.code h, 0]
         | .commandHalt => [7, 0, 0]
         | .clipEmpty h => [8, Head.code h, 0]
         | .tieFault h => [9, Head.code h, 0]
         | .watchStop e => [10, BitVec.ofNat 8 (2 ^ e.val), 0]
         | .commandStop => [11, 0, 0]) ++ [LineState.code st])) ∧
     (∀ before after : Option ProductIx, shows (.productActive l before after) 0
       [0x03, Lane.code l, productCode before, productCode after]) ∧
     shows (.queueOverrun l x y) 0 ([0x04, Lane.code l] ++ b4 x.toNat ++ b4 y.toNat) ∧
     shows (.watchFired e n l) 1 ([0x05, BitVec.ofNat 8 e.val] ++ b2 n ++ [Lane.code l]) ∧
     shows (.captureFull n) 6 ([0x06] ++ b2 n) ∧
     shows (.plannerFull l n) 4 ([0x07, Lane.code l] ++ b2 n) ∧
     shows (.bladeWear l n m) 4 ([0x08, Lane.code l] ++ b3 n ++ [BitVec.ofNat 8 m]) ∧
     shows (.magazineLow h n) 3 ([0x09, Head.code h] ++ b2 n) ∧
     shows (.tieMismatch h n p v w) 3 ([0x0A, Head.code h] ++ b2 n ++ [BitVec.ofNat 8 p.val] ++ b2 v.toNat ++ b2 w.toNat) ∧
     shows (.signatureLearned h n p v) 3 ([0x0B, Head.code h] ++ b2 n ++ [BitVec.ofNat 8 p.val] ++ b2 v.toNat) ∧
     (∀ how : PurgeEnd, shows (.purgeDone l n m how) 2 ([0x0C, Lane.code l] ++ b3 n ++ [BitVec.ofNat 8 m, match how with
         | .fullTime => (0 : Byte)
         | .purgeStop => 1
         | .leadingEdge => 2])) ∧
     shows (.purgeNoGap l n on) 2 ([0x0D, Lane.code l] ++ b3 n ++ [yes on]) ∧
     (∀ step : CrumbStep, shows (.purgeAborted l step n on) 2 ([0x0E, Lane.code l, CrumbStep.code step] ++ b3 n ++ [yes on])) ∧
     shows (.shiftClosed n m k on) 5 ([0x0F] ++ b2 n ++ b2 m ++ [BitVec.ofNat 8 k, yes on]) ∧
     shows (.loafReport r) 7 ([(0x10 : Byte)] ++ b2 r.number ++
       [Lane.code r.lane, BitVec.ofNat 8 r.product.val, flags, yes r.marked, dispositionCode r.disposition,
         leftBy, head, tieResultCode r.tie])) ∧
  (∀ (tag b : Byte) (s : State), s.link.handled = none →
     (1 ≤ b.toNat → b.toNat ≤ 8 →
       let taken := s.notices.queue.take b.toNat
       let left := s.notices.queue.drop b.toNat
       exec (.readNotices tag b) s =
         .next ({ s with notices := { s.notices with queue := left } }.formReply ⟨0x02, tag, [b]⟩ .ok
           (beBytes 1 taken.length ++ beBytes 1 left.length ++ (taken.map Notice.record).flatten) true)) ∧
     Accepts (.flushNotices tag) s { s with notices := { s.notices with queue := [] } } (beBytes 1 s.notices.queue.length) ∧
     Accepts (.setNoticeClasses tag b) s { s with notices := { s.notices with enabled := b } } [s.notices.enabled, b] ∧
     (∀ m, reportModeOf b = some m →
       Accepts (.setLoafReports tag b) s { s with notices := { s.notices with reports := m } } [ReportMode.code s.notices.reports, b]) ∧
     (b = 0 ∨ 8 < b.toNat → Rejects (.readNotices tag b) s .badValue []) ∧
     (2 < b.toNat → Rejects (.setLoafReports tag b) s .badValue [])) ∧
  (∀ (r : LoafRecord) (how : LeftBy) (h : Option Head) (tie : Option TieResult) (s : State),
     let n := Notice.loafReport ⟨r.number, r.lane, r.product, r.flags, r.marked, r.disposition, how, h, tie⟩
     (s.notices.reports = .off → s.report r how h tie = s) ∧
     (s.notices.reports = .every → s.report r how h tie = s.notify n) ∧
     (s.notices.reports = .once → s.report r how h tie = { s with notices := { s.notices.place n with reports := .off } }))

/-- R181 and R17: the replies of IDENTIFY and READ LANE SETTINGS; neither changes anything else. -/
def Obligations.IdentityAndGeometryReplies : Prop :=
  (∀ (tag : Byte) (s : State), s.link.handled = none →
     encode (.identify tag) = some ⟨0x01, tag, []⟩ ∧
     Accepts (.identify tag) s s [0x4F, 0x4E, 0x34, 0x31, 0x32, 0x30, 0x43, s.lineId]) ∧
  (∀ (tag lane : Byte) (s : State), s.link.handled = none →
     (∀ l, lane = Lane.code l → Accepts (.readLaneSettings tag lane) s s
       (((s.lanes.get l).geometry.asList.map (beBytes 2)).flatten)) ∧
     (1 < lane.toNat → Rejects (.readLaneSettings tag lane) s .badValue []))

/-! ### The end of an event -/

/-- Sections 2.5, 8.2 and 9.4: at the end of an event the infeed holds are settled (a hold newly requested waits for the
window of a running belt to close), the crumb steps and the air are those that the start tests and purges of
State.purgeTests leave (O22 says what these make), a controller holding the grant on a quiet lane purges, and a complete
drain brings the line to STOPPED with its LINE_STATE, the only notice of an event's end; nothing else changes. The order is
the model's (entries 11, 12), and so is that the holds are settled once, at the end of the event, by the sources then
present (entry 40). -/
def Obligations.EventsEndSettled : Prop :=
  (∀ (before s : State) (asked : Option Lane) (l : Lane),
     let t := State.finish before asked s
     t.holdSources l =
       { line := decide (t.line.state ≠ .running), product := decide ((t.assign.get l).active = none),
         fill := decide (23 ≤ (t.lanes.get l).queue.length), laneHold := (t.lanes.get l).gateHeld.isSome,
         crumb := !(t.crumb.get l).manual &&
           (decide ((t.crumb.get l).step = .gapWait) || decide ((t.crumb.get l).step = .purging) ||
             decide ((t.crumb.get l).step = .settling)) } ∧
     (t.lanes.get l).holdInEffect =
       ((t.holdSources l).requested &&
         ((s.lanes.get l).holdInEffect || !((t.lanes.get l).window.isOpen && t.conveyorRuns l)))) ∧
  (∀ (before s : State) (asked : Option Lane) (l : Lane),
     let t := State.finish before asked s
     (t.crumb.get l).step = .gapWait → t.air.holder = some l → t.quiet l = false) ∧
  (∀ (before s : State) (asked : Option Lane),
     let t := State.finish before asked s
     t.pending = s.pending ∧ t.products = s.products ∧ t.dayCodes = s.dayCodes ∧ t.assign = s.assign ∧ t.lastLoaf = s.lastLoaf ∧
     t.planner = s.planner ∧ t.slicers = s.slicers ∧ t.watch = s.watch ∧ t.router = s.router ∧ t.heads = s.heads ∧
     t.lineId = s.lineId ∧ t.tiers = s.tiers ∧ t.totals = s.totals ∧ t.link = s.link ∧ t.inputs = s.inputs ∧
     (∀ l, t.lanes.get l = { s.lanes.get l with holdInEffect := (t.lanes.get l).holdInEffect }) ∧
     (∀ l, ∃ step last manual phase,
       t.crumb.get l = { s.crumb.get l with step := step, last := last, manual := manual, phase := phase })) ∧
  (∀ (before s : State) (asked : Option Lane),
     let t := State.finish before asked s
     let tests := State.purgeTests before asked s
     let complete := (∀ l, (s.lanes.get l).queue = [] ∧ (s.lanes.get l).window = .clear) ∧ ∀ h, (s.heads.get h).record = none
     t.crumb = tests.crumb ∧ t.air = tests.air ∧
     (s.line.state = .draining → complete → t.notices = s.notices.place (.lineState .draining .stopped s.line.latched)) ∧
     (¬(s.line.state = .draining ∧ complete) → t.notices = s.notices)) ∧
  (∀ (before s : State) (asked : Option Lane),
     let t := State.finish before asked s
     let complete := (∀ l, (s.lanes.get l).queue = [] ∧ (s.lanes.get l).window = .clear) ∧ ∀ h, (s.heads.get h).record = none
     (s.line.state = .draining → complete →
       t.line = ⟨.stopped, { s.line.causes with tieFault := ⟨false, false⟩, watchStop := Vector.replicate 4 false, commandStop := false },
         s.line.latched, none⟩) ∧
     (¬(s.line.state = .draining ∧ complete) → t.line = s.line))

/-- Sections 8.2 and 8.3: an AUTO controller's start test enters GAP_WAIT exactly in WATCHING on a moving line with no
hold-off, at T_high, or at T_low on a quiet lane; the tests and purges that a change of the lanes calls for, lane A first
(that order of the lanes is the model's choice, entry 8; that the tests are made at the end of the event is its reading,
entry 11); requests, releases and withdrawals at the arbiter. -/
def Obligations.PurgeStartsAndTheAirArbiter : Prop :=
  (∀ (l : Lane) (s : State),
     let c := s.crumb.get l
     let passes := c.mode = .auto ∧ c.step = .watching ∧ (s.line.state = .running ∨ s.line.state = .draining) ∧ c.holdOff = none ∧
       (c.tHigh ≤ c.load ∨ (c.tLow ≤ c.load ∧
         (∀ r ∈ (s.lanes.get l).queue, r.stage = .sliced ∨ r.stage = .waiting ∨ r.stage = .atHead) ∧ (s.lanes.get l).window = .clear))
     (passes → s.startTest l =
       { s with crumb := s.crumb.set l { c with step := .gapWait, last := .watching, manual := false, phase := some 10000 }
                air := s.air.request l }) ∧
     (¬passes → s.startTest l = s)) ∧
  (∀ (before s : State) (asked : Option Lane),
     let blade : List Stage := [.gauged, .planWait, .planned, .slicing]
     let tested := fun (l : Lane) => asked = some l ∨
       (∃ r ∈ (before.lanes.get l).queue, r.stage ∈ blade ∧
         ∀ x ∈ (s.lanes.get l).queue, x.number = r.number → x.stage ∉ blade) ∨
       ((before.lanes.get l).window ≠ .clear ∧ (s.lanes.get l).window = .clear)
     let begins := fun (l : Lane) (u : State) =>
       let c := u.crumb.get l
       if c.step = .gapWait ∧ u.air.holder = some l ∧ (∀ r ∈ (u.lanes.get l).queue, r.stage ∉ blade) ∧
           (u.lanes.get l).window = .clear then
         { u with crumb := u.crumb.set l { c with step := .purging, last := .gapWait, phase := some c.purgeTime } }
       else u
     ∃ u v : State,
       (tested .a → u = s.startTest .a) ∧ (¬tested .a → u = s) ∧ (tested .b → v = u.startTest .b) ∧ (¬tested .b → v = u) ∧
       State.purgeTests before asked s = begins .b (begins .a v)) ∧
  (∀ (l : Lane) (a : Air),
     (a.holder = none → a.request l = ⟨some l, a.waiting⟩) ∧
     (a.holder = some (otherLane l) → a.request l = ⟨a.holder, some l⟩) ∧
     (a.holder = some l → a.release l = ⟨a.waiting, none⟩) ∧
     (a.holder ≠ some l → a.waiting = some l → a.release l = ⟨a.holder, none⟩) ∧
     (a.holder ≠ some l → a.waiting ≠ some l → a.release l = a))

/-! ### Products and changeover (chapter 1) -/

/-- Sections 1.2 and 1.3: the product requests carried out, the bytes of the product report (section 11.5), their refusals
in the order of their checks, and what makes an entry in use. The report of a DEFINED entry without an expected signature
carries the value bytes 0000h (the model's choice, entry 37). -/
def Obligations.ProductRequests : Prop :=
  (∀ (tag index : Byte) (p : ProductIx) (s : State), s.link.handled = none → index.toNat = p.val →
     (∀ (f : ProductBody) (sig : Option Half) (w : Bool) (c : Fin 8), ProductFieldsAllowed f → f.wholeOk = boolCode w → f.shelfClass.toNat = c.val →
       s.inUse p = false →
       let e : ProductEntry := ⟨f.article.toNat, f.tNom.toNat, f.tMin.toNat, f.tMax.toNat, f.heel.toNat, f.kerf.toNat,
         f.nMax.toNat, f.crumbFactor.toNat, w, c, sig⟩
       let t := { s with products := s.products.set p (some e) }
       Accepts (.writeProduct tag index f sig) s t (t.productReport p)) ∧
     (s.products[p] ≠ none → s.inUse p = false →
       Accepts (.eraseProduct tag index) s { s with products := s.products.set p none } []) ∧
     Accepts (.readProduct tag index) s s (s.productReport p)) ∧
  (∀ (p : ProductIx) (s : State),
     let b2 := fun (n : Nat) => [BitVec.ofNat 8 (n / 256), BitVec.ofNat 8 n]
     let yes := fun (b : Bool) => if b then (1 : Byte) else 0
     (s.products[p] = none → s.productReport p = List.replicate 20 0) ∧
     (∀ e, s.products[p] = some e → s.productReport p =
       [1] ++ b2 e.article ++ b2 e.tNom ++ b2 e.tMin ++ b2 e.tMax ++ b2 e.heel ++
       [BitVec.ofNat 8 e.kerf, BitVec.ofNat 8 e.nMax, BitVec.ofNat 8 e.crumbFactor, yes e.wholeOk, BitVec.ofNat 8 e.shelfClass.val] ++
       (match e.signature with
         | none => [0, 0, 0]
         | some v => 1 :: b2 v.toNat) ++ [yes (s.inUse p)])) ∧
  (∀ (tag index : Byte) (f : ProductBody) (sig : Option Half) (s : State), s.link.handled = none →
     (15 < index.toNat → Rejects (.writeProduct tag index f sig) s .badValue [] ∧ Rejects (.eraseProduct tag index) s .badValue [] ∧
       Rejects (.readProduct tag index) s .badValue []) ∧
     (∀ p : ProductIx, index.toNat = p.val →
       (¬ProductFieldsAllowed f → Rejects (.writeProduct tag index f sig) s .badValue []) ∧
       (ProductFieldsAllowed f → s.inUse p = true → Rejects (.writeProduct tag index f sig) s .inUse []) ∧
       (s.products[p] = none → Rejects (.eraseProduct tag index) s .notPresent []) ∧
       (s.products[p] ≠ none → s.inUse p = true → Rejects (.eraseProduct tag index) s .inUse []))) ∧
  (∀ (p : ProductIx) (s : State), s.inUse p = true ↔
     (∃ l, (s.assign.get l).active = some p) ∨ (∃ l, (s.assign.get l).pending = some (some p)) ∨
     (∃ l lead highest, (s.lanes.get l).window = .span lead highest (some p)) ∨
     (∃ l, ∃ r ∈ (s.lanes.get l).queue, r.product = p) ∨ (∃ h, ∃ r, (s.heads.get h).record = some r ∧ r.product = p))

/-- Sections 1.5, 1.6 and 1.7: ASSIGN PRODUCT acts at once in STOPPED and waits as the pending product otherwise, with its
refusals; READ ASSIGNMENT (R12, section 1.6) in the layout of section 11.5; WRITE DAY CODES. A gauge holds a loaf in its
window while it is SPAN, and a VOID one answers no and FFh (the model's choice, entry 20). -/
def Obligations.AssignmentsAndDayCodes : Prop :=
  (∀ (tag lane product : Byte) (l : Lane) (x : Option ProductIx) (s : State), s.link.handled = none → lane = Lane.code l →
     product = productCode x → (∀ p, x = some p → s.products[p] ≠ none) →
     let prior := s.assign.get l
     let new : Assignment := if s.line.state = .stopped then ⟨x, none⟩ else ⟨prior.active, some x⟩
     Accepts (.assignProduct tag lane product) s (State.finish s none { s with assign := s.assign.set l new })
       [productCode prior.active, pendingProductCode prior.pending, productCode new.active, pendingProductCode new.pending]) ∧
  (∀ (tag lane product : Byte) (s : State), s.link.handled = none →
     (1 < lane.toNat → Rejects (.assignProduct tag lane product) s .badValue []) ∧
     (∀ l, lane = Lane.code l →
       let prior := [productCode (s.assign.get l).active, pendingProductCode (s.assign.get l).pending]
       (15 < product.toNat → product ≠ 0xFF → Rejects (.assignProduct tag lane product) s .badValue (prior ++ prior)) ∧
       (∀ p : ProductIx, product.toNat = p.val → s.products[p] = none →
         Rejects (.assignProduct tag lane product) s .notPresent (prior ++ prior)))) ∧
  (∀ (tag : Byte) (pairs : List DayPair) (s : State), s.link.handled = none →
     let held := fun (l : Lane) => match (s.lanes.get l).window with
       | .span _ _ p => [1, productCode p]
       | .clear | .void => [0, 0xFF]
     let figures := fun (l : Lane) =>
       [productCode (s.assign.get l).active, pendingProductCode (s.assign.get l).pending] ++ held l
     let character := fun (c : Byte) => (0x41 ≤ c.toNat ∧ c.toNat ≤ 0x5A) ∨ (0x30 ≤ c.toNat ∧ c.toNat ≤ 0x39)
     let passes := pairs.length ≤ 8 ∧
       (∀ p ∈ pairs, p.index.toNat ≤ 7 ∧ character p.c1 ∧ character p.c2 ∧ character p.c3) ∧ (pairs.map DayPair.index).Nodup
     Accepts (.readAssignment tag) s s (figures .a ++ figures .b) ∧
     (passes → ∃ codes : Vector DayCode 8,
       Accepts (.writeDayCodes tag pairs) s { s with dayCodes := codes }
         ((codes.toList.map fun c => [c.c1, c.c2, c.c3]).flatten) ∧
       ∀ k : Fin 8, (∀ p ∈ pairs, p.index.toNat = k.val → codes[k] = ⟨p.c1, p.c2, p.c3⟩) ∧
         ((∀ p ∈ pairs, p.index.toNat ≠ k.val) → codes[k] = s.dayCodes[k])) ∧
     (¬passes → Rejects (.writeDayCodes tag pairs) s .badValue ((s.dayCodes.toList.map fun c => [c.c1, c.c2, c.c3]).flatten)))

/-! ### Gauging and tracking (chapter 2) -/

/-- Section 2.1: LANE SETTINGS taken in STOPPED with the six settings in the reply, and its refusals for a lane that exists.
-/
def Obligations.LaneSettingsTaken : Prop :=
  ∀ (tag lane : Byte) (l : Lane) (pairs : List Setting) (s : State), s.link.handled = none → lane = Lane.code l →
    let g := (s.lanes.get l).geometry
    let g' : Geometry := ⟨lastFor 1 g.dBlade pairs, lastFor 2 g.dReject pairs, lastFor 3 g.dRouter pairs, lastFor 4 g.minGap pairs,
      lastFor 5 g.debrisLen pairs, lastFor 6 g.beamPitch pairs⟩
    let allowed := fun (p : Setting) =>
      (p.item = 1 ∧ 500 ≤ p.value.toNat ∧ p.value.toNat ≤ 20000) ∨ (p.item = 2 ∧ 501 ≤ p.value.toNat ∧ p.value.toNat ≤ 30000) ∨
      (p.item = 3 ∧ 502 ≤ p.value.toNat ∧ p.value.toNat ≤ 40000) ∨ (p.item = 4 ∧ p.value.toNat ≤ 2000) ∨
      (p.item = 5 ∧ 10 ≤ p.value.toNat ∧ p.value.toNat ≤ 500) ∨ (p.item = 6 ∧ 10 ≤ p.value.toNat ∧ p.value.toNat ≤ 60)
    let passes := 1 ≤ pairs.length ∧ pairs.length ≤ 12 ∧ (∀ p ∈ pairs, allowed p) ∧ g'.dBlade < g'.dReject ∧ g'.dReject < g'.dRouter
    (s.line.state ≠ .stopped → Rejects (.laneSettings tag lane pairs) s .wrongState g.bytes) ∧
    (s.line.state = .stopped → ¬passes → Rejects (.laneSettings tag lane pairs) s .badValue g.bytes) ∧
    (s.line.state = .stopped → passes →
      Accepts (.laneSettings tag lane pairs) s { s with lanes := s.lanes.set l { s.lanes.get l with geometry := g' } } g'.bytes)

/-- Sections 1.6 and 2.2: beams become blocked: a leading edge with the gauge CLEAR, a rise of the highest beam in SPAN, no
effect on the gauge in VOID; the highest beam is the highest index, 0 to 47, of a blocked beam; and the five cases of a
leading edge. The two rows stand for one physical edge (entry 2), and the travel operand moves a running belt (entry 5). -/
def Obligations.BeamsBlockedByTheGauge : Prop :=
  (∀ (l : Lane) (d : Quad) (beams : BitVec 48) (s : State), beams ≠ 0 →
     let q := s.lanes.get l
     let position := if s.conveyorRuns l then q.position + d else q.position
     let seen := { s with inputs := { s.inputs with curtain := s.inputs.curtain.set l beams }
                          lanes := s.lanes.set l { q with position := position } }
     ∀ i ∈ [Instr.leadingEdge l d beams, Instr.highestBeamRaise l d beams],
       (q.window = .clear → exec i s = .next (State.finish s none { seen with
         assign := s.assign.set l (s.assign.get l).settled
         lanes := s.lanes.set l { q with position := position, window := .span position (highestBeam beams) (s.assign.get l).fixed }
         notices := if (s.assign.get l).settled.active = (s.assign.get l).active then s.notices
           else s.notices.place (.productActive l (s.assign.get l).active (s.assign.get l).settled.active)
         crumb := if (s.crumb.get l).step = .purging then s.crumb.set l
             { s.crumb.get l with step := .settling, last := .purging, phase := some (s.crumb.get l).settleTime, ended := .leadingEdge }
           else s.crumb })) ∧
       (∀ lead highest p, q.window = .span lead highest p → exec i s = .next { seen with
         lanes := s.lanes.set l { q with position := position, window := .span lead (max highest (highestBeam beams)) p } }) ∧
       (q.window = .void → exec i s = .next seen)) ∧
  (∀ beams : BitVec 48, beams ≠ 0 →
     highestBeam beams ≤ 47 ∧ beams.getLsbD (highestBeam beams) = true ∧
     ∀ k : Nat, highestBeam beams < k → beams.getLsbD k = false) ∧
  (∀ (a : Assignment),
     (∀ p, a = ⟨some p, none⟩ → a.settled = ⟨some p, none⟩ ∧ a.fixed = some p) ∧
     (a = ⟨none, none⟩ → a.settled = ⟨none, none⟩ ∧ a.fixed = none) ∧
     (∀ q, a.pending = some (some q) → a.settled = ⟨some q, none⟩ ∧ a.fixed = some q) ∧
     (∀ p, a = ⟨some p, some none⟩ → a.settled = ⟨none, none⟩ ∧ a.fixed = some p) ∧
     (a = ⟨none, some none⟩ → a.settled = ⟨none, none⟩ ∧ a.fixed = none))

/-- Section 2.2: what the clearing of the last blocked beam makes of the window: a debris span, an overrun span, a loaf or a
void close. The two rows stand for one physical edge (entry 2). With the gauge CLEAR no event is taken and only the curtain
and the position are seen, the position moved by the travel (the model's choice, entry 5). -/
def Obligations.SpansAreClassified : Prop :=
  ∀ (l : Lane) (d : Quad) (s : State),
    let q := s.lanes.get l
    let position := if s.conveyorRuns l then q.position + d else q.position
    let seen := { s with inputs := { s.inputs with curtain := s.inputs.curtain.set l 0 }
                         lanes := s.lanes.set l { q with position := position } }
    let close := fun (u : State) =>
      State.finish s none { u with lanes := u.lanes.set l { u.lanes.get l with previous := some position, window := .clear } }
    let totals := s.totals.lanes.get l
    let counted : LaneTotals := { totals with debris := min 4294967295 (totals.debris + 1) }
    let debris := { seen with totals := { s.totals with lanes := s.totals.lanes.set l counted } }
    ∀ i ∈ [Instr.trailingEdge l d, Instr.voidClose l d],
      (q.window = .clear → exec i s = .next seen) ∧
      (q.window = .void → exec i s = .next (close seen)) ∧
      (∀ lead highest product, q.window = .span lead highest product →
        let span := position - lead
        (product = none ∨ span.toNat < q.geometry.debrisLen → exec i s = .next (close debris)) ∧
        (product ≠ none → q.geometry.debrisLen ≤ span.toNat → 24 ≤ q.queue.length →
          exec i s = .next (close (seen.notify (.queueOverrun l lead span)))) ∧
        (∀ p, product = some p → q.geometry.debrisLen ≤ span.toNat → q.queue.length < 24 →
          exec i s = .next (close (seen.admitLoaf l lead highest p span.toNat))))

/-- Sections 2.2, 2.3 and 2.4: the record of a loaf whose product's admitted figure is below its limit, and then, for a span
of any length, the points lane position has already reached, taken in increasing order of position, each as its own event:
none below D_blade; at least D_blade, LATE_PLAN (D_blade being at least 1; R15 gives 500, which O9 keeps); past the trailing
edge's point, SLICED where no cut of it is left; at least D_reject, diverted; the number given is free. The trailing edge
first at equal positions is the model's choice (entry 32), and so is that a diverter pulse still running starts its 300 ms
anew (entry 35) and that a command's point moves a running belt's position (entry 5). The issued list and the passed marks
are the model's own (entries 6, 23). -/
def Obligations.AdmissionFormsTheRecord : Prop :=
  (∀ (l : Lane) (lead : Quad) (highest : Nat) (p : ProductIx) (span : Nat) (s : State),
     let n := s.nextLoaf
     let q := s.lanes.get l
     let g := q.geometry
     let gap := match q.previous with
       | none => 65535
       | some e => min 65535 (lead - e).toNat
     let r : LoafRecord :=
       { number := n, lane := l, product := p, lead := lead, length := min span 16383,
         height := min 2000 ((highest + 1) * g.beamPitch), gapBefore := gap,
         flags := ⟨decide (gap < g.minGap), decide (16383 < span), false, false, false⟩, stage := .gauged, plan := none,
         cutsDone := 0, disposition := none, marked := false, hits := Vector.replicate 4 false, head := none, tie := none,
         passed := ⟨false, false, false, false⟩ }
     let figures := s.totals.products[p]
     let admitted :=
       { s with
         lastLoaf := n
         lanes := s.lanes.set l { q with queue := q.queue ++ [r] }
         planner := { s.planner with issued := s.planner.issued ++ [⟨l, n, false⟩] }
         totals := { s.totals with products := s.totals.products.set p { figures with admitted := figures.admitted + 1 } } }
     let past := g.dBlade + r.length
     let take := fun (e : Positional) (distance : Nat) (u : State) =>
       if atOrBeyond q.position (lead + BitVec.ofNat 32 distance) = true then u.positionalEvent e l n else u
     figures.admitted < 4294967295 →
       s.admitLoaf l lead highest p span =
         (if past ≤ g.dReject then
           take .routerGate g.dRouter (take .rejectGate g.dReject (take .trailing past (take .bladeLine g.dBlade admitted)))
         else if past ≤ g.dRouter then
           take .routerGate g.dRouter (take .trailing past (take .rejectGate g.dReject (take .bladeLine g.dBlade admitted)))
         else
           take .trailing past (take .routerGate g.dRouter (take .rejectGate g.dReject (take .bladeLine g.dBlade admitted)))) ∧
       (q.position - lead = BitVec.ofNat 32 span → span < 2147483648 → g.ordered = true → g.dRouter ≤ 40000 →
         (span < g.dBlade → s.admitLoaf l lead highest p span = admitted) ∧
         (g.dBlade ≤ span → 1 ≤ g.dBlade → s.BooksKept →
           let late := { r with
             passed := ⟨true, false, false, false⟩, stage := .planned
             plan := some ⟨.latePlan, 0, 0, 0, r.length, [], 0, 0, false, false⟩, disposition := some .latePlan }
           let watched := { admitted with lanes := s.lanes.set l { q with queue := q.queue ++ [late] } }.evaluate n
           let withdrawn := { s.planner with
             issued := (s.planner.issued ++ [IssuedRequest.mk l n false]).map fun (x : IssuedRequest) =>
               if x.loaf = n then { x with withdrawn := true } else x
             queue := s.planner.queue.filter fun x => !x.isFor n
             current := s.planner.current.map fun c => if c.request.isFor n then { c with withdrawn := true } else c }
           let sl := s.slicers.get l
           let noCut := (∀ e ∈ sl.schedule, e.loaf ≠ n) ∧ sl.pending.map Cut.loaf ≠ some n ∧ sl.blade.strokeLoaf ≠ some n
           ∃ r', watched.queued l n = some r' ∧
             r' = { late with hits := r'.hits, marked := r'.marked } ∧
             (span < g.dReject → span < past → s.admitLoaf l lead highest p span = { watched with planner := withdrawn }) ∧
             (span < g.dReject → past ≤ span →
               s.admitLoaf l lead highest p span = { watched with planner := withdrawn }.updateRecord n fun x =>
                 { x with passed := { x.passed with trailing := true }, stage := if noCut then .sliced else x.stage }) ∧
             (g.dReject ≤ span → figures.rejLatePlan < 4294967295 →
               s.admitLoaf l lead highest p span =
                 { watched with
                   planner := withdrawn
                   lanes := s.lanes.set l { q with diverter := some 300 }
                   slicers := s.slicers.set l { sl with
                     schedule := sl.schedule.filter (fun y => decide (y.loaf ≠ n))
                     pending := sl.pending.filter (fun y => decide (y.loaf ≠ n)) }
                   totals := { s.totals with products := s.totals.products.set p { figures with
                     admitted := figures.admitted + 1
                     rejLatePlan := figures.rejLatePlan + 1
                     marked := if r'.marked then min 4294967295 (figures.marked + 1) else figures.marked } } }.report
                   r' .rejectGate none none)))) ∧
  (∀ (e : Positional) (l : Lane) (n : Nat) (u : State),
     (u.queued l n = none → u.positionalEvent e l n = u) ∧
     (∀ r, u.queued l n = some r → u.conveyorRuns l = true →
       let g := (u.lanes.get l).geometry
       let reached := fun (d : Nat) => atOrBeyond (u.lanes.get l).position (r.lead + BitVec.ofNat 32 d) = true
       let ends := Host.Outcome.next (State.finish u none (u.positionalEvent e l n))
       (e = .bladeLine → r.passed.bladeLine = false → reached g.dBlade → exec (.bladeLineArrival l n) u = ends) ∧
       (e = .trailing → r.passed.bladeLine = true → r.passed.trailing = false → reached (g.dBlade + r.length) →
         exec (.trailingEdgePastBlade l n) u = ends) ∧
       (e = .rejectGate → r.passed.bladeLine = true → r.passed.rejectGate = false → reached g.dReject →
         exec (.rejectGateArrival l n) u = ends) ∧
       (e = .routerGate → r.passed.rejectGate = true → r.passed.routerGate = false → reached g.dRouter →
         exec (.routerGateArrival l n) u = ends))) ∧
  (∀ s : State, s.BooksKept →
     1 ≤ s.nextLoaf ∧ s.nextLoaf ≤ 65535 ∧ (∀ r ∈ s.held, r.number ≠ s.nextLoaf) ∧
     ((∀ r ∈ s.held, r.number ≠ nextNumber s.lastLoaf) → s.nextLoaf = if s.lastLoaf < 65535 then s.lastLoaf + 1 else 1)) ∧
  (∀ (l : Lane) (lead : Quad) (highest : Nat) (p : ProductIx) (span : Nat) (s : State),
     let q := s.lanes.get l
     let t := s.admitLoaf l lead highest p span
     s.BooksKept → q.position - lead = BitVec.ofNat 32 span → q.geometry.dBlade ≤ span → span < q.geometry.dReject →
     span ≤ 16383 → 1 ≤ q.geometry.dBlade → q.geometry.ordered = true → q.geometry.dRouter ≤ 40000 →
       ∃ r, t.queued l s.nextLoaf = some r ∧ r.stage = .planned ∧ r.plan.map Plan.outcome = some .latePlan ∧
         r.disposition = some .latePlan ∧ r.passed.bladeLine = true ∧
         t.planner.issued = (s.planner.issued ++ [IssuedRequest.mk l s.nextLoaf false]).map (fun (x : IssuedRequest) =>
           if x.loaf = s.nextLoaf then { x with withdrawn := true } else x))

/-- Section 2.4: a record at the blade line with its plan present and past the blade line; without a plan it is LATE_PLAN,
PLANNED and rejected, it is evaluated, and its request is withdrawn; what writing a record by its number does. Each event is
taken once, on a running belt, which it moves to the record's point (entries 5, 6). -/
def Obligations.TheBladeLineAndTheTrailingEdge : Prop :=
  (∀ (l : Lane) (n : Nat) (r : LoafRecord) (s : State), s.queued l n = some r → s.conveyorRuns l = true →
     let q := s.lanes.get l
     let at' := fun (point : Quad) =>
       { s with lanes := s.lanes.set l { q with position := if atOrBeyond q.position point then q.position else point } }
     (r.passed.bladeLine = false → r.plan ≠ none →
       exec (.bladeLineArrival l n) s = .next (State.finish s none
         ((at' (r.lead + BitVec.ofNat 32 q.geometry.dBlade)).updateRecord n fun x =>
           { x with passed := { x.passed with bladeLine := true } }))) ∧
     (r.passed.bladeLine = true → r.passed.trailing = false →
       let u := at' (r.lead + BitVec.ofNat 32 (q.geometry.dBlade + r.length))
       let done := (∀ e ∈ (s.slicers.get l).schedule, e.loaf ≠ n) ∧ (s.slicers.get l).pending.map Cut.loaf ≠ some n ∧
         (∀ c, (s.slicers.get l).blade = .stroking c → c.loaf ≠ n)
       (r.stage = .planned → done → exec (.trailingEdgePastBlade l n) s = .next (State.finish s none (u.updateRecord n fun x =>
         { x with passed := { x.passed with trailing := true }
                  stage := if x.stage = .planned ∨ x.stage = .slicing then .sliced else x.stage }))) ∧
       (r.stage ≠ .planned ∨ ¬done → exec (.trailingEdgePastBlade l n) s = .next (State.finish s none (u.updateRecord n fun x =>
         { x with passed := { x.passed with trailing := true } }))))) ∧
  (∀ (l : Lane) (n : Nat) (r : LoafRecord) (s : State), s.queued l n = some r → s.conveyorRuns l = true →
     r.passed.bladeLine = false → r.plan = none →
       let q := s.lanes.get l
       let point := r.lead + BitVec.ofNat 32 q.geometry.dBlade
       let u := { s with lanes := s.lanes.set l { q with position := if atOrBeyond q.position point then q.position else point } }
       let v := (u.updateRecord n fun x =>
         { x with passed := { x.passed with bladeLine := true }, stage := .planned
                  plan := some ⟨.latePlan, 0, 0, 0, x.length, [], 0, 0, false, false⟩
                  disposition := some (x.disposition.getD .latePlan) }).evaluate n
       exec (.bladeLineArrival l n) s = .next (State.finish s none { v with planner := { s.planner with
         issued := s.planner.issued.map fun x => if x.loaf = n then { x with withdrawn := true } else x
         queue := s.planner.queue.filter fun x => !x.isFor n
         current := s.planner.current.map fun c => if c.request.isFor n then { c with withdrawn := true } else c } })) ∧
  (∀ (n : Nat) (f : LoafRecord → LoafRecord) (s : State), (∀ r, (f r).number = r.number) →
     let t := s.updateRecord n f
     (∀ l, t.queued l n = (s.queued l n).map f) ∧
     (∀ l m, m ≠ n → t.queued l m = s.queued l m) ∧
     (∀ l, t.lanes.get l = { s.lanes.get l with queue := (t.lanes.get l).queue }) ∧
     (∀ l, (t.lanes.get l).queue.map LoafRecord.number = (s.lanes.get l).queue.map LoafRecord.number) ∧
     (∀ h, t.heads.get h = { s.heads.get h with record := (s.heads.get h).record.map (fun r => if r.number = n then f r else r) }) ∧
     t = { s with lanes := t.lanes, heads := t.heads })

/-- Section 2.4: a record at the reject gate runs on, or is diverted, removed, counted and reported, its cuts not begun
dropped; the diverter's pulse ends. The point moves a running belt's position (the model's choice, entry 5), and each event
is taken once per record (entry 6). A pulse that still runs starts its 300 ms anew (the model's choice, entry 35). -/
def Obligations.RejectGateDiverts : Prop :=
  ∀ (l : Lane) (n : Nat) (r : LoafRecord) (s : State),
    let q := s.lanes.get l
    let sl := s.slicers.get l
    let point := r.lead + BitVec.ofNat 32 q.geometry.dReject
    let position := if atOrBeyond q.position point then q.position else point
    (s.queued l n = some r → s.conveyorRuns l = true → r.passed.bladeLine = true → r.passed.rejectGate = false →
      (r.disposition = none → exec (.rejectGateArrival l n) s = .next (State.finish s none
        ({ s with lanes := s.lanes.set l { q with position := position } }.updateRecord n fun x =>
          { x with passed := { x.passed with rejectGate := true } }))) ∧
      (∀ reason : Reason, r.disposition = some reason → s.totals.products[r.product].rejected reason < 4294967295 →
        let x := s.totals.products[r.product]
        let gone := { s with
          lanes := s.lanes.set l { q with position := position, diverter := some 300, queue := q.queue.filter (fun y => y.number != n) }
          slicers := s.slicers.set l { sl with
            schedule := sl.schedule.filter (fun y => decide (y.loaf ≠ n))
            pending := sl.pending.filter (fun y => decide (y.loaf ≠ n)) }
          totals := { s.totals with products := s.totals.products.set r.product { x with
            rejWatch := x.rejWatch + (if reason = Reason.watch then 1 else 0)
            rejNoPlan := x.rejNoPlan + (if reason = Reason.noPlan then 1 else 0)
            rejLatePlan := x.rejLatePlan + (if reason = Reason.latePlan then 1 else 0)
            rejNoSpan := x.rejNoSpan + (if reason = Reason.noSpan then 1 else 0)
            rejMiscut := x.rejMiscut + (if reason = Reason.miscut then 1 else 0)
            rejUntied := x.rejUntied + (if reason = Reason.untied then 1 else 0)
            marked := if r.marked then min 4294967295 (x.marked + 1) else x.marked } } }
        exec (.rejectGateArrival l n) s = .next (State.finish s none (gone.report r .rejectGate none none)))) ∧
    exec (.diverterPulseEnd l) s = .next { s with lanes := s.lanes.set l { q with diverter := none } }

/-- Section 2.4: a record at the router gate: its slicing ends, cuts left are given up with MISCUT, and it becomes WAITING,
or gate-held behind a full waiting zone. The point moves a running belt's position (the model's choice, entry 5), and each
event is taken once per record (entry 6). -/
def Obligations.RouterGatePlacesTheRecord : Prop :=
  ∀ (l : Lane) (n : Nat) (r : LoafRecord) (s : State), s.BooksKept → s.queued l n = some r → s.conveyorRuns l = true →
    r.passed.rejectGate = true → r.passed.routerGate = false → r.stage ≠ .waiting →
    let q := s.lanes.get l
    let sl := s.slicers.get l
    let point := r.lead + BitVec.ofNat 32 q.geometry.dRouter
    let cutsLeft : Bool := sl.schedule.any (fun e => e.loaf == n) || decide (sl.pending.map Cut.loaf = some n)
    let slicing : Bool := decide (r.stage = .planned ∨ r.stage = .slicing)
    let mark := fun (x : LoafRecord) =>
      { x with passed := { x.passed with routerGate := true }
               stage := if slicing then .sliced else x.stage
               flags := if slicing && cutsLeft then { x.flags with miscut := true } else x.flags
               disposition := if slicing && cutsLeft then some (x.disposition.getD .miscut) else x.disposition }
    let u := { s with
      lanes := s.lanes.set l { q with position := if atOrBeyond q.position point then q.position else point }
      slicers := if slicing then s.slicers.set l { sl with
        schedule := sl.schedule.filter (fun y => decide (y.loaf ≠ n))
        pending := sl.pending.filter (fun y => decide (y.loaf ≠ n)) } else s.slicers }
    let waiting := q.queue.countP fun x => decide (x.stage = .waiting)
    (waiting < 2 → exec (.routerGateArrival l n) s = .next (State.finish s none
      ({ u.updateRecord n (fun x => { mark x with stage := .waiting }) with
          router := { s.router with waitingOrder := s.router.waitingOrder ++ [(n, l)] } }.attemptReleases))) ∧
    (2 ≤ waiting → exec (.routerGateArrival l n) s = .next (State.finish s none
      ((u.updateRecord n mark).modLane l fun y => { y with gateHeld := some n })))

/-! ### Slice planning (chapter 3) -/

/-- R51 to R53: the nominal slice count, its single adjustment, the thickness clamp with the outcome it sets, and the plan
they give. -/
def Obligations.SliceCountPitchAndClamp : Prop :=
  (∀ (i : PlanInputs) (sSub : Nat), 40 ≤ i.tNom → 1 ≤ i.nMax →
     let pn := 256 * i.tNom + i.kSub
     let n0 := (sSub + pn / 2) / pn
     10240 ≤ pn ∧ (2 * n0 * pn ≤ 2 * sSub + pn ∧ 2 * sSub < 2 * n0 * pn + pn + 1) ∧
     (n0 = 0 → i.nominalCount sSub = 1) ∧ (i.nMax < n0 → i.nominalCount sSub = i.nMax) ∧
     (1 ≤ n0 → n0 ≤ i.nMax → i.nominalCount sSub = n0)) ∧
  (∀ (i : PlanInputs) (sSub : Nat), 1 ≤ i.nMax →
     let n0 := i.nominalCount sSub
     let t0 : Int := ((sSub / n0 : Nat) : Int) - (i.kSub : Int)
     (256 * (i.tMax : Int) < t0 → n0 < i.nMax → i.adjustedCount sSub = n0 + 1) ∧
     (¬(256 * (i.tMax : Int) < t0 ∧ n0 < i.nMax) → t0 < 256 * (i.tMin : Int) → 1 < n0 → i.adjustedCount sSub = n0 - 1) ∧
     (¬(256 * (i.tMax : Int) < t0 ∧ n0 < i.nMax) → ¬(t0 < 256 * (i.tMin : Int) ∧ 1 < n0) → i.adjustedCount sSub = n0)) ∧
  (∀ (i : PlanInputs) (pitch : Nat), i.tMin ≤ i.tMax →
     let t : Int := (pitch : Int) - (i.kSub : Int)
     (256 * (i.tMax : Int) < t → i.clampedPitch pitch = (256 * i.tMax + i.kSub, .heelLong)) ∧
     (t < 256 * (i.tMin : Int) → i.clampedPitch pitch = (256 * i.tMin + i.kSub, .heelShort)) ∧
     (256 * (i.tMin : Int) ≤ t → t ≤ 256 * (i.tMax : Int) → i.clampedPitch pitch = (pitch, .even))) ∧
  (∀ i : PlanInputs, 2 * i.heel < i.length →
     let sSub := 256 * (i.length - 2 * i.heel)
     let n := i.adjustedCount sSub
     let c := i.clampedPitch (sSub / n)
     let last := (256 * i.heel + n * c.1 + 128) / 256
     (last ≤ i.length →
       i.plan.outcome = c.2 ∧ i.plan.slices = n ∧ i.plan.pitch = c.1 ∧ i.plan.thickness = c.1 - i.kSub) ∧
     (i.length < last → i.plan.outcome = .noSpan))

/-- Section 3.3: what every plan with cuts shows. -/
def Obligations.PlansWithCuts : Prop :=
  ∀ i : PlanInputs, 40 ≤ i.tMin → i.tMin ≤ i.tNom → i.tNom ≤ i.tMax → 1 ≤ i.nMax →
    let p := i.plan
    p.outcome = .even ∨ p.outcome = .heelLong ∨ p.outcome = .heelShort →
      1 ≤ p.slices ∧ p.slices ≤ i.nMax ∧ 256 * i.tMin ≤ p.thickness ∧ p.thickness ≤ 256 * i.tMax ∧
      p.pitch = p.thickness + i.kSub ∧ p.cuts.length = p.slices + 1 ∧ p.cuts.head? = some i.heel ∧
      p.cuts.Pairwise (· < ·) ∧ (∀ c ∈ p.cuts, c ≤ i.length) ∧
      (∀ k, k ≤ p.slices → p.cuts[k]? = some ((256 * i.heel + k * p.pitch + 128) / 256)) ∧
      p.cuts.getLast?.map (· + p.trailingHeel) = some i.length

/-- Sections 3.2 and 3.3: when a plan has no cuts and what it then holds; an EVEN or HEEL_LONG plan leaves the trailing heel
whole; the wear term, the effective kerf and the crumb per cut with their clamps. -/
def Obligations.PlansWithoutCutsAndWear : Prop :=
  (∀ i : PlanInputs, 40 ≤ i.tMin → i.tMin ≤ i.tNom → i.tNom ≤ i.tMax → 1 ≤ i.nMax →
     let p := i.plan
     (i.length ≤ 2 * i.heel → p.outcome = .noSpan) ∧
     (p.outcome ≠ .noPlan ∧ p.outcome ≠ .latePlan) ∧
     (p.outcome = .noSpan → p = ⟨.noSpan, 0, 0, 0, i.length, [], 0, p.wearTerm, p.wearClamped, false⟩) ∧
     (p.outcome = .even ∨ p.outcome = .heelLong → i.heel ≤ p.trailingHeel) ∧
     (p.outcome = .heelShort → p.trailingHeel ≤ i.heel)) ∧
  (∀ i : PlanInputs,
     i.wearTerm = min 5120 (i.strokes * i.wearRate / 256) ∧ i.kSub = 256 * i.kerf + i.wearTerm ∧
     i.plan.wearTerm = i.wearTerm ∧ (i.plan.wearClamped = true ↔ 5120 < i.strokes * i.wearRate / 256) ∧
     (i.plan.cuts ≠ [] → i.plan.crumbPerCut = min 65535 (i.kSub * i.height * i.crumbFactor / 65536) ∧
       (i.plan.crumbClamped = true ↔ 65535 < i.kSub * i.height * i.crumbFactor / 65536)) ∧
     (i.plan.cuts = [] → i.plan.crumbPerCut = 0 ∧ i.plan.crumbClamped = false))

/-- Sections 3.1 and 3.3: TRIAL PLAN is refused in the order of its checks, joins the queue or starts at once, its reply
deferred; READ PLANNER STATUS reports the bytes of section 11.5 and clears OVF; the arrival of a gauge request at a planner
with room, at a full one, and of a withdrawn one; the oldest request starts with its inputs as they stand. The issued list
is entry 23, the lane byte without a plan entry 19. -/
def Obligations.PlanRequestsArrive : Prop :=
  (∀ (tag lane product : Byte) (length height : Half) (s : State), s.link.handled = none →
     let i := Instr.trialPlan tag lane length height product
     let allowed := lane.toNat ≤ 1 ∧ 1 ≤ length.toNat ∧ length.toNat ≤ 16383 ∧ height.toNat ≤ 2000 ∧ product.toNat ≤ 15
     let deferred := { s.link with handled := some ⟨requestFrame i, none⟩ }
     Accepts (.readPlannerStatus tag) s { s with planner := { s.planner with overflow := false } } s.plannerReport ∧
     s.plannerReport.length = 13 + 4 * s.planner.queue.length ∧
     (¬allowed → Rejects i s .badValue []) ∧
     (∀ (l : Lane) (p : ProductIx), allowed → lane = Lane.code l → product.toNat = p.val →
       let req := PlanRequest.trial l length.toNat height.toNat p
       (s.products[p] = none → Rejects i s .notPresent []) ∧
       (s.products[p] ≠ none → 4 ≤ s.planner.queue.length → Rejects i s .busy []) ∧
       (s.products[p] ≠ none → s.planner.queue.length < 4 →
         exec i s = .next { { s with planner := { s.planner with queue := s.planner.queue ++ [req] } }.startNext with link := deferred }))) ∧
  (∀ (s : State),
     let b2 := fun (n : Nat) => [BitVec.ofNat 8 (n / 256), BitVec.ofNat 8 n]
     let b4 := fun (n : Nat) =>
       [BitVec.ofNat 8 (n / 16777216), BitVec.ofNat 8 (n / 65536), BitVec.ofNat 8 (n / 256), BitVec.ofNat 8 n]
     let yes := fun (b : Bool) => if b then (1 : Byte) else 0
     let kinds := fun (r : PlanRequest) => match r with
       | .gauge l n => [1, Lane.code l] ++ b2 n
       | .trial l _ _ _ => [2, Lane.code l, 0, 0]
     let rest := [BitVec.ofNat 8 s.planner.queue.length] ++ (s.planner.queue.map kinds).flatten ++ [yes s.planner.overflow] ++
       b4 s.planner.count ++ [yes s.slicers.a.wearLimit, yes s.slicers.b.wearLimit]
     (∀ c, s.planner.current = some c → s.plannerReport = kinds c.request ++ [yes c.withdrawn] ++ rest) ∧
     (s.planner.current = none → ∃ lane : Byte, s.plannerReport = [0, lane, 0, 0, 0] ++ rest)) ∧
  (∀ (l : Lane) (n : Nat) (before after : List IssuedRequest) (w : Bool) (s : State),
     s.planner.issued = before ++ ⟨l, n, w⟩ :: after → (∀ x ∈ before, ¬(x.lane = l ∧ x.loaf = n)) →
     let i := Instr.gaugeRequestArrival l n
     let t := { s with planner := { s.planner with issued := before ++ after } }
     (w = true → exec i s = .next t) ∧
     (w = false → s.planner.queue.length < 4 →
       exec i s = .next (State.finish s none
         { t.updateRecord n (fun x => { x with stage := .planWait }) with
           planner := { t.planner with queue := s.planner.queue ++ [PlanRequest.gauge l n] } }.startNext)) ∧
     (w = false → 4 ≤ s.planner.queue.length →
       exec i s = .next (State.finish s none (((t.updateRecord n fun x =>
         { x with stage := .planned, plan := some ⟨.noPlan, 0, 0, 0, x.length, [], 0, 0, false, false⟩
                  disposition := some (x.disposition.getD .noPlan) }).evaluate n).notify (.plannerFull l n))))) ∧
  (∀ (s : State),
     (s.planner.current ≠ none ∨ s.planner.queue = [] → s.startNext = s) ∧
     (∀ req rest, s.planner.current = none → s.planner.queue = req :: rest →
       let starts := fun (i : PlanInputs) => { s with planner := { s.planner with queue := rest, current := some ⟨req, i, false⟩ } }
       (∀ l n r e, req = .gauge l n → s.queued l n = some r → s.products[r.product] = some e → s.startNext = starts
         ⟨r.length, r.height, e.tNom, e.tMin, e.tMax, e.heel, e.kerf, e.nMax, e.crumbFactor, e.wholeOk, (s.slicers.get l).strokes,
           (s.slicers.get l).wearRate⟩) ∧
       (∀ l length height p e, req = .trial l length height p → s.products[p] = some e → s.startNext = starts
         ⟨length, height, e.tNom, e.tMin, e.tMax, e.heel, e.kerf, e.nMax, e.crumbFactor, e.wholeOk, (s.slicers.get l).strokes,
           (s.slicers.get l).wearRate⟩)))

/-- Sections 3.1 and 3.2: the completions: WEAR_LIMIT with its notice; the plan delivered to its record, scheduled and
evaluated, or discarded; the trial's reply; and the oldest queued request started after each; the bytes of the plan block
(section 11.5). -/
def Obligations.PlansComplete : Prop :=
  (∀ (c : CurrentPlan) (s : State), s.planner.current = some c →
     let p := c.inputs.plan
     let done : Planner := { s.planner with overflow := s.planner.overflow || p.crumbClamped
                                            count := min 4294967295 (s.planner.count + 1), current := none }
     (∀ l n, c.request = .gauge l n →
       let x := s.slicers.get l
       let worn : PerLane Slicer := if p.wearClamped then s.slicers.set l { x with wearLimit := true } else s.slicers
       let base := { s with
         planner := done, slicers := worn
         notices := if p.wearClamped = true ∧ x.wearLimit = false
           then s.notices.place (.bladeWear l c.inputs.strokes c.inputs.wearRate) else s.notices }
       (c.withdrawn = true ∨ s.queued l n = none → exec .planCompletion s = .next (State.finish s none base.startNext)) ∧
       (c.withdrawn = false → s.queued l n ≠ none → ∃ schedule ahead later front back,
         exec .planCompletion s = .next (State.finish s none (({ base with
           slicers := worn.set l { worn.get l with schedule := schedule } }.updateRecord n fun y =>
             { y with plan := some p, stage := .planned
                      disposition := if p.outcome = PlanOutcome.noSpan ∧ c.inputs.wholeOk = false then some (y.disposition.getD Reason.noSpan)
                        else y.disposition }).evaluate n).startNext) ∧
         x.schedule = front ++ back ∧ (s.lanes.get l).queue.map LoafRecord.number = ahead ++ n :: later ∧ n ∉ ahead ∧
         (∀ e ∈ front, e.loaf ∉ later) ∧ (∀ e, back.head? = some e → e.loaf ∈ later) ∧
         schedule = if p.cuts = [] then x.schedule else front ++ ⟨n, 0⟩ :: back)) ∧
     (∀ l length height product h, c.request = .trial l length height product → s.link.handled = some h → h.reply = none →
       exec .trialPlanCompletion s = .next ({ s with planner := done }.formReply h.request .ok p.block false).startNext)) ∧
  (∀ (p : Plan),
     let b2 := fun (n : Nat) => [BitVec.ofNat 8 (n / 256), BitVec.ofNat 8 n]
     let b3 := fun (n : Nat) => [BitVec.ofNat 8 (n / 65536), BitVec.ofNat 8 (n / 256), BitVec.ofNat 8 n]
     p.block = [PlanOutcome.code p.outcome, BitVec.ofNat 8 p.slices] ++ b3 p.pitch ++ b3 p.thickness ++ b2 p.trailingHeel ++
       b2 p.crumbPerCut ++ b2 p.wearTerm ++
       [match p.wearClamped, p.crumbClamped with
         | false, false => (0 : Byte)
         | true, false => 1
         | false, true => 2
         | true, true => 3] ++
       [BitVec.ofNat 8 p.cuts.length] ++ (p.cuts.map b2).flatten)

/-! ### Slicer stations (chapter 4) -/

/-- Section 4.5: SET WEAR RATE, BLADE CHANGE and READ SLICER of a lane that exists, and the bytes of its report (section
11.5). -/
def Obligations.SlicerRequestsCarriedOut : Prop :=
  (∀ (tag lane : Byte) (l : Lane) (rate : Half) (s : State), s.link.handled = none → lane = Lane.code l →
     let x := s.slicers.get l
     Accepts (.setWearRate tag lane rate) s { s with slicers := s.slicers.set l { x with wearRate := min rate.toNat 255 } }
       [BitVec.ofNat 8 x.wearRate, BitVec.ofNat 8 (min rate.toNat 255)] ∧
     (s.line.state = .stopped ∨ s.line.state = .halted →
       Accepts (.bladeChange tag lane) s
         { s with slicers := s.slicers.set l { x with strokes := 0, wearLimit := false, blade := .homing false, timer := none } }
         (beBytes 3 x.strokes ++ [boolCode x.wearLimit])) ∧
     (s.line.state = .running ∨ s.line.state = .draining → Rejects (.bladeChange tag lane) s .wrongState []) ∧
     Accepts (.readSlicer tag lane) s s (s.slicerReport l) ∧ (s.slicerReport l).length = 18) ∧
  (∀ (l : Lane) (s : State),
     let x := s.slicers.get l
     let b2 := fun (n : Nat) => [BitVec.ofNat 8 (n / 256), BitVec.ofNat 8 n]
     let b3 := fun (n : Nat) => [BitVec.ofNat 8 (n / 65536), BitVec.ofNat 8 (n / 256), BitVec.ofNat 8 n]
     let yes := fun (b : Bool) => if b then (1 : Byte) else 0
     let cut := fun (c : Option Cut) => match c with
       | none => [0, 0, 0]
       | some y => b2 y.loaf ++ [BitVec.ofNat 8 y.index]
     let blade := match x.blade with
       | .home => [0, 0] ++ cut none
       | .stroking c => [1, 0] ++ cut (some c)
       | .homing moving => [2, yes moving] ++ cut none
     let oldest := match x.schedule with
       | [] => [0, 0, 0]
       | e :: _ => b2 e.loaf ++ [BitVec.ofNat 8 e.next]
     s.slicerReport l = blade ++ cut x.pending ++ [BitVec.ofNat 8 x.schedule.length] ++ oldest ++ b3 x.strokes ++
       [BitVec.ofNat 8 x.wearRate, yes x.wearLimit, yes (s.inputs.bladeHome.get l)])

/-- Section 4.3: a cut falls due at a HOME blade, at a busy one, and at a busy one with a cut pending. The event moves a
running belt to the cut's point (entry 5). -/
def Obligations.CutsFallDue : Prop :=
  ∀ (l : Lane) (e : ScheduleEntry) (rest : List ScheduleEntry) (r : LoafRecord) (p : Plan) (c : Nat) (s : State),
    (s.slicers.get l).schedule = e :: rest → s.queued l e.loaf = some r → r.plan = some p → p.cuts[e.next]? = some c →
    s.conveyorRuns l = true →
    let q := s.lanes.get l
    let x := s.slicers.get l
    let point := r.lead + BitVec.ofNat 32 (q.geometry.dBlade + c)
    let lanes := s.lanes.set l { q with position := if atOrBeyond q.position point then q.position else point }
    let after := if e.next + 1 < p.cuts.length then ⟨e.loaf, e.next + 1⟩ :: rest else rest
    let cut : Cut := ⟨e.loaf, e.next, r.product, p.crumbPerCut⟩
    let busy := (∃ c', x.blade = .stroking c') ∨ (∃ m, x.blade = .homing m)
    (x.blade = .home → exec (.cutDue l) s = .next (State.finish s none
      ({ s with lanes := lanes, slicers := s.slicers.set l { x with schedule := after, blade := .stroking cut, timer := some 150 } }.updateRecord
        e.loaf fun y => { y with stage := if y.stage = Stage.planned then Stage.slicing else y.stage }))) ∧
    (busy → x.pending = none →
      let late := s.totals.lanes.get l
      exec (.cutDue l) s = .next (State.finish s none
        ({ s with lanes := lanes, slicers := s.slicers.set l { x with schedule := after, pending := some cut }
                  totals := { s.totals with lanes := s.totals.lanes.set l { late with lateCuts := min 4294967295 (late.lateCuts + 1) } } }.updateRecord
          e.loaf fun y => { y with flags := { y.flags with lateCut := true } }))) ∧
    (busy → x.pending ≠ none →
      let given := x.pending.map Cut.loaf = some e.loaf ∨ (match x.blade with
        | .stroking c' => c'.loaf = e.loaf
        | .home | .homing _ => False)
      let abandons := fun (f : Stage → Stage) => State.finish s none
        ({ s with lanes := lanes, slicers := s.slicers.set l { x with schedule := after.filter (fun y => y.loaf != e.loaf) } }.updateRecord
          e.loaf fun y => { y with flags := { y.flags with miscut := true }, disposition := some (y.disposition.getD .miscut)
                                   stage := f y.stage })
      (given → exec (.cutDue l) s = .next (abandons id)) ∧
      (¬given → exec (.cutDue l) s = .next (abandons fun stage => if stage = .planned ∨ stage = .slicing then .sliced else stage)))

/-- Sections 4.1, 4.3 and 4.4: blade-home becomes asserted: a stroke is completed and counted, a homing move is completed,
or a blade without a move is HOME, the freed blade serving the pending cut at once; blade-home clears. The three rows of the
rising input stand for one physical edge (entry 2): STROKE_COMPLETION whatever level was last seen, the other two only with
the input last seen clear. -/
def Obligations.BladeHomeChanges : Prop :=
  (∀ (l : Lane) (s : State),
     let x := s.slicers.get l
     let seen := { s with inputs := { s.inputs with bladeHome := s.inputs.bladeHome.set l true } }
     (s.inputs.bladeHome.get l = true → exec (.homingCompletion l) s = .next s ∧ exec (.bladeHomeSeen l) s = .next s) ∧
     ∀ i, (i = Instr.strokeCompletion l ∨ s.inputs.bladeHome.get l = false ∧ (i = .homingCompletion l ∨ i = .bladeHomeSeen l)) →
       (∀ c, x.blade = .stroking c →
         let figures := s.totals.lanes.get l
         let product := s.totals.products[c.product]
         let counted := { seen with
           slicers := s.slicers.set l { x with
             strokes := min 16777215 (x.strokes + 1)
             blade := match x.pending with
               | some c' => .stroking c'
               | none => .home
             timer := x.pending.map fun _ => 150
             pending := none }
           crumb := s.crumb.set l { s.crumb.get l with load := min 16777215 ((s.crumb.get l).load + c.crumb) }
           totals := { s.totals with
             lanes := s.totals.lanes.set l { figures with crumb := min 281474976710655 (figures.crumb + c.crumb) }
             products := s.totals.products.set c.product { product with slices := min 4294967295 (product.slices + 1) } } }
         let last := (∀ e ∈ x.schedule, e.loaf ≠ c.loaf) ∧ x.pending.map Cut.loaf ≠ some c.loaf
         let cut := counted.updateRecord c.loaf fun y => { y with
           cutsDone := y.cutsDone + 1
           stage := if last ∧ (y.stage = .planned ∨ y.stage = .slicing) then .sliced else y.stage }
         exec i s = .next (State.finish s (some l) (match x.pending with
           | none => cut
           | some c' => cut.updateRecord c'.loaf fun y => { y with stage := if y.stage = .planned then .slicing else y.stage }))) ∧
       (x.blade = .homing true → x.pending = none →
         exec i s = .next (State.finish s none { seen with slicers := s.slicers.set l { x with blade := .home, timer := none } })) ∧
       (∀ c, x.blade = .homing true → x.pending = some c →
         exec i s = .next (State.finish s none
           ({ seen with slicers := s.slicers.set l { x with blade := .stroking c, timer := some 150, pending := none } }.updateRecord
             c.loaf fun y => { y with stage := if y.stage = Stage.planned then Stage.slicing else y.stage }))) ∧
       (x.blade = .homing false → exec i s = .next { seen with slicers := s.slicers.set l { x with blade := .home } }) ∧
       (x.blade = .home → exec i s = .next seen)) ∧
  (∀ (l : Lane) (s : State),
     let x := s.slicers.get l
     let seen := { s with inputs := { s.inputs with bladeHome := s.inputs.bladeHome.set l false } }
     (x.blade = .home → s.line.state = .running ∨ s.line.state = .draining →
       exec (.bladeHomeLost l) s = .next { seen with slicers := s.slicers.set l { x with blade := .homing true, timer := some 150 } }) ∧
     (x.blade = .home → s.line.state = .stopped ∨ s.line.state = .halted →
       exec (.bladeHomeLost l) s = .next { seen with slicers := s.slicers.set l { x with blade := .homing false } }) ∧
     (x.blade ≠ .home → exec (.bladeHomeLost l) s = .next seen))

/-- Sections 4.4 and 9.3: a stroke or a homing move runs out: it is abandoned with its loaves, and SLICER_JAM is raised,
with REPEAT_FAULT after it inside the resume window. The expiry may be taken while the timer runs (entry 4); the start tests
and purges that the abandonment calls for are taken before the jam is raised (the model's reading, entry 38). -/
def Obligations.SlicersTimeOut : Prop :=
  ∀ (l : Lane) (s : State),
    let x := s.slicers.get l
    ∀ i, (i = Instr.strokeTimeout l ∧ ∃ c, x.blade = .stroking c) ∨ (i = Instr.homingTimeout l ∧ x.blade = .homing true) →
      x.timer ≠ none → ∃ t, exec i s = .next t ∧
        (let u := State.purgeTests s none (s.abandonStroke l)
         t = State.finish u none (if s.line.window = none then u.raise (.slicerJam l)
           else (u.raise (.slicerJam l)).raise .repeatFault)) ∧
        (t.slicers.get l).blade = .homing false ∧ (t.slicers.get l).pending = none ∧ (t.slicers.get l).timer = none ∧
        (t.slicers.get l).strokes = x.strokes ∧ (t.slicers.get l).wearRate = x.wearRate ∧
        (∀ n ∈ x.owners, (∀ e ∈ (t.slicers.get l).schedule, e.loaf ≠ n) ∧
          ∀ r, s.queued l n = some r → ∃ r', t.queued l n = some r' ∧ r'.flags.miscut = true ∧
            r'.disposition = some (r.disposition.getD .miscut)) ∧
        (s.moving = true → t.line.state = .halted ∧ (t.line.causes.slicerJam.get l) = true) ∧
        (s.moving = false → t.line.state = s.line.state) ∧
        (s.moving = true → s.line.window ≠ none → t.line.causes.repeatFault = true) ∧
        (s.line.window = none → t.line.latched = latchOf (.slicerJam l) s.line.latched ∧
          t.line.causes.repeatFault = s.line.causes.repeatFault) ∧
        t.products = s.products ∧ t.assign = s.assign ∧ t.totals = s.totals ∧ t.watch = s.watch ∧ t.planner = s.planner

/-! ### Quality watch and capture log (chapter 5) -/

/-- Sections 5.1 and 5.7: the requests of the Quality Watch and the capture log, and the bytes of the entry block, the chain
block and the capture summary (sections 11.5 and 11.6). -/
def Obligations.WatchRequestsCarriedOut : Prop :=
  (∀ (tag b : Byte) (f : WatchBody) (s : State), s.link.handled = none →
     let allowed := fun (i : Fin 4) =>
       f.enable.toNat ≤ 1 ∧ f.productValue.toNat ≤ 15 ∧ f.productMask.toNat ≤ 15 ∧ f.laneSelect.toNat ≤ 2 ∧
       f.lengthMode.toNat ≤ 3 ∧ f.lengthLow.toNat ≤ 16383 ∧ f.lengthHigh.toNat ≤ 16383 ∧
       f.heightMode.toNat ≤ 3 ∧ f.heightLow.toNat ≤ 2000 ∧ f.heightHigh.toNat ≤ 2000 ∧
       f.requiredFlags.toNat ≤ 3 ∧ f.outcomes.toNat ≤ 63 ∧ f.combine.toNat ≤ 1 ∧ f.chained.toNat ≤ 1 ∧
       1 ≤ f.armWindow.toNat ∧ f.actions.toNat ≤ 31 ∧
       (2 ≤ f.lengthMode.toNat → f.lengthLow.toNat ≤ f.lengthHigh.toNat) ∧
       (2 ≤ f.heightMode.toNat → f.heightLow.toNat ≤ f.heightHigh.toNat) ∧ (f.chained = 1 → i = 1 ∨ i = 3)
     (∀ (i : Fin 4) (lanes : LaneSelect) (lengths heights : TestMode) (how : Combine), b.toNat = i.val → allowed i →
       f.laneSelect = LaneSelect.code lanes → f.lengthMode = TestMode.code lengths → f.heightMode = TestMode.code heights →
       f.combine = Combine.code how →
       let e : WatchEntry :=
         { enable := decide (f.enable = 1), productValue := f.productValue.setWidth 4, productMask := f.productMask.setWidth 4,
           laneSelect := lanes, lengthMode := lengths, lengthLow := f.lengthLow.toNat, lengthHigh := f.lengthHigh.toNat,
           heightMode := heights, heightLow := f.heightLow.toNat, heightHigh := f.heightHigh.toNat,
           needCloseGap := f.requiredFlags.getLsbD 0, needOverlong := f.requiredFlags.getLsbD 1,
           outcomes := ⟨f.outcomes.getLsbD 0, f.outcomes.getLsbD 1, f.outcomes.getLsbD 2, f.outcomes.getLsbD 3,
             f.outcomes.getLsbD 4, f.outcomes.getLsbD 5⟩,
           combine := how, chained := decide (f.chained = 1), armWindow := f.armWindow.toNat,
           actions := ⟨f.actions.getLsbD 0, f.actions.getLsbD 1, f.actions.getLsbD 2, f.actions.getLsbD 3, f.actions.getLsbD 4⟩,
           fireCount := 0 }
       let pair : Fin 2 := if i.val < 2 then 0 else 1
       let w : Watch := { s.watch with entries := s.watch.entries.set i e, chains := s.watch.chains.set pair none }
       Accepts (.writeWatch tag b f) s { s with watch := w } (e.block i.val ++ w.chainBlock pair)) ∧
     (3 < b.toNat → Rejects (.writeWatch tag b f) s .badValue []) ∧
     (∀ i : Fin 4, b.toNat = i.val → ¬allowed i → Rejects (.writeWatch tag b f) s .badValue []) ∧
     Accepts (.readWatch tag) s s
       (s.watch.entries[0].block 0 ++ s.watch.entries[1].block 1 ++ s.watch.entries[2].block 2 ++ s.watch.entries[3].block 3 ++
         s.watch.chainBlock 0 ++ s.watch.chainBlock 1 ++ [boolCode s.watch.recording, BitVec.ofNat 8 s.watch.capture.length]) ∧
     (b.toNat ≤ 15 → Accepts (.readCapture tag b) s s
       ([boolCode s.watch.recording, BitVec.ofNat 8 s.watch.capture.length] ++
         (((s.watch.capture.drop b.toNat).take 8).map Summary.bytes).flatten)) ∧
     (15 < b.toNat → Rejects (.readCapture tag b) s .badValue []) ∧
     Accepts (.flushCapture tag) s { s with watch := { s.watch with capture := [] } } [BitVec.ofNat 8 s.watch.capture.length]) ∧
  ((∀ (n : Nat) (e : WatchEntry),
     let b2 := fun (n : Nat) => [BitVec.ofNat 8 (n / 256), BitVec.ofNat 8 n]
     let yes := fun (b : Bool) => if b then (1 : Byte) else 0
     let bits := fun (places : List Bool) => BitVec.ofNat 8 (places.foldr (fun b n => (if b then 1 else 0) + 2 * n) 0)
     let o := e.outcomes
     let a := e.actions
     e.block n = [BitVec.ofNat 8 n, yes e.enable, BitVec.ofNat 8 e.productValue.toNat, BitVec.ofNat 8 e.productMask.toNat,
         LaneSelect.code e.laneSelect, TestMode.code e.lengthMode] ++ b2 e.lengthLow ++ b2 e.lengthHigh ++
       [TestMode.code e.heightMode] ++ b2 e.heightLow ++ b2 e.heightHigh ++
       [bits [e.needCloseGap, e.needOverlong], bits [o.even, o.heelLong, o.heelShort, o.noSpan, o.noPlan, o.latePlan],
         Combine.code e.combine, yes e.chained, BitVec.ofNat 8 e.armWindow,
         bits [a.reject, a.mark, a.stop, a.captureStart, a.captureStop]] ++ b2 e.fireCount) ∧
   (∀ w : Watch,
     let chain := fun (e : WatchEntry) (c : Option Nat) =>
       (if e.chained then 1 else 0) :: (match c with
         | none => [(0 : Byte), 0]
         | some left => [1, BitVec.ofNat 8 left])
     w.chainBlock 0 = chain w.entries[1] w.chains[0] ∧ w.chainBlock 1 = chain w.entries[3] w.chains[1]) ∧
   (∀ c : Summary,
     let b2 := fun (n : Nat) => [BitVec.ofNat 8 (n / 256), BitVec.ofNat 8 n]
     let b3 := fun (n : Nat) => [BitVec.ofNat 8 (n / 65536), BitVec.ofNat 8 (n / 256), BitVec.ofNat 8 n]
     let yes := fun (b : Bool) => if b then (1 : Byte) else 0
     let bits := fun (places : List Bool) => BitVec.ofNat 8 (places.foldr (fun b n => (if b then 1 else 0) + 2 * n) 0)
     let f := c.flags
     c.bytes = b2 c.number ++ [Lane.code c.lane, productCode (some c.product)] ++ b2 c.length ++ b2 c.height ++ b2 c.gapBefore ++
       [bits [f.closeGap, f.overlong, f.lateCut, f.miscut, f.uncheckedTie], PlanOutcome.code c.outcome, BitVec.ofNat 8 c.slices] ++
       b3 c.thickness ++ [dispositionCode c.disposition, yes c.marked, bits c.hits.toList]))

/-- R80 to R83: an entry matches a loaf: enabled, its product and lane gate open, and the tests it makes combined. -/
def Obligations.EntriesMatch : Prop :=
  ∀ (e : WatchEntry) (r : LoafRecord),
    let range := fun (m : TestMode) (low high v : Nat) => match m with
      | .off => []
      | .below => [decide (v < low)]
      | .inside => [decide (low ≤ v ∧ v ≤ high)]
      | .outside => [decide (v < low ∨ high < v)]
    let flags := if e.needCloseGap = false ∧ e.needOverlong = false then []
      else [(!e.needCloseGap || r.flags.closeGap) && (!e.needOverlong || r.flags.overlong)]
    let outcome := if e.outcomes = ⟨false, false, false, false, false, false⟩ then []
      else [r.plan.any fun p => e.outcomes.has p.outcome]
    let made := range e.lengthMode e.lengthLow e.lengthHigh r.length ++ range e.heightMode e.heightLow e.heightHigh r.height ++
      flags ++ outcome
    e.matchesLoaf r = true ↔
      e.enable = true ∧
      (∀ k, k < 4 → e.productMask.getLsbD k = true → (BitVec.ofNat 4 r.product.val).getLsbD k = e.productValue.getLsbD k) ∧
      (e.laneSelect = .either ∨ (e.laneSelect = .a ∧ r.lane = .a) ∨ (e.laneSelect = .b ∧ r.lane = .b)) ∧
      ((e.combine = .all ∧ ∀ b ∈ made, b = true) ∨ (e.combine = .any ∧ (made = [] ∨ true ∈ made)))

/-- Sections 5.4 to 5.7: the chain of a pair after an evaluation; which entries fire and what their firing does to the
counts, the record, the line and the notices; the capture decision, made on the record as it then stands. The raise of
WATCH_STOP comes before the entry's WATCH_FIRED notice, from the order of R87's steps (entry 31). -/
def Obligations.EvaluationsFireAndCapture : Prop :=
  (∀ (n : Nat) (r : LoafRecord) (s : State), s.findRecord n = some r →
     ∀ p : Fin 2,
       let first : Fin 4 := if p = 0 then 0 else 2
       let second : Fin 4 := if p = 0 then 1 else 3
       let m1 := s.watch.entries[first].matchesLoaf r
       let m2 := s.watch.entries[second].matchesLoaf r
       let W := s.watch.entries[second].armWindow
       let after := (s.evaluate n).watch.chains[p]
       let fired := (s.evaluate n).watch.entries[second].fireCount =
         min 65535 (s.watch.entries[second].fireCount + 1)
       (s.watch.entries[second].chained = false → after = s.watch.chains[p]) ∧
       (s.watch.entries[second].chained = true →
         (m1 = true → after = some W) ∧
         (s.watch.chains[p] = none → m1 = false → after = none) ∧
         (∀ w, s.watch.chains[p] = some w → m1 = false → m2 = false → after = if w ≤ 1 then none else some (w - 1)) ∧
         (∀ w, s.watch.chains[p] = some w → m1 = false → m2 = true → after = none) ∧
         (∀ w, s.watch.chains[p] = some w → m2 = true → fired) ∧
         (s.watch.chains[p] = none ∨ m2 = false →
           (s.evaluate n).watch.entries[second].fireCount = s.watch.entries[second].fireCount))) ∧
  (∀ (n : Nat) (r : LoafRecord) (s : State), s.findRecord n = some r →
     let entry := fun (i : Fin 4) => s.watch.entries[i]
     let chained := fun (i : Fin 4) => if i.val < 2 then (entry 1).chained else (entry 3).chained
     let armed := fun (i : Fin 4) => if i.val < 2 then s.watch.chains[0] ≠ none else s.watch.chains[1] ≠ none
     let second := fun (i : Fin 4) => i = 1 ∨ i = 3
     let fires := fun (i : Fin 4) =>
       (entry i).matchesLoaf r = true ∧ (chained i = true → second i ∧ armed i)
     let hit := fun (i : Fin 4) => fires i ∨ (chained i = true ∧ ¬second i ∧ (entry i).matchesLoaf r = true)
     let fired := ([0, 1, 2, 3] : List (Fin 4)).filter fun i => decide (fires i)
     let stops := fired.filter fun i => (entry i).actions.stop
     let marks := fun (y : LoafRecord) => { y with
       hits := Vector.ofFn fun i : Fin 4 => y.hits[i] || decide (hit i)
       marked := y.marked || fired.any fun i => (entry i).actions.mark
       disposition := if fired.any (fun i => (entry i).actions.reject) then some (y.disposition.getD .watch) else y.disposition }
     let latched := match stops with
       | [] => s.line.latched
       | i :: _ => latchOf (.watchStop i) s.line.latched
     let placed := fun (i : Fin 4) =>
       (if (entry i).actions.stop = true then
         (if stops.head? = some i ∧ s.line.state = .running then
           [Notice.stopCause (.watchStop i) .running, .lineState .running .draining latched]
         else [.stopCause (.watchStop i) (if s.line.state = .running then .draining else s.line.state)])
       else []) ++ [.watchFired i n r.lane]
     ∃ v, v = { s.updateRecord n marks with
         watch := { s.watch with
           entries := Vector.ofFn fun i : Fin 4 =>
             if fires i then { entry i with fireCount := min 65535 ((entry i).fireCount + 1) } else entry i
           chains := (s.evaluate n).watch.chains }
         line := { s.line with
           state := if stops ≠ [] ∧ s.line.state = .running then .draining else s.line.state
           latched := latched
           causes := if s.line.state = .stopped then s.line.causes else { s.line.causes with
             watchStop := Vector.ofFn fun i : Fin 4 => s.line.causes.watchStop[i] || decide (i ∈ stops) } }
         notices := (fired.map placed).flatten.foldl (fun q x => q.place x) s.notices } ∧
       (r.plan = none → s.evaluate n = v) ∧
       (∀ p, r.plan = some p → s.evaluate n = v.captureDecision n
         ⟨r.number, r.lane, r.product, r.length, r.height, r.gapBefore, r.flags, p.outcome, p.slices, p.thickness,
           (marks r).disposition, (marks r).marked, (marks r).hits⟩
         (fired.any fun i => (entry i).actions.captureStart) (fired.any fun i => (entry i).actions.captureStop))) ∧
  (∀ (n : Nat) (c : Summary) (start stop : Bool) (s : State),
     let log := s.watch.capture
     let t := s.captureDecision n c start stop
     (s.watch.recording = false → start = false → t = s) ∧
     (s.watch.recording = true ∨ start = true →
       (log.length < 15 →
         t = { s with watch := { s.watch with capture := log ++ [c], recording := !stop } }) ∧
       (log.length = 15 →
         t = { s with watch := { s.watch with capture := log ++ [c], recording := false } }.notify (.captureFull n)) ∧
       (16 ≤ log.length → t = { s with watch := { s.watch with recording := false } }.notify (.captureFull n))))

/-! ### Router and bag heads (chapter 6) -/

/-- Sections 6.1 and 6.6: CONNECT of one head and of two, IDLE or busy, and its refusals; READ ROUTER, HEAD SETTINGS and
READ HEAD, and the bytes of the reports (section 11.5). -/
def Obligations.RouterAndHeadRequests : Prop :=
  (∀ (tag c c' : Byte) (h h' : Head) (src src' : Source) (s : State), s.link.handled = none →
     c = Source.code src → c' = Source.code src' → h' ≠ h →
     let i := Instr.connect tag ⟨Head.code h, c⟩ none
     let both := Instr.connect tag ⟨Head.code h, c⟩ (some ⟨Head.code h', c'⟩)
     let idle := fun (x : Head) => decide ((s.heads.get x).step = .idle)
     let held := fun (x : Head) (y : Source) (t : State) =>
       { t with router := { t.router with pending := t.router.pending.set x (some y) } }
     let given := fun (x : Head) (y : Source) (t : State) =>
       let u := { t with router := { t.router with active := t.router.active.set x y, pending := t.router.pending.set x none } }
       if y ≠ .none ∧ (s.tiers.get x).magazine = 0 then u.raise (.clipEmpty x) else u
     let answers := fun (j : Instr) (released : State) =>
       let t := State.finish s none released
       Accepts j s t (connectReply s t)
     (idle h = false → answers i (held h src s)) ∧
     (idle h = true → answers i (given h src s).attemptReleases) ∧
     (idle h = false → idle h' = false → answers both (held h' src' (held h src s))) ∧
     (idle h = true → idle h' = false → answers both (held h' src' (given h src s)).attemptReleases) ∧
     (idle h = false → idle h' = true → answers both (given h' src' (held h src s)).attemptReleases) ∧
     (idle h = true → idle h' = true → answers both (given h' src' (given h src s)).attemptReleases)) ∧
  (∀ (tag : Byte) (p : SourcePair) (o : Option SourcePair) (s : State), s.link.handled = none →
     let i := Instr.connect tag p o
     let named := fun (q : SourcePair) => q.head = 1 ∨ q.head = 2
     let inCodes := fun (q : SourcePair) => q.source.toNat ≤ 3
     (¬named p ∨ (∃ q, o = some q ∧ ¬named q) → Rejects i s .badValue []) ∧
     (named p → (∀ q, o = some q → named q) → ¬inCodes p ∨ (∃ q, o = some q ∧ (¬inCodes q ∨ q.head = p.head)) →
       Rejects i s .badValue (connectReply s s)) ∧
     (∀ t : State, connectReply s t =
       [Source.code (s.router.active.get .one), pendingSourceCode (s.router.pending.get .one),
        Source.code (t.router.active.get .one), pendingSourceCode (t.router.pending.get .one),
        Source.code (s.router.active.get .two), pendingSourceCode (s.router.pending.get .two),
        Source.code (t.router.active.get .two), pendingSourceCode (t.router.pending.get .two)])) ∧
  (∀ (tag b : Byte) (h : Head) (pairs : List Setting) (s : State), s.link.handled = none → b = Head.code h →
     let x := s.heads.get h
     let allowed := fun (p : Setting) =>
       (1 ≤ p.item.toNat ∧ p.item.toNat ≤ 5 ∧ 100 ≤ p.value.toNat ∧ p.value.toNat ≤ 2000) ∨
       (p.item = 6 ∧ 0x41 ≤ p.value.toNat ∧ p.value.toNat ≤ 0x5A)
     let passes := 1 ≤ pairs.length ∧ pairs.length ≤ 12 ∧ ∀ p ∈ pairs, allowed p
     (passes →
       let times : Timeouts := ⟨lastFor 1 x.timeouts.opening pairs, lastFor 2 x.timeouts.loading pairs,
         lastFor 3 x.timeouts.gathering pairs, lastFor 4 x.timeouts.tying pairs, lastFor 5 x.timeouts.discharging pairs⟩
       let id := BitVec.ofNat 8 (lastFor 6 s.lineId.toNat pairs)
       Accepts (.headSettings tag b pairs) s { s with heads := s.heads.set h { x with timeouts := times }, lineId := id }
         (beBytes 2 times.opening ++ beBytes 2 times.loading ++ beBytes 2 times.gathering ++ beBytes 2 times.tying ++
           beBytes 2 times.discharging ++ [id])) ∧
     (¬passes → Rejects (.headSettings tag b pairs) s .badValue []) ∧
     Accepts (.readHead tag b) s s (s.headReport h) ∧ (s.headReport h).length = 18) ∧
  (∀ (tag b : Byte) (pairs : List Setting) (h : Head) (s : State),
     let r := s.router
     let x := s.heads.get h
     let inputs := s.inputs.heads.get h
     let b2 := fun (n : Nat) => [BitVec.ofNat 8 (n / 256), BitVec.ofNat 8 n]
     let yes := fun (b : Bool) => if b then (1 : Byte) else 0
     let bits := fun (places : List Bool) => BitVec.ofNat 8 (places.foldr (fun b n => (if b then 1 else 0) + 2 * n) 0)
     let timer := match x.timer with
       | none => [0xFF, 0xFF]
       | some left => b2 left
     let sources := fun (k : Head) => [Source.code (r.active.get k), pendingSourceCode (r.pending.get k)]
     let waits := fun (w : Nat × Lane) => b2 w.1 ++ [Lane.code w.2]
     (r.idleOrder.length ≤ 2 → r.waitingOrder.length ≤ 4 →
       r.report = sources .one ++ sources .two ++
         BitVec.ofNat 8 r.idleOrder.length :: (r.idleOrder.map Head.code ++ List.replicate (2 - r.idleOrder.length) 0) ++
         BitVec.ofNat 8 r.waitingOrder.length ::
           ((r.waitingOrder.map waits).flatten ++ List.replicate (12 - 3 * r.waitingOrder.length) 0)) ∧
     s.headReport h = [HeadStep.code x.step, yes x.direct, BitVec.ofNat 8 x.misses] ++
       (match x.record with
         | none => [0, 0]
         | some y => b2 y.number) ++ timer ++ b2 x.timeouts.opening ++ b2 x.timeouts.loading ++ b2 x.timeouts.gathering ++
       b2 x.timeouts.tying ++ b2 x.timeouts.discharging ++
       [bits [inputs.bagOpen, inputs.loafIn, inputs.gatherDone, inputs.dischargeClear]] ∧
     (s.link.handled = none → Accepts (.readRouter tag) s s r.report ∧
       (b ≠ 1 → b ≠ 2 → Rejects (.headSettings tag b pairs) s .badValue [] ∧ Rejects (.readHead tag b) s .badValue [])))

/-- Sections 6.3 and 7.3: bag-open, loaf-in and gather-done: each, becoming asserted, completes its state while the line is
not HALTED, and is only seen otherwise; with no clip left the record goes untied. A bag-feed pulse that still runs is kept
into LOADING, GATHERING, TYING and DISCHARGING (the model's choice, entry 36). -/
def Obligations.HeadCompletionsTaken : Prop :=
  ∀ (h : Head) (s : State),
    let x := s.heads.get h
    let last := s.inputs.heads.get h
    let seen := fun (i : HeadInputs) => { s with inputs := { s.inputs with heads := s.inputs.heads.set h i } }
    let figures := s.totals.heads.get h
    let untied := { figures with noClip := min 4294967295 (figures.noClip + 1) }
    let enters := fun (t : State) (y : HeadState) => State.finish s none { t with heads := s.heads.set h y }
    (s.line.state ≠ .halted →
      (x.step = .opening → last.bagOpen = false → exec (.bagOpen h .rises) s = .next (enters (seen { last with bagOpen := true })
        { x with step := .loading, timer := some x.timeouts.loading, misses := 0 })) ∧
      (x.step = .loading → last.loafIn = false → exec (.loafIn h .rises) s = .next (enters (seen { last with loafIn := true })
        { x with step := .gathering, timer := some x.timeouts.gathering })) ∧
      (∀ r, x.step = .gathering → last.gatherDone = false → x.record = some r → (s.tiers.get h).magazine ≠ 0 →
        exec (.gatherDone h .rises) s = .next (State.finish s none
          ({ seen { last with gatherDone := true } with
              heads := s.heads.set h { x with step := .tying, timer := some x.timeouts.tying } }.tieStart h r))) ∧
      (∀ r, x.step = .gathering → last.gatherDone = false → x.record = some r → (s.tiers.get h).magazine = 0 →
        exec (.gatherDone h .rises) s = .next (State.finish s none
          ({ seen { last with gatherDone := true } with
              heads := s.heads.set h { x with step := .discharging, timer := some x.timeouts.discharging, direct := false }
              totals := { s.totals with heads := s.totals.heads.set h untied } }.updateRecord r.number fun y =>
            { y with tie := some .noClip, disposition := some (y.disposition.getD .untied) })))) ∧
    (s.line.state = .halted ∨ x.step ≠ .opening ∨ last.bagOpen = true →
      exec (.bagOpen h .rises) s = .next (seen { last with bagOpen := true })) ∧
    (s.line.state = .halted ∨ x.step ≠ .loading ∨ last.loafIn = true →
      exec (.loafIn h .rises) s = .next (seen { last with loafIn := true })) ∧
    (s.line.state = .halted ∨ x.step ≠ .gathering ∨ last.gatherDone = true →
      exec (.gatherDone h .rises) s = .next (seen { last with gatherDone := true })) ∧
    exec (.bagOpen h .falls) s = .next (seen { last with bagOpen := false }) ∧
    exec (.loafIn h .falls) s = .next (seen { last with loafIn := false }) ∧
    exec (.gatherDone h .falls) s = .next (seen { last with gatherDone := false })

/-- Sections 6.3 and 6.4: the timers of a head: a first missed bag, a second that raises BAG_EMPTY, the end of the feed
pulse, and a jam. The expiry may be taken while the timer runs (entry 4); a new bag's pulse starts the 100 ms anew where an
earlier one still runs (the model's choice, entry 39). -/
def Obligations.HeadTimersRunOut : Prop :=
  ∀ (h : Head) (s : State),
    let x := s.heads.get h
    let figures := s.totals.heads.get h
    let missed := { s.totals with heads := s.totals.heads.set h { figures with bagMisses := min 4294967295 (figures.bagMisses + 1) } }
    let once := { x with misses := 1, timer := some x.timeouts.opening, feedPulse := some 100 }
    let out := { x with step := .bagOut, misses := 2, timer := none, feedPulse := none }
    (x.step = .opening → x.timer ≠ none → x.misses = 0 →
      exec (.openingTimeout h) s = .next (State.finish s none { s with totals := missed, heads := s.heads.set h once })) ∧
    (x.step = .opening → x.timer ≠ none → x.misses ≠ 0 →
      exec (.openingTimeout h) s = .next (State.finish s none ({ s with totals := missed, heads := s.heads.set h out }.raise (.bagEmpty h)))) ∧
    exec (.bagFeedPulseEnd h) s = .next { s with heads := s.heads.set h { x with feedPulse := none } } ∧
    (x.step = .loading ∨ x.step = .gathering ∨ x.step = .tying ∨ x.step = .discharging → x.timer ≠ none →
      let stopped := { s with heads := s.heads.set h { x with timer := none } }
      (s.line.window = none →
        exec (.headStateTimeout h) s = .next (State.finish s none (stopped.raise (.headJam h x.step)))) ∧
      (s.line.window ≠ none →
        exec (.headStateTimeout h) s = .next (State.finish s none ((stopped.raise (.headJam h x.step)).raise .repeatFault))))

/-- Section 6.3: discharge-clear: the loaf is counted bagged or rejected, with its parts and its mark, the head is IDLE at
the tail of the idle order, its pending source is applied, raising CLIP_EMPTY where it meets an empty magazine, and releases
are attempted. A bag-feed pulse that still runs is kept (the model's choice, entry 36). -/
def Obligations.DischargeCountsTheLoaf : Prop :=
  (∀ (h : Head) (s : State),
    let seen := fun (b : Bool) =>
      { s with inputs := { s.inputs with heads := s.inputs.heads.set h { s.inputs.heads.get h with dischargeClear := b } } }
    exec (.dischargeClear h .falls) s = .next (seen false) ∧
    (s.line.state = .halted ∨ (s.heads.get h).step ≠ .discharging ∨ (s.inputs.heads.get h).dischargeClear = true →
      exec (.dischargeClear h .rises) s = .next (seen true))) ∧
  ∀ (h : Head) (r : LoafRecord) (s : State),
    let x := s.heads.get h
    let t := s.totals.products[r.product]
    let src := (s.router.pending.get h).getD (s.router.active.get h)
    x.step = .discharging → x.record = some r → s.line.state ≠ .halted → (s.inputs.heads.get h).dischargeClear = false →
    t.bagged < 4294967295 → t.baggedWhole < 4294967295 → t.baggedUnchecked < 4294967295 →
    (∀ reason, t.rejected reason < 4294967295) →
    let idle := { s with
      inputs := { s.inputs with heads := s.inputs.heads.set h { s.inputs.heads.get h with dischargeClear := true } }
      heads := s.heads.set h { x with step := .idle, record := none, direct := false, misses := 0, timer := none }
      router := { s.router with active := s.router.active.set h src, pending := s.router.pending.set h none
                                idleOrder := s.router.idleOrder.filter (fun y => y != h) ++ [h] } }
    let counted := fun (u : ProductTotals) =>
      let v := if r.marked then { u with marked := min 4294967295 (u.marked + 1) } else u
      let freed := { idle with totals := { s.totals with products := s.totals.products.set r.product v } }.report r .head (some h) r.tie
      let empties := s.router.pending.get h ≠ none ∧ src ≠ .none ∧ (s.tiers.get h).magazine = 0
      (if empties then freed.raise (.clipEmpty h) else freed).attemptReleases
    (r.disposition = none →
      exec (.dischargeClear h .rises) s = .next (State.finish s none (counted
        { t with bagged := t.bagged + 1
                 baggedWhole := t.baggedWhole + (if r.plan.map Plan.outcome = some .noSpan then 1 else 0)
                 baggedUnchecked := t.baggedUnchecked + (if r.tie = some .unchecked then 1 else 0) }))) ∧
    (∀ reason, r.disposition = some reason →
      exec (.dischargeClear h .rises) s = .next (State.finish s none (counted (t.bumpRejected reason))))

/-- Sections 6.1 and 6.2: an IDLE head takes the record standing earliest in the waiting order that its source admits and
keeps its place when there is none; no release is made on a line at rest; an attempt takes the heads of the idle order one
at a time, the head IDLE longest first; a gate-held record is promoted. A pulse that still runs is begun anew by a bag and
kept by a direct discharge (the model's choices, entries 39 and 36). -/
def Obligations.HeadsTakeTheEarliestRecord : Prop :=
  ∀ (h : Head) (s : State),
    (s.moving = false ∨ s.router.idleOrder = [] → s.attemptReleases = s) ∧
    (s.moving = true → (s.router.idleOrder = [h] → s.attemptReleases = s.offerTo h) ∧
      (∀ h', s.router.idleOrder = [h, h'] → s.attemptReleases = (s.offerTo h).offerTo h')) ∧
    ((∀ w ∈ s.router.waitingOrder, (s.router.active.get h).admits w.2 = false) → s.offerTo h = s) ∧
    (∀ before n l after r, s.router.waitingOrder = before ++ (n, l) :: after →
      (∀ w ∈ before, (s.router.active.get h).admits w.2 = false) → (s.router.active.get h).admits l = true →
      s.queued l n = some r → (s.lanes.get l).gateHeld = none →
      let x := s.heads.get h
      let taken := some { r with head := some h, stage := .atHead }
      s.offerTo h = { s with
        router := { s.router with waitingOrder := s.router.waitingOrder.filter (fun w => w.1 != n)
                                  idleOrder := s.router.idleOrder.filter (fun y => y != h) }
        lanes := s.lanes.set l { s.lanes.get l with queue := (s.lanes.get l).queue.filter (fun y => y.number != n) }
        heads := s.heads.set h (match r.disposition with
          | some _ => { x with record := taken, step := .discharging, timer := some x.timeouts.discharging, direct := true }
          | none => { x with record := taken, step := .opening, timer := some x.timeouts.opening, direct := false, feedPulse := some 100 }) }) ∧
    (∀ before n l after r g, s.router.waitingOrder = before ++ (n, l) :: after →
      (∀ w ∈ before, (s.router.active.get h).admits w.2 = false) → (s.router.active.get h).admits l = true →
      s.queued l n = some r → (s.lanes.get l).gateHeld = some g → g ≠ n →
      ((s.offerTo h).lanes.get l).gateHeld = none ∧
      (s.offerTo h).router.waitingOrder = s.router.waitingOrder.filter (fun w => w.1 != n) ++ [(g, l)] ∧
      (s.offerTo h).queued l g = (s.queued l g).map (fun y => { y with stage := .waiting }))

/-! ### Clip tying (chapter 7) -/

/-- Sections 7.2, 7.7, 7.8 and 7.10: the requests of the Clip Tiers, TIE CHECK of one tier and of both, their refusals, and
the bytes of READ TIER (section 11.5). SET SIGNATURE of ABSENT with value bytes other than 0 is refused (the model's choice,
entry 18). An absent signature carries the value bytes 0000h in the replies (the model's choice, entry 37). -/
def Obligations.TierRequestsCarriedOut : Prop :=
  (∀ (tag b : Byte) (h : Head) (s : State), s.link.handled = none → b = Head.code h →
     let x := s.tiers.get h
     let with' := fun (y : Tier) => { s with tiers := s.tiers.set h y }
     (∀ count : Half, let new := min count.toNat 2000
       let filled := with' { x with magazine := new, loaded := new, used := 0, warmUp := 2 }
       Accepts (.reloadMagazine tag b count) s
         (State.finish s none (if new = 0 ∧ s.router.active.get h ≠ .none then filled.raise (.clipEmpty h) else filled))
         (beBytes 2 x.magazine ++ beBytes 2 x.loaded ++ beBytes 2 x.used ++ beBytes 2 new)) ∧
     (x.learn = .none → Accepts (.learnSignature tag b 0) s (with' { x with learn := .armed }) [0, 0xFF, 1, 0xFF]) ∧
     (x.learn ≠ .none → Accepts (.learnSignature tag b 0) s s (x.learn.bytes ++ x.learn.bytes)) ∧
     Accepts (.learnSignature tag b 1) s (with' { x with learn := .none }) (x.learn.bytes ++ [0, 0xFF]) ∧
     (∀ on : Bool, Accepts (.tieCheck tag b (boolCode on)) s
       (with' { x with check := on, warmUp := if on then 2 else x.warmUp })
       [b, boolCode x.check, BitVec.ofNat 8 x.warmUp, boolCode on, BitVec.ofNat 8 (if on then 2 else x.warmUp)]) ∧
     Accepts (.readTier tag b) s s (s.tierReport h) ∧ (s.tierReport h).length = 30 ∧
     (∀ (index : Byte) (p : ProductIx) (e : ProductEntry) (v : Half), index.toNat = p.val → s.products[p] = some e →
       s.tiers.one.learn ≠ .bound p → s.tiers.two.learn ≠ .bound p →
       let put := fun (sig : Option Half) => { s with products := s.products.set p (some { e with signature := sig }) }
       Accepts (.setSignature tag index 1 v) s (put (some v)) (signatureBytes e.signature ++ [1, hiByte v, loByte v]) ∧
       Accepts (.setSignature tag index 0 0) s (put none) (signatureBytes e.signature ++ [0, 0, 0])) ∧
     (∀ (index : Byte) (p : ProductIx) (v : Half), index.toNat = p.val →
       (s.products[p] = none → Rejects (.setSignature tag index 1 v) s .notPresent []) ∧
       (s.products[p] ≠ none → x.learn = .bound p → Rejects (.setSignature tag index 1 v) s .inUse []))) ∧
  (∀ (tag b d index : Byte) (v count : Half) (s : State), s.link.handled = none →
     (b ≠ 1 → b ≠ 2 →
       Rejects (.reloadMagazine tag b count) s .badValue [] ∧ Rejects (.learnSignature tag b d) s .badValue [] ∧
       Rejects (.readTier tag b) s .badValue [] ∧ (b ≠ 0xFF → Rejects (.tieCheck tag b d) s .badValue [])) ∧
     (1 < d.toNat → Rejects (.learnSignature tag b d) s .badValue [] ∧ Rejects (.tieCheck tag b d) s .badValue [] ∧
       Rejects (.setSignature tag index d v) s .badValue []) ∧
     (v ≠ 0 → Rejects (.setSignature tag index 0 v) s .badValue []) ∧
     (15 < index.toNat → Rejects (.setSignature tag index d v) s .badValue []) ∧
     (∀ on : Bool,
       let one := s.tiers.one
       let two := s.tiers.two
       let set := fun (y : Tier) => { y with check := on, warmUp := if on then 2 else y.warmUp }
       let shown := fun (y : Tier) => [boolCode y.check, BitVec.ofNat 8 y.warmUp]
       Accepts (.tieCheck tag 0xFF (boolCode on)) s { s with tiers := ⟨set one, set two⟩ }
         ([1] ++ shown one ++ shown (set one) ++ [2] ++ shown two ++ shown (set two)))) ∧
  (∀ (h : Head) (s : State),
     let x := s.tiers.get h
     let inputs := s.inputs.tiers.get h
     let b2 := fun (n : Nat) => [BitVec.ofNat 8 (n / 256), BitVec.ofNat 8 n]
     let yes := fun (b : Bool) => if b then (1 : Byte) else 0
     s.tierReport h = b2 x.magazine ++ b2 x.loaded ++ b2 x.used ++
       [BitVec.ofNat 8 x.warmUp, BitVec.ofNat 8 x.streak, yes x.check, Learn.code x.learn, Learn.boundCode x.learn,
         productCode x.lastProduct] ++
       (match x.lastSignature with
         | none => [0, 0, 0]
         | some v => 1 :: b2 v.toNat) ++
       (match x.lastCode with
         | none => [0, 0, 0, 0, 0]
         | some c => [c.day.c1, c.day.c2, c.day.c3, c.shift, c.line]) ++
       (match x.tie with
         | none => [0, 0, 0, 0, 0, 0, 0, 0, 0]
         | some t => [1] ++ b2 t.loaf ++ [BitVec.ofNat 8 t.product.val] ++ b2 t.ticks ++ b2 t.signature.toNat ++ [yes t.interrupted]) ++
       [BitVec.ofNat 8 (inputs.lines.toNat + if inputs.cycleComplete then 16 else 0)])

/-- Sections 7.3 and 7.4: a tie start: the clip, the counts, the product change, the learn's binding, the clip code, printed
once under the head enable, and the tie; MAGAZINE_LOW at 50 and CLIP_EMPTY at 0 are reported. The record of what a tier has
printed is the model's own (entry 34). -/
def Obligations.TiesStart : Prop :=
  ∀ (h : Head) (r : LoafRecord) (e : ProductEntry) (s : State), s.products[r.product] = some e →
    let x := s.tiers.get h
    let warm := if x.lastProduct = some r.product then x.warmUp else 2
    let code : ClipCode := ⟨s.dayCodes[e.shelfClass], BitVec.ofNat 8 (0x41 + (s.totals.shift - 1) % 26), s.lineId⟩
    let y := { x with
      magazine := x.magazine - 1, used := x.used + 1, warmUp := warm, lastProduct := some r.product
      learn := if x.learn = .armed ∧ x.check = true ∧ warm = 0 then .bound r.product else x.learn
      lastCode := some code
      printed := if s.line.state = .running ∨ s.line.state = .draining then x.printed ++ [code] else x.printed
      tie := some ⟨r.number, r.product, 0, 0xFFFF, false⟩ }
    let figures := s.totals.heads.get h
    let counted := { figures with clipsUsed := min 4294967295 (figures.clipsUsed + 1) }
    let t := { s with tiers := s.tiers.set h y, totals := { s.totals with heads := s.totals.heads.set h counted } }
    (s.line.state = .running ∨ s.line.state = .draining → s.printOutput h (s.tieStart h r) = [code]) ∧
    (2 ≤ x.magazine → x.magazine ≠ 51 → s.tieStart h r = t) ∧
    (x.magazine = 51 → s.tieStart h r = t.notify (.magazineLow h 50)) ∧
    (x.magazine = 1 → s.router.active.get h = .none → s.tieStart h r = t) ∧
    (x.magazine = 1 → s.router.active.get h ≠ .none → s.tieStart h r = t.raise (.clipEmpty h))

/-- Sections 7.3, 7.5 and 7.7: tie-done: the result by the tests in order, its count, the record's tie result and flag, the
learned signature, the streak, the notices of a mismatch and of a learned signature, and the head's way to DISCHARGING, the
whole next state up to the end of the event; an encoder tick folds its step byte into the running signature. A change of the
step lines without a tick is only seen (the model's form of the row, entry 33). -/
def Obligations.TiesComplete : Prop :=
  (∀ (h : Head) (lines : BitVec 4) (s : State),
    let with' := fun (i : TierInputs) => { s with inputs := { s.inputs with tiers := s.inputs.tiers.set h i } }
    let i := s.inputs.tiers.get h
    exec (.tieDone h .falls) s = .next (with' { i with cycleComplete := false }) ∧
    ((s.tiers.get h).tie = none ∨ s.line.state = .halted →
      exec (.tieDone h .rises) s = .next (with' { i with cycleComplete := true }) ∧
      exec (.tierEncoderTick h (.tick lines)) s = .next (with' { i with lines := lines })) ∧
    (i.cycleComplete = true → exec (.tieDone h .rises) s = .next s) ∧
    exec (.tierEncoderTick h (.still lines)) s = .next (with' { i with lines := lines })) ∧
  ∀ (h : Head) (tie : Tie) (s : State), (s.tiers.get h).tie = some tie → s.line.state ≠ .halted →
    let x := s.tiers.get h
    let expected := (s.products[tie.product]).bind ProductEntry.signature
    let learned := tie.interrupted = false ∧ x.check = true ∧ x.warmUp = 0 ∧ x.learn = .bound tie.product
    let result := if tie.interrupted = true ∨ x.check = false ∨ 0 < x.warmUp then TieResult.unchecked
      else if x.learn = .bound tie.product then .good
      else if expected = none then .unchecked
      else if expected = some tie.signature then .good else .mismatch
    let figures := s.totals.heads.get h
    let counted := { figures with
      good := if result = .good then min 4294967295 (figures.good + 1) else figures.good
      unchecked := if result = .unchecked then min 4294967295 (figures.unchecked + 1) else figures.unchecked
      mismatch := if result = .mismatch then min 4294967295 (figures.mismatch + 1) else figures.mismatch }
    let ended := { x with
      tie := none, lastSignature := some tie.signature
      warmUp := if tie.interrupted = false ∧ x.check = true ∧ 0 < x.warmUp then x.warmUp - 1 else x.warmUp
      streak := if result = TieResult.good then 0 else if result = TieResult.mismatch then (if x.streak < 2 then x.streak + 1 else 0)
        else x.streak
      learn := if learned ∨ x.learn = Learn.none then Learn.none else Learn.armed }
    let told := { s with
      inputs := { s.inputs with tiers := s.inputs.tiers.set h { s.inputs.tiers.get h with cycleComplete := true } }
      tiers := s.tiers.set h ended
      products := if learned then
          s.products.set tie.product (s.products[tie.product].map fun (e : ProductEntry) => { e with signature := some tie.signature })
        else s.products
      totals := { s.totals with heads := s.totals.heads.set h counted }
      notices := if learned then s.notices.place (.signatureLearned h tie.loaf tie.product tie.signature)
        else if result = TieResult.mismatch then
          s.notices.place (.tieMismatch h tie.loaf tie.product tie.signature (expected.getD 0))
        else s.notices }.updateRecord tie.loaf fun r =>
          { r with
            tie := some result, flags := { r.flags with uncheckedTie := r.flags.uncheckedTie || decide (result = TieResult.unchecked) }
            disposition := if result = TieResult.mismatch then some (r.disposition.getD .untied) else r.disposition }
    let moved := if (s.heads.get h).step = .tying then
      { told with heads := told.heads.set h { told.heads.get h with
        step := .discharging, timer := some (s.heads.get h).timeouts.discharging } } else told
    let t := State.finish s none (if result = .mismatch ∧ 2 ≤ x.streak then moved.raise (.tieFault h) else moved)
    ((s.inputs.tiers.get h).cycleComplete = false → exec (.tieDone h .rises) s = .next t ∧
      (t.tiers.get h).tie = none ∧ (t.tiers.get h).magazine = x.magazine ∧
      (t.tiers.get h).lastSignature = some tie.signature ∧
      (t.tiers.get h).warmUp = (if tie.interrupted = false ∧ x.check = true ∧ 0 < x.warmUp then x.warmUp - 1 else x.warmUp) ∧
      (t.tiers.get h).streak = (if result = .good then 0 else if result = .mismatch then (if x.streak < 2 then x.streak + 1 else 0)
        else x.streak) ∧
      (learned → (t.tiers.get h).learn = .none ∧
        t.products[tie.product] = (s.products[tie.product]).map fun e => { e with signature := some tie.signature }) ∧
      (¬learned → t.products = s.products ∧ (t.tiers.get h).learn = if x.learn = .none then .none else .armed) ∧
      (∀ r, (s.heads.get h).record = some r → r.number = tie.loaf → ∃ r', (t.heads.get h).record = some r' ∧
        r'.tie = some result ∧ r'.flags.uncheckedTie = (r.flags.uncheckedTie || decide (result = .unchecked)) ∧
        r'.disposition = if result = .mismatch then some (r.disposition.getD .untied) else r.disposition) ∧
      t.totals.heads.get h = counted ∧
      t.router = s.router ∧ t.slicers = s.slicers ∧ t.planner = s.planner ∧ t.watch = s.watch ∧ t.assign = s.assign ∧
      t.dayCodes = s.dayCodes ∧ t.link = s.link ∧
      (∀ h', h' ≠ h → t.tiers.get h' = s.tiers.get h' ∧ t.totals.heads.get h' = s.totals.heads.get h' ∧
        ((∀ r, (s.heads.get h').record = some r → r.number ≠ tie.loaf) → t.heads.get h' = s.heads.get h')) ∧
      (∀ l, (∀ r ∈ (s.lanes.get l).queue, r.number ≠ tie.loaf) →
        t.lanes.get l = { s.lanes.get l with holdInEffect := (t.lanes.get l).holdInEffect }) ∧
      (2 ≤ x.streak → result = .mismatch → s.line.state ≠ .stopped → s.drained = false → (t.line.causes.tieFault.get h) = true) ∧
      ((s.heads.get h).step = .tying → (t.heads.get h).step = .discharging ∧
        (t.heads.get h).timer = some (s.heads.get h).timeouts.discharging)) ∧
    (∀ lines : BitVec 4,
      let sampled := { tie with signature := crcByte tie.signature (lines.setWidth 8), ticks := min 65535 (tie.ticks + 1) }
      exec (.tierEncoderTick h (.tick lines)) s = .next { s with
        inputs := { s.inputs with tiers := s.inputs.tiers.set h { s.inputs.tiers.get h with lines := lines } }
        tiers := s.tiers.set h { x with tie := some sampled } })

/-! ### Crumb clearing (chapter 8) -/

/-- Sections 8.1 and 8.4: CRUMB SETTINGS, SET CRUMB MODE, CRUMB RESET and READ CRUMB, carried out and refused, and the bytes
of READ CRUMB (section 11.5). A CRUMB RESET whose start test enters GAP_WAIT again leaves an infeed hold in effect as it is
(the model's choice, entry 40). -/
def Obligations.CrumbRequestsCarriedOut : Prop :=
  (∀ (tag b : Byte) (l : Lane) (s : State), s.link.handled = none → b = Lane.code l →
     let c := s.crumb.get l
     let with' := fun (d : Crumb) => { s with crumb := s.crumb.set l d }
     let allowed := fun (p : Setting) =>
       ((p.item = 1 ∨ p.item = 2) ∧ 1 ≤ p.value.toNat ∧ p.value.toNat ≤ 16777215) ∨
       (p.item = 3 ∧ 200 ≤ p.value.toNat ∧ p.value.toNat ≤ 5000) ∨ (p.item = 4 ∧ 100 ≤ p.value.toNat ∧ p.value.toNat ≤ 3000)
     let passes := fun (pairs : List Setting) => 1 ≤ pairs.length ∧ pairs.length ≤ 12 ∧ ∀ p ∈ pairs, allowed p
     (∀ pairs : List Setting, passes pairs →
       let high := lastFor 2 c.tHigh pairs
       let d := { c with tLow := min (lastFor 1 c.tLow pairs) high, tHigh := high
                         purgeTime := lastFor 3 c.purgeTime pairs, settleTime := lastFor 4 c.settleTime pairs }
       Accepts (.crumbSettings tag b pairs) s (State.finish s (some l) (with' d))
         (beBytes 3 d.tLow ++ beBytes 3 d.tHigh ++ beBytes 2 d.purgeTime ++ beBytes 2 d.settleTime)) ∧
     (∀ pairs : List Setting, ¬passes pairs → Rejects (.crumbSettings tag b pairs) s .badValue []) ∧
     (∀ m : CrumbMode, c.step = .disabled ∨ c.step = .watching → (m = .manual → s.moving = false) →
       let rest := if m = .disabled then CrumbStep.disabled else .watching
       let t := State.finish s (some l) (with'
         { c with mode := m, single := false, step := rest, last := if c.step = rest then c.last else c.step })
       Accepts (.setCrumbMode tag b (CrumbMode.code m)) s t
         [CrumbMode.code c.mode, CrumbMode.code m, CrumbStep.code c.step, CrumbStep.code (t.crumb.get l).step]) ∧
     (∀ m : CrumbMode, c.step ≠ .disabled → c.step ≠ .watching →
       Rejects (.setCrumbMode tag b (CrumbMode.code m)) s .busy []) ∧
     (∀ d : Byte, 3 < d.toNat → Rejects (.setCrumbMode tag b d) s .badValue []) ∧
     (c.step = .disabled ∨ c.step = .watching → s.moving = true → Rejects (.setCrumbMode tag b 3) s .wrongState []) ∧
     (let rest := if c.mode = .disabled then CrumbStep.disabled else .watching
      let t := State.finish s (if c.step = .disabled ∨ c.step = .watching then none else some l)
       { with' { c with step := rest, last := if c.step = rest then c.last else c.step, phase := none, single := false, manual := false } with
         air := s.air.release l }
      Accepts (.crumbReset tag b) s t ([CrumbStep.code c.step, CrumbStep.code (t.crumb.get l).step] ++ beBytes 3 c.load)) ∧
     Accepts (.readCrumb tag b) s s (s.crumbReport l) ∧ (s.crumbReport l).length = 28) ∧
  (∀ (l : Lane) (s : State),
     let c := s.crumb.get l
     let q := s.lanes.get l
     let b2 := fun (n : Nat) => [BitVec.ofNat 8 (n / 256), BitVec.ofNat 8 n]
     let b3 := fun (n : Nat) => [BitVec.ofNat 8 (n / 65536), BitVec.ofNat 8 (n / 256), BitVec.ofNat 8 n]
     let yes := fun (b : Bool) => if b then (1 : Byte) else 0
     let timer := fun (t : Option Nat) => match t with
       | none => [0xFF, 0xFF]
       | some left => b2 left
     let quiet := decide (∀ r ∈ q.queue, r.stage = .sliced ∨ r.stage = .waiting ∨ r.stage = .atHead) && decide (q.window = .clear)
     s.crumbReport l = [CrumbMode.code c.mode, CrumbStep.code c.step, CrumbStep.code c.last] ++ b3 c.load ++
       [BitVec.ofNat 8 c.count] ++ b3 c.tLow ++ b3 c.tHigh ++ b2 c.purgeTime ++ b2 c.settleTime ++ timer c.phase ++ timer c.holdOff ++
       [yes c.single, yes c.manual, yes quiet, grantCode s.air.holder, grantCode s.air.waiting, yes (decide (c.step = .purging)),
         yes (decide (c.step = .purging ∨ c.step = .settling))])

/-- Sections 8.2 and 8.4: PURGE START, PURGE STOP and SINGLE PURGE, by the lane's mode and state. -/
def Obligations.PurgeRequestsTaken : Prop :=
  ∀ (tag b : Byte) (l : Lane) (s : State), s.link.handled = none → b = Lane.code l →
    let c := s.crumb.get l
    let rests := c.step = .disabled ∨ c.step = .watching
    let safe := s.inputs.eStop = false ∧ ∀ g : Fin 4, s.inputs.guards[g] = false
    let replies := fun (i : Instr) (t : State) => Accepts i s t [CrumbStep.code c.step, CrumbStep.code (t.crumb.get l).step]
    let waiting := { s with
      crumb := s.crumb.set l { c with step := .gapWait, last := c.step, manual := false, phase := some 10000 }
      air := s.air.request l }
    (c.mode = .disabled ∨ c.mode = .auto →
      Rejects (.purgeStart tag b) s .wrongState [] ∧ Rejects (.purgeStop tag b) s .wrongState []) ∧
    (c.mode = .commanded →
      (¬rests → Rejects (.purgeStart tag b) s .busy []) ∧
      (rests → s.line.state = .halted ∨ ¬safe → Rejects (.purgeStart tag b) s .wrongState []) ∧
      (rests → s.line.state ≠ .halted → safe → replies (.purgeStart tag b) (State.finish s none waiting))) ∧
    (c.mode = .manual → c.step = .purging ∨ c.step = .settling → Rejects (.purgeStart tag b) s .busy []) ∧
    (c.mode = .manual → rests →
      (s.moving = true ∨ ¬safe ∨ (∃ r ∈ (s.lanes.get l).queue, r.stage = .gauged ∨ r.stage = .planWait ∨ r.stage = .planned ∨
        r.stage = .slicing) → Rejects (.purgeStart tag b) s .wrongState []) ∧
      (s.moving = false → safe → (∀ r ∈ (s.lanes.get l).queue, r.stage = .sliced ∨ r.stage = .waiting ∨ r.stage = .atHead) →
        (s.air.holder = some (otherLane l) → Rejects (.purgeStart tag b) s .busy []) ∧
        (s.air.holder = none → replies (.purgeStart tag b) (State.finish s none { s with
          crumb := s.crumb.set l { c with step := .purging, last := c.step, manual := true }
          air := ⟨some l, s.air.waiting⟩ })))) ∧
    (c.mode = .commanded ∨ c.mode = .manual →
      (c.step = .gapWait → replies (.purgeStop tag b) (State.finish s none { s with
        crumb := s.crumb.set l { c with step := .watching, last := .gapWait, phase := none }, air := s.air.release l })) ∧
      (c.step = .purging → replies (.purgeStop tag b) (State.finish s none { s with
        crumb := s.crumb.set l { c with step := .settling, last := .purging, phase := some c.settleTime, ended := .purgeStop } })) ∧
      (c.step ≠ .gapWait → c.step ≠ .purging → replies (.purgeStop tag b) (State.finish s none s))) ∧
    (c.mode ≠ .auto → Rejects (.singlePurge tag b) s .wrongState []) ∧
    (c.mode = .auto → ¬rests ∨ c.single = true → Rejects (.singlePurge tag b) s .busy []) ∧
    (c.mode = .auto → rests → c.single = false →
      (s.moving = true → Accepts (.singlePurge tag b) s (State.finish s none waiting) [1]) ∧
      (s.moving = false → Accepts (.singlePurge tag b) s { s with crumb := s.crumb.set l { c with single := true } } [0]))

/-- Section 8.2: the timers of a purge and the hold-off run out. The expiry may be taken while the timer runs (entry 4).
That the manual mark ends with the purge it marks is the model's choice (entry 28). -/
def Obligations.PurgeTimersRunOut : Prop :=
  ∀ (l : Lane) (s : State),
    let c := s.crumb.get l
    let with' := fun (d : Crumb) => { s with crumb := s.crumb.set l d }
    (c.step = .gapWait → c.phase ≠ none →
      exec (.gapWaitExpiry l) s = .next (State.finish s (some l)
        ({ with' { c with step := .watching, last := .gapWait, phase := none, holdOff := some 30000 } with air := s.air.release l }.notify
          (.purgeNoGap l c.load (decide (s.air.holder = some l)))))) ∧
    (c.holdOff ≠ none →
      exec (.holdOffExpiry l) s = .next (State.finish s (some l) (with' { c with holdOff := none }))) ∧
    (c.step = .purging → c.phase ≠ none →
      exec (.purgeTimeExpiry l) s = .next (State.finish s none
        (with' { c with step := .settling, last := .purging, phase := some c.settleTime, ended := .fullTime }))) ∧
    (c.step = .settling → c.phase ≠ none →
      let count := min 255 (c.count + 1)
      let counted : LaneTotals :=
        { s.totals.lanes.get l with purges := min 4294967295 ((s.totals.lanes.get l).purges + 1) }
      exec (.settleExpiry l) s = .next (State.finish s none
        ({ with' { c with step := .watching, last := .settling, phase := none, manual := false, load := 0, count := count } with
            totals := { s.totals with lanes := s.totals.lanes.set l counted }
            air := s.air.release l }.notify (.purgeDone l c.load count c.ended))))

/-! ### Line states and stop causes (chapter 9) -/

/-- Sections 9.2 and 9.4: the raise of a stop cause: its presence, the latch, the notice with the state of the moment, the
change of the line state and the purge aborts, with their notices, and nothing else; and what the entry into HALTED does to
the stations, the loaves whose cuts it abandons, the heads and the tiers, and nothing else. Lane A is aborted before lane B
(the model's choice, entry 8), and a drain that is complete is tested at the entry into DRAINING (the model's reading, entry
12). A latched cause raised again at another place keeps its detail (the model's reading, entry 9). -/
def Obligations.RaisingAStopCause : Prop :=
  (∀ (c : Cause) (s : State),
     let t := s.raise c
     (c.immediate = true ↔ c.priority ≤ 7) ∧
     t.line.latched = (match s.line.latched with
       | none => some c
       | some old => if c.priority < old.priority then some c else some old) ∧
     (c.immediate = true → s.moving = true → t.line.state = .halted ∧ t.line.window = none ∧
       t.line.causes = s.line.causes.add c) ∧
     (c.immediate = true → s.moving = false → t.line.state = s.line.state ∧ t.slicers = s.slicers ∧ t.heads = s.heads) ∧
     (c.immediate = false → s.line.state = .running → s.drained = false → t.line.state = .draining ∧
       t.line.causes = s.line.causes.add c ∧ t.line.window = s.line.window) ∧
     (c.immediate = false → s.line.state = .running → s.drained = true → t.line = { s.line with
       state := .stopped, latched := t.line.latched, window := none
       causes := { s.line.causes.add c with
         tieFault := ⟨false, false⟩, watchStop := Vector.replicate 4 false, commandStop := false } }) ∧
     (c.immediate = false → s.line.state ≠ .running → t.line.state = s.line.state ∧ t.line.window = s.line.window) ∧
     (s.line.state = .draining → t.line.causes = s.line.causes.add c) ∧
     (s.line.state = .stopped → t.line.causes = s.line.causes) ∧
     (s.line.state = .halted → t.line.causes = s.line.causes.add c) ∧
     (s.notices.enabled.getLsbD 0 = true → s.notices.queue.length < 32 →
       t.notices.queue[s.notices.queue.length]? = some (.stopCause c s.line.state)) ∧
     (let raised := s.notices.place (.stopCause c s.line.state)
      let inCycle := fun (l : Lane) => (s.crumb.get l).step ≠ .disabled ∧ (s.crumb.get l).step ≠ .watching
      let aborted := fun (l : Lane) (q : Notices) =>
        if inCycle l then q.place (.purgeAborted l (s.crumb.get l).step (s.crumb.get l).load false) else q
      (c.immediate = true →
        t.notices = aborted .b (aborted .a
          (if s.moving then raised.place (.lineState s.line.state .halted t.line.latched) else raised)) ∧
        (∀ l, let y := s.crumb.get l
          t.crumb.get l = if inCycle l then { y with
            step := if y.mode = .disabled then .disabled else .watching, last := y.step, phase := none, single := false, manual := false }
          else y) ∧
        t = { (if s.moving then s.enterHalted else s) with line := t.line, notices := t.notices, crumb := t.crumb, air := t.air }) ∧
      (c.immediate = false →
        t.notices = (if s.line.state = .running then
          (let drains := raised.place (.lineState .running .draining t.line.latched)
           if s.drained then drains.place (.lineState .draining .stopped t.line.latched) else drains) else raised) ∧
        t = { s with line := t.line, notices := t.notices })) ∧
     (c.immediate = true → ∀ l, (t.crumb.get l).step = .disabled ∨ (t.crumb.get l).step = .watching) ∧
     (c.immediate = true → s.AirOrdered → t.air = ⟨none, none⟩)) ∧
  (∀ (c : EventCauses) (g e : Fin 4) (l : Lane) (h : Head) (st : HeadStep),
     (∀ x ∈ [Cause.eStop, .guardOpen g, .clipEmpty h], c.add x = c) ∧
     c.add .repeatFault = { c with repeatFault := true } ∧ c.add (.slicerJam l) = { c with slicerJam := c.slicerJam.set l true } ∧
     c.add (.headJam h st) = { c with headJam := c.headJam.set h (some st) } ∧
     c.add (.bagEmpty h) = { c with bagEmpty := c.bagEmpty.set h true } ∧ c.add .commandHalt = { c with commandHalt := true } ∧
     c.add (.tieFault h) = { c with tieFault := c.tieFault.set h true } ∧
     c.add (.watchStop e) = { c with watchStop := c.watchStop.set e true } ∧ c.add .commandStop = { c with commandStop := true } ∧
     [Cause.eStop, .guardOpen g, .repeatFault, .slicerJam l, .headJam h st, .bagEmpty h, .commandHalt, .clipEmpty h, .tieFault h,
       .watchStop e, .commandStop].map Cause.priority = [1, 2, 3, 4, 5, 6, 7, 8, 9, 10, 11]) ∧
  (∀ s : State,
     let loafOf := fun (x : Slicer) => match x.blade with
       | .stroking c => [c.loaf]
       | .home | .homing _ => []
     let owners := fun (l : Lane) => loafOf (s.slicers.get l) ++ ((s.slicers.get l).pending.map Cut.loaf).toList
     let cutShort := fun (r : LoafRecord) => if r.number ∈ owners .a ++ owners .b then
       { r with flags := { r.flags with miscut := true }, disposition := some (r.disposition.getD .miscut)
                stage := if r.stage = .planned ∨ r.stage = .slicing then .sliced else r.stage } else r
     let lane := fun (l : Lane) => { s.lanes.get l with queue := (s.lanes.get l).queue.map cutShort }
     let station := fun (l : Lane) => { s.slicers.get l with
       blade := if (s.slicers.get l).blade = .home then .home else .homing false
       pending := none, timer := none, schedule := (s.slicers.get l).schedule.filter fun e => decide (e.loaf ∉ owners l) }
     let head := fun (h : Head) =>
       let x := s.heads.get h
       let timed := decide (x.step ≠ .idle ∧ x.step ≠ .bagOut)
       { x with record := x.record.map cutShort, timer := if timed then none else x.timer
                feedPulse := if timed then none else x.feedPulse }
     let tier := fun (h : Head) => { s.tiers.get h with tie := (s.tiers.get h).tie.map fun x => { x with interrupted := true } }
     s.enterHalted = { s with
       line := { s.line with state := .halted, window := none }
       notices := s.notices.place (.lineState s.line.state .halted s.line.latched)
       lanes := ⟨lane .a, lane .b⟩, slicers := ⟨station .a, station .b⟩, heads := ⟨head .one, head .two⟩, tiers := ⟨tier .one, tier .two⟩ })

/-- Section 9.4: START runs the line from STOPPED with no immediate cause, no CLIP_EMPTY and a product; HOMING blades start
a homing move or are home at once, the Crumb Controllers take the entry into RUNNING, and releases are attempted; in every
other case it is refused with the causes and the products. R157 lists these effects without an order: blades, MANUAL aborts,
single purges, start tests, releases is the model's choice (entry 13; R142 alone puts the single purges before the start
test), and so is lane A before lane B, which decides who gets the air (entry 8). An infeed hold stays in effect on a lane
that enters GAP_WAIT within the event (the model's choice, entry 40). -/
def Obligations.StartRunsTheLine : Prop :=
  (∀ (tag : Byte) (s : State), s.link.handled = none →
     let forbidden := s.line.state ≠ .stopped ∨ s.immediateCausePresent = true ∨ s.clipEmptyPresent = true ∨
       ((s.assign.get .a).active = none ∧ (s.assign.get .b).active = none)
     (forbidden → Rejects (.start tag) s .wrongState
       (s.causeList ++ [productCode s.assign.a.active, productCode s.assign.b.active])) ∧
     (¬forbidden → ∃ t, Accepts (.start tag) s t [1] ∧ t.line.state = .running ∧
       t = State.finish s none { s with
         line := { s.line with state := .running }
         notices := s.notices.place (.lineState .stopped .running s.line.latched) }.homeBlades.crumbsRun.attemptReleases ∧
       t.line.causes = s.line.causes ∧ t.line.latched = s.line.latched ∧ t.line.window = s.line.window ∧
       (∀ l, (s.slicers.get l).blade = .home → t.slicers.get l = s.slicers.get l) ∧
       (∀ l m, (s.slicers.get l).blade = .homing m → s.inputs.bladeHome.get l = false →
         t.slicers.get l = { s.slicers.get l with blade := .homing true, timer := some 150 }) ∧
       (∀ l m, (s.slicers.get l).blade = .homing m → s.inputs.bladeHome.get l = true → (s.slicers.get l).pending = none →
         t.slicers.get l = { s.slicers.get l with blade := .home, timer := none }) ∧
       (∀ h, h ∉ s.router.idleOrder → t.heads.get h = { s.heads.get h with record := (t.heads.get h).record }) ∧
       t.products = s.products ∧ t.assign = s.assign ∧ t.totals = s.totals ∧ t.tiers = s.tiers ∧ t.planner = s.planner ∧
       t.watch = s.watch ∧ t.dayCodes = s.dayCodes ∧ t.inputs = s.inputs)) ∧
  (∀ s : State,
     let aborts := fun (l : Lane) (u : State) =>
       let c := u.crumb.get l
       if c.mode = .manual ∧ (c.step = .purging ∨ c.step = .settling) then
         { u with crumb := u.crumb.set l { c with step := .watching, last := c.step, phase := none, single := false, manual := false }
                  air := u.air.release l, notices := u.notices.place (.purgeAborted l c.step c.load false) }
       else u
     let singles := fun (l : Lane) (u : State) =>
       let c := u.crumb.get l
       if c.single = true then
         { u with crumb := u.crumb.set l { c with step := .gapWait, last := if c.step = .gapWait then c.last else c.step,
                                                  phase := some 10000, single := false, manual := false }
                  air := u.air.request l }
       else u
     s.crumbsRun = ((singles .b (singles .a (aborts .b (aborts .a s)))).startTest .a).startTest .b)

/-- Section 9.4: RESUME from HALTED ends the causes a halt leaves behind, clears the latch and opens the resume window; the
line drains if a pending cause is present. A head whose completion is asserted takes it at once, in OPENING, LOADING,
GATHERING and DISCHARGING, with the hand-off or the count, report, pending source and releases that the completion brings.
The order of its steps is the model's choice (entry 13), and so are, by the same entry 13, that a head resumed in OPENING
gets no new bag-feed pulse and that the window opens only where the line still moves after the heads' steps; so are lane A
before lane B and head 1 before head 2 (entry 8) and that an infeed hold stays in effect on a lane that enters GAP_WAIT
within the event (entry 40), that a bag-feed pulse still running is kept by a head that goes on or goes IDLE (entry 36) and
starts its 100 ms anew at a new bag (entry 39); that a head in TYING restarts its timer and stays there, even with
cycle-complete asserted, is the model's reading (entry 14). -/
def Obligations.ResumeRestartsTheLine : Prop :=
  (∀ (tag : Byte) (s : State), s.link.handled = none →
     let forbidden := s.line.state ≠ .halted ∨ s.inputs.eStop = true ∨ (∃ g : Fin 4, s.inputs.guards[g] = true) ∨
       s.line.causes.repeatFault = true
     (forbidden → Rejects (.resume tag) s .wrongState s.causeList) ∧
     (¬forbidden →
       let v := { s with
         line := ⟨.running, { s.line.causes with
           slicerJam := ⟨false, false⟩, headJam := ⟨none, none⟩, bagEmpty := ⟨false, false⟩, commandHalt := false }, none, s.line.window⟩
         notices := s.notices.place (.lineState .halted .running none) }.homeBlades.crumbsRun
       let t := State.finish s none
         ((v.resumeHead s.heads.one.step .one).resumeHead s.heads.two.step .two).attemptReleases.openWindow
       Accepts (.resume tag) s t [LineState.code t.line.state] ∧
       ((∀ h, ¬((s.heads.get h).step = .gathering ∧ (s.inputs.heads.get h).gatherDone = true) ∧
           ¬((s.heads.get h).step = .discharging ∧ (s.inputs.heads.get h).dischargeClear = true)) →
         (∀ h, (s.heads.get h).step ≠ .idle → h ∉ s.router.idleOrder) → s.drained = false →
         t.line.state = (if s.pendingCausePresent = true then .draining else .running) ∧ t.line.window = some 2000 ∧
         t.line.latched = none ∧
         t.line.causes = { s.line.causes with
           slicerJam := ⟨false, false⟩, headJam := ⟨none, none⟩, bagEmpty := ⟨false, false⟩, commandHalt := false } ∧
         (∀ h, (s.heads.get h).step = .bagOut → (t.heads.get h).step = .opening ∧ (t.heads.get h).misses = 0 ∧
           (t.heads.get h).timer = some (s.heads.get h).timeouts.opening ∧ (t.heads.get h).feedPulse = some 100) ∧
         (∀ h, (s.heads.get h).step.timed = true →
           let y := s.heads.get h
           let z := t.heads.get h
           if y.step = .opening ∧ (s.inputs.heads.get h).bagOpen = true then
             z.step = .loading ∧ z.misses = 0 ∧ z.timer = some y.timeouts.loading
           else if y.step = .loading ∧ (s.inputs.heads.get h).loafIn = true then
             z.step = .gathering ∧ z.misses = y.misses ∧ z.timer = some y.timeouts.gathering
           else z.step = y.step ∧ z.misses = y.misses ∧ z.timer = y.timeouts.of y.step) ∧
         (∀ l m, (s.slicers.get l).blade = .homing m → s.inputs.bladeHome.get l = false →
           t.slicers.get l = { s.slicers.get l with blade := .homing true, timer := some 150 }) ∧
         t.products = s.products ∧ t.assign = s.assign ∧ t.totals = s.totals ∧ t.tiers = s.tiers ∧ t.watch = s.watch))) ∧
  (∀ (h : Head) (s : State),
     let x := s.heads.get h
     let i := s.inputs.heads.get h
     let enters := fun (y : HeadState) => { s with heads := s.heads.set h y }
     let figures := s.totals.heads.get h
     s.resumeHead .idle h = s ∧
     s.resumeHead .bagOut h = enters { x with step := .opening, timer := some x.timeouts.opening, feedPulse := some 100, misses := 0 } ∧
     (i.bagOpen = true → s.resumeHead .opening h = enters { x with step := .loading, timer := some x.timeouts.loading, misses := 0 }) ∧
     (i.bagOpen = false → s.resumeHead .opening h = enters { x with step := .opening, timer := some x.timeouts.opening }) ∧
     (i.loafIn = true → s.resumeHead .loading h = enters { x with step := .gathering, timer := some x.timeouts.gathering }) ∧
     (i.loafIn = false → s.resumeHead .loading h = enters { x with step := .loading, timer := some x.timeouts.loading }) ∧
     (i.gatherDone = false → s.resumeHead .gathering h = enters { x with step := .gathering, timer := some x.timeouts.gathering }) ∧
     (∀ r, x.record = some r → i.gatherDone = true →
       ((s.tiers.get h).magazine ≠ 0 →
         s.resumeHead .gathering h = (enters { x with step := .tying, timer := some x.timeouts.tying }).tieStart h r) ∧
       ((s.tiers.get h).magazine = 0 →
         s.resumeHead .gathering h = { enters { x with step := .discharging, timer := some x.timeouts.discharging, direct := false } with
             totals := { s.totals with heads := s.totals.heads.set h { figures with noClip := min 4294967295 (figures.noClip + 1) } }
           }.updateRecord r.number fun y =>
             { y with tie := some .noClip, disposition := some (y.disposition.getD .untied) })) ∧
     s.resumeHead .tying h = enters { x with step := .tying, timer := some x.timeouts.tying } ∧
     (i.dischargeClear = false →
       s.resumeHead .discharging h = enters { x with step := .discharging, timer := some x.timeouts.discharging }) ∧
     (i.dischargeClear = true → s.resumeHead .discharging h = s.takeDischargeClear h) ∧
     (s.line.state ≠ .halted → x.step = .discharging → i.dischargeClear = false →
       let seen := { s with inputs := { s.inputs with heads := s.inputs.heads.set h { i with dischargeClear := true } } }
       exec (.dischargeClear h .rises) s = .next (State.finish s none (seen.takeDischargeClear h))) ∧
     (∀ r, x.record = some r →
       let t := s.totals.products[r.product]
       let src := (s.router.pending.get h).getD (s.router.active.get h)
       let counted := fun (u : ProductTotals) =>
         let v := if r.marked then { u with marked := min 4294967295 (u.marked + 1) } else u
         let freed := { enters { x with step := .idle, record := none, direct := false, misses := 0, timer := none } with
           router := { s.router with active := s.router.active.set h src, pending := s.router.pending.set h none
                                     idleOrder := s.router.idleOrder.filter (fun y => y != h) ++ [h] }
           totals := { s.totals with products := s.totals.products.set r.product v } }.report r .head (some h) r.tie
         let empties := s.router.pending.get h ≠ none ∧ src ≠ .none ∧ (s.tiers.get h).magazine = 0
         (if empties then freed.raise (.clipEmpty h) else freed).attemptReleases
       (r.disposition = none → t.bagged < 4294967295 → t.baggedWhole < 4294967295 → t.baggedUnchecked < 4294967295 →
         s.takeDischargeClear h = counted
           { t with bagged := t.bagged + 1
                    baggedWhole := t.baggedWhole + (if r.plan.map Plan.outcome = some .noSpan then 1 else 0)
                    baggedUnchecked := t.baggedUnchecked + (if r.tie = some .unchecked then 1 else 0) }) ∧
       (∀ reason, r.disposition = some reason → t.rejected reason < 4294967295 →
         s.takeDischargeClear h = counted (t.bumpRejected reason)))) ∧
  (∀ s : State,
     let homed := fun (l : Lane) =>
       let x := s.slicers.get l
       match x.blade with
       | .homing _ => if s.inputs.bladeHome.get l then { x with blade := .home, timer := none }
                      else { x with blade := .homing true, timer := some 150 }
       | .home => x
       | .stroking _ => x
     let opened := { s.line with window := some 2000 }
     let drains := s.notices.place (.lineState .running .draining s.line.latched)
     ((∀ l m, (s.slicers.get l).blade = .homing m → s.inputs.bladeHome.get l = true → (s.slicers.get l).pending = none) →
       s.homeBlades = { s with slicers := ⟨homed .a, homed .b⟩ }) ∧
     (s.line.state = .stopped ∨ s.line.state = .halted → s.openWindow = s) ∧
     (s.line.state = .draining ∨ (s.line.state = .running ∧ s.pendingCausePresent = false) → s.openWindow = { s with line := opened }) ∧
     (s.line.state = .running → s.pendingCausePresent = true → s.drained = false →
       s.openWindow = { s with line := { opened with state := .draining }, notices := drains }) ∧
     (s.line.state = .running → s.pendingCausePresent = true → s.drained = true →
       s.openWindow = { s with
         line := { s.line with
           state := .stopped, window := none
           causes := { s.line.causes with tieFault := ⟨false, false⟩, watchStop := Vector.replicate 4 false, commandStop := false } }
         notices := drains.place (.lineState .draining .stopped s.line.latched) }))

/-- Section 9.4: CLEAR empties the line, counts every record cleared, reports it by the loaf-report mode and leaves the line
STOPPED, with the notices of the clear in the order of R161; it is refused on a moving line. Lane A is aborted before lane B
where the rule gives no order (the model's choice, entry 8). -/
def Obligations.ClearEmptiesTheLine : Prop :=
  ∀ (tag : Byte) (s : State), s.link.handled = none →
    (s.moving = true → Rejects (.clear tag) s .wrongState []) ∧
    (s.moving = false → s.AirOrdered → ∃ t, Accepts (.clear tag) s t
        [BitVec.ofNat 8 s.lanes.a.queue.length, BitVec.ofNat 8 s.lanes.b.queue.length, boolCode s.heads.one.record.isSome,
          boolCode s.heads.two.record.isSome] ∧
      t.line = ⟨.stopped, EventCauses.none, none, none⟩ ∧ t.held = [] ∧
      (∀ l, t.lanes.get l = { s.lanes.get l with
        window := if s.inputs.curtain.get l = 0 then .clear else .void, previous := none, queue := [], gateHeld := none,
        holdInEffect := true }) ∧
      (∀ l, t.slicers.get l = { s.slicers.get l with schedule := [], pending := none, timer := none, blade :=
        if (s.slicers.get l).blade = .home then .home else .homing false }) ∧
      (∀ h, t.heads.get h = { s.heads.get h with
        step := .idle, record := none, direct := false, misses := 0, timer := none, feedPulse := none }) ∧
      t.router.idleOrder = [.one, .two] ∧ t.router.waitingOrder = [] ∧ t.router.pending = ⟨none, none⟩ ∧
      (∀ h, t.router.active.get h = (s.router.pending.get h).getD (s.router.active.get h)) ∧
      (∀ h, t.tiers.get h = { s.tiers.get h with tie := none, warmUp := 2, streak := 0
                                                 learn := if (s.tiers.get h).learn = .none then .none else .armed }) ∧
      (∀ l, let c := s.crumb.get l
        t.crumb.get l = if c.step = .disabled ∨ c.step = .watching then { c with single := false } else
          { c with step := if c.mode = .disabled then .disabled else .watching, last := c.step, phase := none, single := false,
                   manual := false }) ∧
      t.air = ⟨none, none⟩ ∧
      t.watch = { s.watch with chains := Vector.replicate 2 none } ∧
      t.planner = { s.planner with
        issued := s.planner.issued.map fun x => { x with withdrawn := true }
        queue := s.planner.queue.filter fun req => !req.isGauge
        current := s.planner.current.map fun c => if c.request.isGauge then { c with withdrawn := true } else c } ∧
      ((∀ p : ProductIx, s.totals.products[p].cleared + s.held.length ≤ 4294967295) →
        (∀ p : ProductIx,
        let u := s.totals.products[p]
        let removed := s.held.filter fun r => decide (r.product = p)
        let marked := removed.countP LoafRecord.marked
        t.totals.products[p] = { u with
          cleared := u.cleared + removed.length, marked := if marked = 0 then u.marked else min 4294967295 (u.marked + marked) }) ∧
        t.totals = { s.totals with products := t.totals.products } ∧
        (let tell := fun (n : Notice) (q : Notices) => match q.reports with
          | .off => q
          | .every => q.place n
          | .once => { q.place n with reports := .off }
         let report := fun (r : LoafRecord) (h : Option Head) (tie : Option TieResult) =>
           Notice.loafReport ⟨r.number, r.lane, r.product, r.flags, r.marked, r.disposition, .lineClear, h, tie⟩
         let lane := fun (l : Lane) (q : Notices) => (s.lanes.get l).queue.foldl (fun q r => tell (report r none none) q) q
         let head := fun (h : Head) (q : Notices) =>
           let reported := match (s.heads.get h).record with
             | none => q
             | some r => tell (report r (some h) r.tie) q
           match s.router.pending.get h with
           | none => reported
           | some src => if src ≠ .none ∧ (s.tiers.get h).magazine = 0 then
               reported.place (.stopCause (.clipEmpty h) s.line.state) else reported
         let aborted := fun (l : Lane) (q : Notices) =>
           let c := s.crumb.get l
           if c.step = .disabled ∨ c.step = .watching then q else q.place (.purgeAborted l c.step c.load true)
         let q := aborted .b (aborted .a (head .two (head .one (lane .b (lane .a s.notices)))))
         t.notices = if s.line.state = .halted then q.place (.lineState .halted .stopped none) else q)) ∧
      t.link = s.link ∧ t.pending = s.pending ∧ t.products = s.products ∧ t.dayCodes = s.dayCodes ∧ t.assign = s.assign ∧ t.lastLoaf = s.lastLoaf ∧ t.lineId = s.lineId ∧
      t.inputs = s.inputs)

/-- Sections 9.1 to 9.3: the outputs the line state governs, STOP, READ LINE STATUS with the bytes of its report (section
11.5), the safety inputs and the end of the resume window; sections 2.4, 2.5, 4.1, 6.3, 7.1 and 8.1: the outputs of the
lanes, stations, heads, tiers and controllers. A bag-feed pulse gives its output for its whole 100 ms, whatever state its
head has reached (the model's choice, entry 36). In the cause list the detail of a present CLIP_EMPTY is the heads now empty
with a source (the model's reading, entry 10), and a cause block carries 0 as its HEAD_JAM states where the cause is
another, and as the four bits of a head that has not jammed (the model's choice, entry 41), and as the places of a cause
without detail (its reading, entry 41). The latched cause keeps the detail of the raise that latched it (the model's
reading, entry 9). -/
def Obligations.LineRequestsAndSafetyInputs : Prop :=
  (∀ (s : State),
     (∀ l, s.conveyorRuns l = true ↔ (s.line.state = .running ∨ s.line.state = .draining) ∧ (s.lanes.get l).gateHeld = none) ∧
     (∀ l, (s.holdSources l).line = true ↔ s.line.state ≠ .running) ∧
     (s.bladeEnable = true ↔ s.line.state = .running ∨ s.line.state = .draining ∨ s.line.state = .stopped) ∧
     (s.headEnable = true ↔ s.line.state = .running ∨ s.line.state = .draining)) ∧
  (∀ (s : State),
     let moves := s.line.state = .running ∨ s.line.state = .draining
     (∀ h : Head,
       let x := s.heads.get h
       let o := s.headOutputs h
       (o.bagFeed = true ↔ moves ∧ x.feedPulse ≠ none) ∧
       (o.bagAir = true ↔ moves ∧ (x.step = .opening ∨ x.step = .loading)) ∧
       (o.loader = true ↔ moves ∧ x.step = .loading) ∧
       (o.gather = true ↔ moves ∧ (x.step = .gathering ∨ x.step = .tying)) ∧
       (o.discharge = true ↔ moves ∧ x.step = .discharging) ∧
       (o.divert = true ↔ moves ∧ x.step = .discharging ∧ ∃ r, x.record = some r ∧ r.disposition ≠ none) ∧
       (s.tieOutput h = true ↔ moves ∧ (s.tiers.get h).tie ≠ none)) ∧
     (∀ l : Lane,
       let blade := (s.slicers.get l).blade
       let c := s.crumb.get l
       (s.strokeOutput l = true ↔ s.line.state ≠ .halted ∧ ∃ cut, blade = .stroking cut) ∧
       (s.homingOutput l = true ↔ s.line.state ≠ .halted ∧ blade = .homing true) ∧
       (c.knives = true ↔ c.step = .purging) ∧ (c.vacuum = true ↔ c.step = .purging ∨ c.step = .settling) ∧
       (s.diverterOutput l = true ↔ (s.lanes.get l).diverter ≠ none) ∧
       (s.infeedHoldOutput l = true ↔ (s.lanes.get l).holdInEffect = true))) ∧
  (∀ (tag form : Byte) (s : State), s.link.handled = none →
     (form = 0 → let t := State.finish s none (s.raise .commandStop)
       Accepts (.stop tag form) s t [LineState.code s.line.state, LineState.code t.line.state]) ∧
     (form = 1 → let t := State.finish s none (s.raise .commandHalt)
       Accepts (.stop tag form) s t [LineState.code s.line.state, LineState.code t.line.state]) ∧
     (form ≠ 0 → form ≠ 1 → Rejects (.stop tag form) s .badValue [])) ∧
  (∀ (tag : Byte) (s : State), s.link.handled = none →
     Accepts (.readLineStatus tag) s { s with line := { s.line with latched := none } } s.statusReport ∧
     s.statusReport.length = 14 + (1 + 3 * s.presentBlocks.length)) ∧
  (∀ (s : State),
     let c := s.line.causes
     let b2 := fun (n : Nat) => [BitVec.ofNat 8 (n / 256), BitVec.ofNat 8 n]
     let yes := fun (b : Bool) => if b then (1 : Byte) else 0
     let bits := fun (places : List Bool) => BitVec.ofNat 8 (places.foldr (fun b n => (if b then 1 else 0) + 2 * n) 0)
     let empty := fun (h : Head) => decide (s.router.active.get h ≠ .none ∧ (s.tiers.get h).magazine = 0)
     let jam := fun (x : Option HeadStep) => match x with
       | none => 0
       | some st => (HeadStep.code st).toNat
     let block := fun (present : Bool) (code places jams : Byte) => if present then [[code, places, jams]] else []
     let blocks :=
       block s.inputs.eStop 1 0 0 ++ block (s.inputs.guards.toList.any id) 2 (bits s.inputs.guards.toList) 0 ++
       block c.repeatFault 3 0 0 ++ block (c.slicerJam.a || c.slicerJam.b) 4 (bits [c.slicerJam.a, c.slicerJam.b]) 0 ++
       block (c.headJam.one.isSome || c.headJam.two.isSome) 5 (bits [c.headJam.one.isSome, c.headJam.two.isSome])
         (BitVec.ofNat 8 (jam c.headJam.one + 16 * jam c.headJam.two)) ++
       block (c.bagEmpty.one || c.bagEmpty.two) 6 (bits [c.bagEmpty.one, c.bagEmpty.two]) 0 ++ block c.commandHalt 7 0 0 ++
       block (empty .one || empty .two) 8 (bits [empty .one, empty .two]) 0 ++
       block (c.tieFault.one || c.tieFault.two) 9 (bits [c.tieFault.one, c.tieFault.two]) 0 ++
       block (c.watchStop.toList.any id) 10 (bits c.watchStop.toList) 0 ++ block c.commandStop 11 0 0
     let latched := match s.line.latched with
       | none => [0, 0, 0]
       | some x => match x with
         | .eStop => [1, 0, 0]
         | .guardOpen g => [2, BitVec.ofNat 8 (2 ^ g.val), 0]
         | .repeatFault => [3, 0, 0]
         | .slicerJam l => [4, Lane.code l + 1, 0]
         | .headJam h st => [5, Head.code h, if h = .one then HeadStep.code st else 16 * HeadStep.code st]
         | .bagEmpty h => [6, Head.code h, 0]
         | .commandHalt => [7, 0, 0]
         | .clipEmpty h => [8, Head.code h, 0]
         | .tieFault h => [9, Head.code h, 0]
         | .watchStop e => [10, BitVec.ofNat 8 (2 ^ e.val), 0]
         | .commandStop => [11, 0, 0]
     let lane := fun (l : Lane) => [yes (decide ((s.lanes.get l).queue = [] ∧ (s.lanes.get l).window = .clear)), yes (s.conveyorRuns l)]
     s.causeList = BitVec.ofNat 8 blocks.length :: blocks.flatten ∧
     s.statusReport = LineState.code s.line.state :: (s.causeList ++ latched ++
       (match s.line.window with
         | none => [0xFF, 0xFF]
         | some left => b2 left) ++ lane .a ++ lane .b ++
       [yes (decide (s.heads.one.record ≠ none)), yes (decide (s.heads.two.record ≠ none)), yes s.inputs.eStop,
         bits s.inputs.guards.toList])) ∧
  (∀ (g : Fin 4) (s : State),
     (s.inputs.eStop = false → exec .eStopAsserted s =
       .next (State.finish s none ({ s with inputs := { s.inputs with eStop := true } }.raise .eStop))) ∧
     (s.inputs.guards[g] = false → exec (.guardOpens g) s =
       .next (State.finish s none ({ s with inputs := { s.inputs with guards := s.inputs.guards.set g true } }.raise (.guardOpen g)))) ∧
     exec .eStopReleased s = .next { s with inputs := { s.inputs with eStop := false } } ∧
     exec (.guardCloses g) s = .next { s with inputs := { s.inputs with guards := s.inputs.guards.set g false } } ∧
     exec .resumeWindowExpiry s = .next { s with line := { s.line with window := none } })

/-! ### Shift totals and the reads (chapters 2 and 10) -/

/-- Sections 2.4, 2.6, 6.1, 6.3, 10.1, 10.3, 10.4 and 11.3: CLOSE SHIFT and the automatic close at a full figure of an
admission or a removal; the reads of lanes, loaves and totals report the bytes of sections 11.5 and 11.6 and change nothing.
The removals at the reject gate and at discharge-clear are stated of their commands, the one of a line clear of the count of
one record alone (State.countCleared), not of CLEAR. At the reject gate the point moves a running belt's position (the
model's choice, entry 5), the event is taken once per record by the passed marks, the model's own (entry 6), and a diverter
pulse still running starts its 300 ms anew (the model's choice, entry 35); at discharge-clear a bag-feed pulse still running
is kept (the model's choice, entry 36). READ SNAPSHOT checks its part before whether a snapshot is held (the model's choice,
entry 17). -/
def Obligations.ShiftsCloseAndReadsReport : Prop :=
  (∀ (tag : Byte) (s : State), s.link.handled = none →
     let t := s.totals
     let new := if t.shift < 65535 then t.shift + 1 else 1
     let carried := Vector.ofFn fun p : Fin 16 => s.held.countP (fun r => decide (r.product = p))
     let closed := { s with totals :=
       { products := Vector.ofFn fun p : Fin 16 => ⟨0, carried[p], 0, 0, 0, 0, 0, 0, 0, 0, 0, 0, 0, 0⟩
         lanes := ⟨⟨0, 0, 0, 0⟩, ⟨0, 0, 0, 0⟩⟩, heads := ⟨⟨0, 0, 0, 0, 0, 0⟩, ⟨0, 0, 0, 0, 0, 0⟩⟩, shift := new
         snapshot := some ⟨t.shift, t.products, carried, t.lanes, t.heads, false⟩ } }
     Accepts (.closeShift tag) s (closed.notify (.shiftClosed t.shift new s.held.length false))
       (beBytes 2 t.shift ++ beBytes 2 new ++ (carried.toList.map (beBytes 1)).flatten) ∧
     (∀ p : ProductIx, t.products[p].admitted = 4294967295 →
       (s.countAdmitted p).totals.shift = new ∧ (s.countAdmitted p).totals.products[p].admitted = 1 ∧
       (s.countAdmitted p).totals.products[p].carriedIn = carried[p] ∧
       (s.countAdmitted p).totals.snapshot = some ⟨t.shift, t.products, carried, t.lanes, t.heads, true⟩)) ∧
  (∀ (l : Lane) (h : Head) (r : LoafRecord) (s : State),
     let t := s.totals
     let p := r.product
     let new := if t.shift < 65535 then t.shift + 1 else 1
     let carried := Vector.ofFn fun q : Fin 16 => s.held.countP (fun x => decide (x.product = q))
     let shut := { s with totals :=
       { products := Vector.ofFn fun q : Fin 16 => ⟨0, carried[q], 0, 0, 0, 0, 0, 0, 0, 0, 0, 0, 0, 0⟩
         lanes := ⟨⟨0, 0, 0, 0⟩, ⟨0, 0, 0, 0⟩⟩, heads := ⟨⟨0, 0, 0, 0, 0, 0⟩, ⟨0, 0, 0, 0, 0, 0⟩⟩, shift := new
         snapshot := some ⟨t.shift, t.products, carried, t.lanes, t.heads, true⟩ } }.notify
           (.shiftClosed t.shift new s.held.length true)
     let one := fun (b : Bool) => if b then 1 else 0
     let shows := fun (figures : ProductTotals) (u : State) =>
       { u with totals := { shut.totals with products := shut.totals.products.set p figures }, notices := shut.notices }
     let fresh : ProductTotals := ⟨0, carried[p], 0, 0, 0, 0, 0, 0, 0, 0, 0, 0, one r.marked, 0⟩
     let figure := fun (reason : Reason) => match reason with
       | .watch => t.products[p].rejWatch
       | .noPlan => t.products[p].rejNoPlan
       | .latePlan => t.products[p].rejLatePlan
       | .noSpan => t.products[p].rejNoSpan
       | .miscut => t.products[p].rejMiscut
       | .untied => t.products[p].rejUntied
     let rejected := fun (reason : Reason) => match reason with
       | .watch => { fresh with rejWatch := 1 }
       | .noPlan => { fresh with rejNoPlan := 1 }
       | .latePlan => { fresh with rejLatePlan := 1 }
       | .noSpan => { fresh with rejNoSpan := 1 }
       | .miscut => { fresh with rejMiscut := 1 }
       | .untied => { fresh with rejUntied := 1 }
     let bagged := { fresh with
       bagged := 1, baggedWhole := one (decide (r.plan.map Plan.outcome = some .noSpan))
       baggedUnchecked := one (decide (r.tie = some .unchecked)) }
     (r ∈ s.held → 1 ≤ carried[p]) ∧
     (t.products[p].cleared = 4294967295 → s.countCleared r = shows { fresh with cleared := 1 } s) ∧
     (∀ reason, figure reason = 4294967295 → r.disposition = some reason →
       s.countRejected r reason = shows (rejected reason) s ∧
       (s.queued l r.number = some r → s.conveyorRuns l = true → r.passed.bladeLine = true → r.passed.rejectGate = false →
         let q := s.lanes.get l
         let point := r.lead + BitVec.ofNat 32 q.geometry.dReject
         exec (.rejectGateArrival l r.number) s = .next (State.finish s none ((shows (rejected reason) { s with
           lanes := s.lanes.set l { q with
             position := if atOrBeyond q.position point then q.position else point, diverter := some 300
             queue := q.queue.filter (fun y => y.number != r.number) }
           slicers := s.slicers.set l ((s.slicers.get l).dropCuts r.number) }).report r .rejectGate none none)))) ∧
     (t.products[p].bagged = 4294967295 ∨
         (t.products[p].baggedWhole = 4294967295 ∧ r.plan.map Plan.outcome = some .noSpan) ∨
         (t.products[p].baggedUnchecked = 4294967295 ∧ r.tie = some .unchecked) →
       s.countBagged r = shows bagged s) ∧
     (let x := s.heads.get h
      let src := (s.router.pending.get h).getD (s.router.active.get h)
      let idle := { s with
        inputs := { s.inputs with heads := s.inputs.heads.set h { s.inputs.heads.get h with dischargeClear := true } }
        heads := s.heads.set h { x with step := .idle, record := none, direct := false, misses := 0, timer := none }
        router := { s.router with active := s.router.active.set h src, pending := s.router.pending.set h none
                                  idleOrder := s.router.idleOrder.filter (fun y => y != h) ++ [h] } }
      x.step = .discharging → x.record = some r → s.line.state ≠ .halted → (s.inputs.heads.get h).dischargeClear = false →
      let empties := s.router.pending.get h ≠ none ∧ src ≠ .none ∧ (s.tiers.get h).magazine = 0
      let answers := fun (figures : ProductTotals) =>
        let freed := (shows figures idle).report r .head (some h) r.tie
        exec (.dischargeClear h .rises) s = .next (State.finish s none
          (if empties then freed.raise (.clipEmpty h) else freed).attemptReleases)
      (∀ reason, r.disposition = some reason → figure reason = 4294967295 → answers (rejected reason)) ∧
      (r.disposition = none → t.products[p].bagged = 4294967295 ∨
         (t.products[p].baggedWhole = 4294967295 ∧ r.plan.map Plan.outcome = some .noSpan) ∨
         (t.products[p].baggedUnchecked = 4294967295 ∧ r.tie = some .unchecked) → answers bagged))) ∧
  (∀ (tag b c : Byte) (l : Lane) (n : Half) (p : ProductIx) (s : State), s.link.handled = none →
     (b = Lane.code l → c.toNat ≤ 23 → (s.laneHeader l).length = 17 ∧
       Accepts (.readQueue tag b c) s s
         (s.laneHeader l ++ ((((s.lanes.get l).queue.drop c.toNat).take 6).map LoafRecord.bytes).flatten)) ∧
     (∀ r, s.findRecord n.toNat = some r → n ≠ 0 → r.block.length = 24 ∧ ∃ place,
       Accepts (.readLoaf tag n) s s (place ++ r.block ++ (match r.plan with
         | none => [0]
         | some x => 1 :: x.block)) ∧
       let absent := fun (q : List LoafRecord) => ∀ x ∈ q, x.number ≠ n.toNat
       let stands := fun (q ahead : List LoafRecord) => absent ahead ∧ ∃ behind, q = ahead ++ r :: behind
       ((∃ ahead, stands s.lanes.a.queue ahead ∧ place = [0, BitVec.ofNat 8 ahead.length]) ∨
         (absent s.lanes.a.queue ∧ ∃ ahead, stands s.lanes.b.queue ahead ∧ place = [1, BitVec.ofNat 8 ahead.length]) ∨
         (absent s.lanes.a.queue ∧ absent s.lanes.b.queue ∧ s.heads.one.record = some r ∧ place = [2, 0]) ∨
         (absent s.lanes.a.queue ∧ absent s.lanes.b.queue ∧ (∀ x, s.heads.one.record = some x → x.number ≠ n.toNat) ∧
           s.heads.two.record = some r ∧ place = [3, 0]))) ∧
     (b = Lane.code l → 23 < c.toNat → Rejects (.readQueue tag b c) s .badValue []) ∧
     (1 < b.toNat → Rejects (.readQueue tag b c) s .badValue []) ∧
     Rejects (.readLoaf tag 0) s .badValue [] ∧
     (n ≠ 0 → s.findRecord n.toNat = none → Rejects (.readLoaf tag n) s .notPresent []) ∧
     (b.toNat = p.val → Accepts (.readTotals tag b) s s (beBytes 2 s.totals.shift ++
       ((fourFrom p).map fun q => s.totals.products[q].block q.val (s.inFlight q)).flatten)) ∧
     Accepts (.readLaneTotals tag) s s (beBytes 2 s.totals.shift ++ s.totals.lanes.a.block ++ s.totals.lanes.b.block ++
       s.totals.heads.one.block ++ s.totals.heads.two.block) ∧
     (∀ x, s.totals.snapshot = some x →
       (b.toNat = p.val → Accepts (.readSnapshot tag b) s s (beBytes 2 x.shift ++ [boolCode x.automatic] ++
         ((fourFrom p).map fun q => x.products[q].block q.val x.carriedOut[q]).flatten)) ∧
       Accepts (.readSnapshot tag 0xFF) s s (beBytes 2 x.shift ++ [boolCode x.automatic] ++ (x.lanes.a.block ++ x.lanes.b.block ++
         x.heads.one.block ++ x.heads.two.block))) ∧
     (s.totals.snapshot = none → b.toNat ≤ 15 ∨ b = 0xFF → Rejects (.readSnapshot tag b) s .notPresent []) ∧
     (15 < b.toNat → Rejects (.readTotals tag b) s .badValue [] ∧ (b ≠ 0xFF → Rejects (.readSnapshot tag b) s .badValue []))) ∧
  (∀ p : ProductIx, (∀ q : ProductIx, q ∈ fourFrom p ↔ p.val ≤ q.val ∧ q.val < p.val + 4) ∧
     (fourFrom p).Pairwise (fun a b => a.val < b.val) ∧ (fourFrom p).length = min 4 (16 - p.val)) ∧
  ((∀ (l : Lane) (s : State),
     let q := s.lanes.get l
     let h := s.holdSources l
     let b2 := fun (n : Nat) => [BitVec.ofNat 8 (n / 256), BitVec.ofNat 8 n]
     let b4 := fun (n : Nat) =>
       [BitVec.ofNat 8 (n / 16777216), BitVec.ofNat 8 (n / 65536), BitVec.ofNat 8 (n / 256), BitVec.ofNat 8 n]
     let yes := fun (b : Bool) => if b then (1 : Byte) else 0
     let bits := fun (places : List Bool) => BitVec.ofNat 8 (places.foldr (fun b n => (if b then 1 else 0) + 2 * n) 0)
     s.laneHeader l = b4 q.position.toNat ++ [BitVec.ofNat 8 q.queue.length] ++
       (match q.window with
         | .clear => [0, 0, 0, 0, 0, 0xFF]
         | .span lead _ product => [1] ++ b4 lead.toNat ++ [productCode product]
         | .void => [2, 0, 0, 0, 0, 0xFF]) ++
       [BitVec.ofNat 8 (q.queue.countP fun r => decide (r.stage = .waiting))] ++
       (match q.gateHeld with
         | none => [0, 0]
         | some n => b2 n) ++
       [yes (decide (q.gateHeld ≠ none)), bits [h.line, h.product, h.fill, h.laneHold, h.crumb], yes q.holdInEffect]) ∧
   (∀ r : LoafRecord,
     let b2 := fun (n : Nat) => [BitVec.ofNat 8 (n / 256), BitVec.ofNat 8 n]
     let b4 := fun (n : Nat) =>
       [BitVec.ofNat 8 (n / 16777216), BitVec.ofNat 8 (n / 65536), BitVec.ofNat 8 (n / 256), BitVec.ofNat 8 n]
     let yes := fun (b : Bool) => if b then (1 : Byte) else 0
     let bits := fun (places : List Bool) => BitVec.ofNat 8 (places.foldr (fun b n => (if b then 1 else 0) + 2 * n) 0)
     let f := r.flags
     let plan := match r.plan with
       | none => [0xFF, 0xFF]
       | some x => [PlanOutcome.code x.outcome, BitVec.ofNat 8 x.slices]
     r.bytes = b2 r.number ++ [BitVec.ofNat 8 r.product.val] ++ b4 r.lead.toNat ++ b2 r.length ++ b2 r.height ++ b2 r.gapBefore ++
       [bits [f.closeGap, f.overlong, f.lateCut, f.miscut, f.uncheckedTie], Stage.code r.stage] ++ plan ++
       [BitVec.ofNat 8 r.cutsDone, dispositionCode r.disposition, yes r.marked] ∧
     r.block = r.bytes ++ [Lane.code r.lane, headCode r.head, tieResultCode r.tie, bits r.hits.toList]) ∧
   (∀ (index last : Nat) (t : ProductTotals) (x : LaneTotals) (y : HeadTotals),
     let b4 := fun (n : Nat) =>
       [BitVec.ofNat 8 (n / 16777216), BitVec.ofNat 8 (n / 65536), BitVec.ofNat 8 (n / 256), BitVec.ofNat 8 n]
     t.block index last = [BitVec.ofNat 8 index] ++ b4 t.admitted ++ b4 t.carriedIn ++ b4 t.bagged ++ b4 t.baggedWhole ++
       b4 t.baggedUnchecked ++ b4 t.rejWatch ++ b4 t.rejNoPlan ++ b4 t.rejLatePlan ++ b4 t.rejNoSpan ++ b4 t.rejMiscut ++
       b4 t.rejUntied ++ b4 t.cleared ++ b4 t.marked ++ b4 t.slices ++ [BitVec.ofNat 8 last] ∧
     x.block = b4 x.debris ++ b4 x.purges ++
       ([BitVec.ofNat 8 (x.crumb / 1099511627776), BitVec.ofNat 8 (x.crumb / 4294967296)] ++ b4 x.crumb) ++ b4 x.lateCuts ∧
     y.block = b4 y.good ++ b4 y.unchecked ++ b4 y.mismatch ++ b4 y.noClip ++ b4 y.clipsUsed ++ b4 y.bagMisses))
end

