-- ==== Sys2Proof/Laws/State.lean ====
section
/-! SUPPORT. The small lemmas of State: reading a lane's or head's value after a write, one lemma per field for each update
of one field, and the print line, edges and the transmit pair. -/

namespace Sys2Proof.Machine

/-! ### Values per lane and per head -/

@[simp] theorem PerLane.get_set {α : Type} (p : PerLane α) (l : Lane) (x : α) : (p.set l x).get l = x := by cases l <;> rfl
@[simp] theorem PerHead.get_set {α : Type} (p : PerHead α) (h : Head) (x : α) : (p.set h x).get h = x := by cases h <;> rfl

theorem PerLane.get_set_ne {α : Type} (p : PerLane α) {l k : Lane} (x : α) (hk : k ≠ l) : (p.set l x).get k = p.get k := by
  cases l <;> cases k <;> simp_all [PerLane.set, PerLane.get]

theorem PerHead.get_set_ne {α : Type} (p : PerHead α) {h k : Head} (x : α) (hk : k ≠ h) : (p.set h x).get k = p.get k := by
  cases h <;> cases k <;> simp_all [PerHead.set, PerHead.get]

@[simp] theorem PerLane.set_get {α : Type} (p : PerLane α) (l : Lane) : p.set l (p.get l) = p := by cases l <;> rfl
@[simp] theorem PerHead.set_get {α : Type} (p : PerHead α) (h : Head) : p.set h (p.get h) = p := by cases h <;> rfl

@[simp] theorem PerLane.set_set {α : Type} (p : PerLane α) (l : Lane) (x y : α) : (p.set l x).set l y = p.set l y := by cases l <;> rfl
@[simp] theorem PerHead.set_set {α : Type} (p : PerHead α) (h : Head) (x y : α) : (p.set h x).set h y = p.set h y := by cases h <;> rfl

@[simp] theorem otherLane_ne (l : Lane) : otherLane l ≠ l := by cases l <;> simp [otherLane]
@[simp] theorem otherLane_otherLane (l : Lane) : otherLane (otherLane l) = l := by cases l <;> rfl

/-! ### One field after one update -/

section
variable (l : Lane) (f : LaneState → LaneState) (s : State)
@[simp] theorem State.modLane_pending : (s.modLane l f).pending = s.pending := rfl
@[simp] theorem State.modLane_products : (s.modLane l f).products = s.products := rfl
@[simp] theorem State.modLane_dayCodes : (s.modLane l f).dayCodes = s.dayCodes := rfl
@[simp] theorem State.modLane_assign : (s.modLane l f).assign = s.assign := rfl
@[simp] theorem State.modLane_lanes : (s.modLane l f).lanes = s.lanes.set l (f (s.lanes.get l)) := rfl
@[simp] theorem State.modLane_lastLoaf : (s.modLane l f).lastLoaf = s.lastLoaf := rfl
@[simp] theorem State.modLane_planner : (s.modLane l f).planner = s.planner := rfl
@[simp] theorem State.modLane_slicers : (s.modLane l f).slicers = s.slicers := rfl
@[simp] theorem State.modLane_watch : (s.modLane l f).watch = s.watch := rfl
@[simp] theorem State.modLane_router : (s.modLane l f).router = s.router := rfl
@[simp] theorem State.modLane_heads : (s.modLane l f).heads = s.heads := rfl
@[simp] theorem State.modLane_lineId : (s.modLane l f).lineId = s.lineId := rfl
@[simp] theorem State.modLane_tiers : (s.modLane l f).tiers = s.tiers := rfl
@[simp] theorem State.modLane_crumb : (s.modLane l f).crumb = s.crumb := rfl
@[simp] theorem State.modLane_air : (s.modLane l f).air = s.air := rfl
@[simp] theorem State.modLane_line : (s.modLane l f).line = s.line := rfl
@[simp] theorem State.modLane_totals : (s.modLane l f).totals = s.totals := rfl
@[simp] theorem State.modLane_notices : (s.modLane l f).notices = s.notices := rfl
@[simp] theorem State.modLane_link : (s.modLane l f).link = s.link := rfl
@[simp] theorem State.modLane_inputs : (s.modLane l f).inputs = s.inputs := rfl
end

section
variable (l : Lane) (f : Slicer → Slicer) (s : State)
@[simp] theorem State.modSlicer_pending : (s.modSlicer l f).pending = s.pending := rfl
@[simp] theorem State.modSlicer_products : (s.modSlicer l f).products = s.products := rfl
@[simp] theorem State.modSlicer_dayCodes : (s.modSlicer l f).dayCodes = s.dayCodes := rfl
@[simp] theorem State.modSlicer_assign : (s.modSlicer l f).assign = s.assign := rfl
@[simp] theorem State.modSlicer_lanes : (s.modSlicer l f).lanes = s.lanes := rfl
@[simp] theorem State.modSlicer_lastLoaf : (s.modSlicer l f).lastLoaf = s.lastLoaf := rfl
@[simp] theorem State.modSlicer_planner : (s.modSlicer l f).planner = s.planner := rfl
@[simp] theorem State.modSlicer_slicers : (s.modSlicer l f).slicers = s.slicers.set l (f (s.slicers.get l)) := rfl
@[simp] theorem State.modSlicer_watch : (s.modSlicer l f).watch = s.watch := rfl
@[simp] theorem State.modSlicer_router : (s.modSlicer l f).router = s.router := rfl
@[simp] theorem State.modSlicer_heads : (s.modSlicer l f).heads = s.heads := rfl
@[simp] theorem State.modSlicer_lineId : (s.modSlicer l f).lineId = s.lineId := rfl
@[simp] theorem State.modSlicer_tiers : (s.modSlicer l f).tiers = s.tiers := rfl
@[simp] theorem State.modSlicer_crumb : (s.modSlicer l f).crumb = s.crumb := rfl
@[simp] theorem State.modSlicer_air : (s.modSlicer l f).air = s.air := rfl
@[simp] theorem State.modSlicer_line : (s.modSlicer l f).line = s.line := rfl
@[simp] theorem State.modSlicer_totals : (s.modSlicer l f).totals = s.totals := rfl
@[simp] theorem State.modSlicer_notices : (s.modSlicer l f).notices = s.notices := rfl
@[simp] theorem State.modSlicer_link : (s.modSlicer l f).link = s.link := rfl
@[simp] theorem State.modSlicer_inputs : (s.modSlicer l f).inputs = s.inputs := rfl
end

section
variable (l : Lane) (f : Crumb → Crumb) (s : State)
@[simp] theorem State.modCrumb_pending : (s.modCrumb l f).pending = s.pending := rfl
@[simp] theorem State.modCrumb_products : (s.modCrumb l f).products = s.products := rfl
@[simp] theorem State.modCrumb_dayCodes : (s.modCrumb l f).dayCodes = s.dayCodes := rfl
@[simp] theorem State.modCrumb_assign : (s.modCrumb l f).assign = s.assign := rfl
@[simp] theorem State.modCrumb_lanes : (s.modCrumb l f).lanes = s.lanes := rfl
@[simp] theorem State.modCrumb_lastLoaf : (s.modCrumb l f).lastLoaf = s.lastLoaf := rfl
@[simp] theorem State.modCrumb_planner : (s.modCrumb l f).planner = s.planner := rfl
@[simp] theorem State.modCrumb_slicers : (s.modCrumb l f).slicers = s.slicers := rfl
@[simp] theorem State.modCrumb_watch : (s.modCrumb l f).watch = s.watch := rfl
@[simp] theorem State.modCrumb_router : (s.modCrumb l f).router = s.router := rfl
@[simp] theorem State.modCrumb_heads : (s.modCrumb l f).heads = s.heads := rfl
@[simp] theorem State.modCrumb_lineId : (s.modCrumb l f).lineId = s.lineId := rfl
@[simp] theorem State.modCrumb_tiers : (s.modCrumb l f).tiers = s.tiers := rfl
@[simp] theorem State.modCrumb_crumb : (s.modCrumb l f).crumb = s.crumb.set l (f (s.crumb.get l)) := rfl
@[simp] theorem State.modCrumb_air : (s.modCrumb l f).air = s.air := rfl
@[simp] theorem State.modCrumb_line : (s.modCrumb l f).line = s.line := rfl
@[simp] theorem State.modCrumb_totals : (s.modCrumb l f).totals = s.totals := rfl
@[simp] theorem State.modCrumb_notices : (s.modCrumb l f).notices = s.notices := rfl
@[simp] theorem State.modCrumb_link : (s.modCrumb l f).link = s.link := rfl
@[simp] theorem State.modCrumb_inputs : (s.modCrumb l f).inputs = s.inputs := rfl
end

section
variable (l : Lane) (f : Assignment → Assignment) (s : State)
@[simp] theorem State.modAssign_pending : (s.modAssign l f).pending = s.pending := rfl
@[simp] theorem State.modAssign_products : (s.modAssign l f).products = s.products := rfl
@[simp] theorem State.modAssign_dayCodes : (s.modAssign l f).dayCodes = s.dayCodes := rfl
@[simp] theorem State.modAssign_assign : (s.modAssign l f).assign = s.assign.set l (f (s.assign.get l)) := rfl
@[simp] theorem State.modAssign_lanes : (s.modAssign l f).lanes = s.lanes := rfl
@[simp] theorem State.modAssign_lastLoaf : (s.modAssign l f).lastLoaf = s.lastLoaf := rfl
@[simp] theorem State.modAssign_planner : (s.modAssign l f).planner = s.planner := rfl
@[simp] theorem State.modAssign_slicers : (s.modAssign l f).slicers = s.slicers := rfl
@[simp] theorem State.modAssign_watch : (s.modAssign l f).watch = s.watch := rfl
@[simp] theorem State.modAssign_router : (s.modAssign l f).router = s.router := rfl
@[simp] theorem State.modAssign_heads : (s.modAssign l f).heads = s.heads := rfl
@[simp] theorem State.modAssign_lineId : (s.modAssign l f).lineId = s.lineId := rfl
@[simp] theorem State.modAssign_tiers : (s.modAssign l f).tiers = s.tiers := rfl
@[simp] theorem State.modAssign_crumb : (s.modAssign l f).crumb = s.crumb := rfl
@[simp] theorem State.modAssign_air : (s.modAssign l f).air = s.air := rfl
@[simp] theorem State.modAssign_line : (s.modAssign l f).line = s.line := rfl
@[simp] theorem State.modAssign_totals : (s.modAssign l f).totals = s.totals := rfl
@[simp] theorem State.modAssign_notices : (s.modAssign l f).notices = s.notices := rfl
@[simp] theorem State.modAssign_link : (s.modAssign l f).link = s.link := rfl
@[simp] theorem State.modAssign_inputs : (s.modAssign l f).inputs = s.inputs := rfl
end

section
variable (h : Head) (f : HeadState → HeadState) (s : State)
@[simp] theorem State.modHead_pending : (s.modHead h f).pending = s.pending := rfl
@[simp] theorem State.modHead_products : (s.modHead h f).products = s.products := rfl
@[simp] theorem State.modHead_dayCodes : (s.modHead h f).dayCodes = s.dayCodes := rfl
@[simp] theorem State.modHead_assign : (s.modHead h f).assign = s.assign := rfl
@[simp] theorem State.modHead_lanes : (s.modHead h f).lanes = s.lanes := rfl
@[simp] theorem State.modHead_lastLoaf : (s.modHead h f).lastLoaf = s.lastLoaf := rfl
@[simp] theorem State.modHead_planner : (s.modHead h f).planner = s.planner := rfl
@[simp] theorem State.modHead_slicers : (s.modHead h f).slicers = s.slicers := rfl
@[simp] theorem State.modHead_watch : (s.modHead h f).watch = s.watch := rfl
@[simp] theorem State.modHead_router : (s.modHead h f).router = s.router := rfl
@[simp] theorem State.modHead_heads : (s.modHead h f).heads = s.heads.set h (f (s.heads.get h)) := rfl
@[simp] theorem State.modHead_lineId : (s.modHead h f).lineId = s.lineId := rfl
@[simp] theorem State.modHead_tiers : (s.modHead h f).tiers = s.tiers := rfl
@[simp] theorem State.modHead_crumb : (s.modHead h f).crumb = s.crumb := rfl
@[simp] theorem State.modHead_air : (s.modHead h f).air = s.air := rfl
@[simp] theorem State.modHead_line : (s.modHead h f).line = s.line := rfl
@[simp] theorem State.modHead_totals : (s.modHead h f).totals = s.totals := rfl
@[simp] theorem State.modHead_notices : (s.modHead h f).notices = s.notices := rfl
@[simp] theorem State.modHead_link : (s.modHead h f).link = s.link := rfl
@[simp] theorem State.modHead_inputs : (s.modHead h f).inputs = s.inputs := rfl
end

section
variable (h : Head) (f : Tier → Tier) (s : State)
@[simp] theorem State.modTier_pending : (s.modTier h f).pending = s.pending := rfl
@[simp] theorem State.modTier_products : (s.modTier h f).products = s.products := rfl
@[simp] theorem State.modTier_dayCodes : (s.modTier h f).dayCodes = s.dayCodes := rfl
@[simp] theorem State.modTier_assign : (s.modTier h f).assign = s.assign := rfl
@[simp] theorem State.modTier_lanes : (s.modTier h f).lanes = s.lanes := rfl
@[simp] theorem State.modTier_lastLoaf : (s.modTier h f).lastLoaf = s.lastLoaf := rfl
@[simp] theorem State.modTier_planner : (s.modTier h f).planner = s.planner := rfl
@[simp] theorem State.modTier_slicers : (s.modTier h f).slicers = s.slicers := rfl
@[simp] theorem State.modTier_watch : (s.modTier h f).watch = s.watch := rfl
@[simp] theorem State.modTier_router : (s.modTier h f).router = s.router := rfl
@[simp] theorem State.modTier_heads : (s.modTier h f).heads = s.heads := rfl
@[simp] theorem State.modTier_lineId : (s.modTier h f).lineId = s.lineId := rfl
@[simp] theorem State.modTier_tiers : (s.modTier h f).tiers = s.tiers.set h (f (s.tiers.get h)) := rfl
@[simp] theorem State.modTier_crumb : (s.modTier h f).crumb = s.crumb := rfl
@[simp] theorem State.modTier_air : (s.modTier h f).air = s.air := rfl
@[simp] theorem State.modTier_line : (s.modTier h f).line = s.line := rfl
@[simp] theorem State.modTier_totals : (s.modTier h f).totals = s.totals := rfl
@[simp] theorem State.modTier_notices : (s.modTier h f).notices = s.notices := rfl
@[simp] theorem State.modTier_link : (s.modTier h f).link = s.link := rfl
@[simp] theorem State.modTier_inputs : (s.modTier h f).inputs = s.inputs := rfl
end

section
variable (l : Lane) (f : LaneTotals → LaneTotals) (s : State)
@[simp] theorem State.modLaneTotals_pending : (s.modLaneTotals l f).pending = s.pending := rfl
@[simp] theorem State.modLaneTotals_products : (s.modLaneTotals l f).products = s.products := rfl
@[simp] theorem State.modLaneTotals_dayCodes : (s.modLaneTotals l f).dayCodes = s.dayCodes := rfl
@[simp] theorem State.modLaneTotals_assign : (s.modLaneTotals l f).assign = s.assign := rfl
@[simp] theorem State.modLaneTotals_lanes : (s.modLaneTotals l f).lanes = s.lanes := rfl
@[simp] theorem State.modLaneTotals_lastLoaf : (s.modLaneTotals l f).lastLoaf = s.lastLoaf := rfl
@[simp] theorem State.modLaneTotals_planner : (s.modLaneTotals l f).planner = s.planner := rfl
@[simp] theorem State.modLaneTotals_slicers : (s.modLaneTotals l f).slicers = s.slicers := rfl
@[simp] theorem State.modLaneTotals_watch : (s.modLaneTotals l f).watch = s.watch := rfl
@[simp] theorem State.modLaneTotals_router : (s.modLaneTotals l f).router = s.router := rfl
@[simp] theorem State.modLaneTotals_heads : (s.modLaneTotals l f).heads = s.heads := rfl
@[simp] theorem State.modLaneTotals_lineId : (s.modLaneTotals l f).lineId = s.lineId := rfl
@[simp] theorem State.modLaneTotals_tiers : (s.modLaneTotals l f).tiers = s.tiers := rfl
@[simp] theorem State.modLaneTotals_crumb : (s.modLaneTotals l f).crumb = s.crumb := rfl
@[simp] theorem State.modLaneTotals_air : (s.modLaneTotals l f).air = s.air := rfl
@[simp] theorem State.modLaneTotals_line : (s.modLaneTotals l f).line = s.line := rfl
@[simp] theorem State.modLaneTotals_totals : (s.modLaneTotals l f).totals = { s.totals with lanes := s.totals.lanes.set l (f (s.totals.lanes.get l)) } := rfl
@[simp] theorem State.modLaneTotals_notices : (s.modLaneTotals l f).notices = s.notices := rfl
@[simp] theorem State.modLaneTotals_link : (s.modLaneTotals l f).link = s.link := rfl
@[simp] theorem State.modLaneTotals_inputs : (s.modLaneTotals l f).inputs = s.inputs := rfl
end

section
variable (h : Head) (f : HeadTotals → HeadTotals) (s : State)
@[simp] theorem State.modHeadTotals_pending : (s.modHeadTotals h f).pending = s.pending := rfl
@[simp] theorem State.modHeadTotals_products : (s.modHeadTotals h f).products = s.products := rfl
@[simp] theorem State.modHeadTotals_dayCodes : (s.modHeadTotals h f).dayCodes = s.dayCodes := rfl
@[simp] theorem State.modHeadTotals_assign : (s.modHeadTotals h f).assign = s.assign := rfl
@[simp] theorem State.modHeadTotals_lanes : (s.modHeadTotals h f).lanes = s.lanes := rfl
@[simp] theorem State.modHeadTotals_lastLoaf : (s.modHeadTotals h f).lastLoaf = s.lastLoaf := rfl
@[simp] theorem State.modHeadTotals_planner : (s.modHeadTotals h f).planner = s.planner := rfl
@[simp] theorem State.modHeadTotals_slicers : (s.modHeadTotals h f).slicers = s.slicers := rfl
@[simp] theorem State.modHeadTotals_watch : (s.modHeadTotals h f).watch = s.watch := rfl
@[simp] theorem State.modHeadTotals_router : (s.modHeadTotals h f).router = s.router := rfl
@[simp] theorem State.modHeadTotals_heads : (s.modHeadTotals h f).heads = s.heads := rfl
@[simp] theorem State.modHeadTotals_lineId : (s.modHeadTotals h f).lineId = s.lineId := rfl
@[simp] theorem State.modHeadTotals_tiers : (s.modHeadTotals h f).tiers = s.tiers := rfl
@[simp] theorem State.modHeadTotals_crumb : (s.modHeadTotals h f).crumb = s.crumb := rfl
@[simp] theorem State.modHeadTotals_air : (s.modHeadTotals h f).air = s.air := rfl
@[simp] theorem State.modHeadTotals_line : (s.modHeadTotals h f).line = s.line := rfl
@[simp] theorem State.modHeadTotals_totals : (s.modHeadTotals h f).totals = { s.totals with heads := s.totals.heads.set h (f (s.totals.heads.get h)) } := rfl
@[simp] theorem State.modHeadTotals_notices : (s.modHeadTotals h f).notices = s.notices := rfl
@[simp] theorem State.modHeadTotals_link : (s.modHeadTotals h f).link = s.link := rfl
@[simp] theorem State.modHeadTotals_inputs : (s.modHeadTotals h f).inputs = s.inputs := rfl
end

section
variable (p : ProductIx) (f : ProductTotals → ProductTotals) (s : State)
@[simp] theorem State.modProductTotals_pending : (s.modProductTotals p f).pending = s.pending := rfl
@[simp] theorem State.modProductTotals_products : (s.modProductTotals p f).products = s.products := rfl
@[simp] theorem State.modProductTotals_dayCodes : (s.modProductTotals p f).dayCodes = s.dayCodes := rfl
@[simp] theorem State.modProductTotals_assign : (s.modProductTotals p f).assign = s.assign := rfl
@[simp] theorem State.modProductTotals_lanes : (s.modProductTotals p f).lanes = s.lanes := rfl
@[simp] theorem State.modProductTotals_lastLoaf : (s.modProductTotals p f).lastLoaf = s.lastLoaf := rfl
@[simp] theorem State.modProductTotals_planner : (s.modProductTotals p f).planner = s.planner := rfl
@[simp] theorem State.modProductTotals_slicers : (s.modProductTotals p f).slicers = s.slicers := rfl
@[simp] theorem State.modProductTotals_watch : (s.modProductTotals p f).watch = s.watch := rfl
@[simp] theorem State.modProductTotals_router : (s.modProductTotals p f).router = s.router := rfl
@[simp] theorem State.modProductTotals_heads : (s.modProductTotals p f).heads = s.heads := rfl
@[simp] theorem State.modProductTotals_lineId : (s.modProductTotals p f).lineId = s.lineId := rfl
@[simp] theorem State.modProductTotals_tiers : (s.modProductTotals p f).tiers = s.tiers := rfl
@[simp] theorem State.modProductTotals_crumb : (s.modProductTotals p f).crumb = s.crumb := rfl
@[simp] theorem State.modProductTotals_air : (s.modProductTotals p f).air = s.air := rfl
@[simp] theorem State.modProductTotals_line : (s.modProductTotals p f).line = s.line := rfl
@[simp] theorem State.modProductTotals_totals : (s.modProductTotals p f).totals = { s.totals with products := s.totals.products.set p (f s.totals.products[p]) } := rfl
@[simp] theorem State.modProductTotals_notices : (s.modProductTotals p f).notices = s.notices := rfl
@[simp] theorem State.modProductTotals_link : (s.modProductTotals p f).link = s.link := rfl
@[simp] theorem State.modProductTotals_inputs : (s.modProductTotals p f).inputs = s.inputs := rfl
end

section
variable (n : Notice) (s : State)
@[simp] theorem State.notify_pending : (s.notify n).pending = s.pending := rfl
@[simp] theorem State.notify_products : (s.notify n).products = s.products := rfl
@[simp] theorem State.notify_dayCodes : (s.notify n).dayCodes = s.dayCodes := rfl
@[simp] theorem State.notify_assign : (s.notify n).assign = s.assign := rfl
@[simp] theorem State.notify_lanes : (s.notify n).lanes = s.lanes := rfl
@[simp] theorem State.notify_lastLoaf : (s.notify n).lastLoaf = s.lastLoaf := rfl
@[simp] theorem State.notify_planner : (s.notify n).planner = s.planner := rfl
@[simp] theorem State.notify_slicers : (s.notify n).slicers = s.slicers := rfl
@[simp] theorem State.notify_watch : (s.notify n).watch = s.watch := rfl
@[simp] theorem State.notify_router : (s.notify n).router = s.router := rfl
@[simp] theorem State.notify_heads : (s.notify n).heads = s.heads := rfl
@[simp] theorem State.notify_lineId : (s.notify n).lineId = s.lineId := rfl
@[simp] theorem State.notify_tiers : (s.notify n).tiers = s.tiers := rfl
@[simp] theorem State.notify_crumb : (s.notify n).crumb = s.crumb := rfl
@[simp] theorem State.notify_air : (s.notify n).air = s.air := rfl
@[simp] theorem State.notify_line : (s.notify n).line = s.line := rfl
@[simp] theorem State.notify_totals : (s.notify n).totals = s.totals := rfl
@[simp] theorem State.notify_notices : (s.notify n).notices = s.notices.place n := rfl
@[simp] theorem State.notify_link : (s.notify n).link = s.link := rfl
@[simp] theorem State.notify_inputs : (s.notify n).inputs = s.inputs := rfl
end

section
variable (l : Lane) (n : Nat) (s : State)
@[simp] theorem State.dequeue_pending : (s.dequeue l n).pending = s.pending := rfl
@[simp] theorem State.dequeue_products : (s.dequeue l n).products = s.products := rfl
@[simp] theorem State.dequeue_dayCodes : (s.dequeue l n).dayCodes = s.dayCodes := rfl
@[simp] theorem State.dequeue_assign : (s.dequeue l n).assign = s.assign := rfl
@[simp] theorem State.dequeue_lanes : (s.dequeue l n).lanes = s.lanes.set l { s.lanes.get l with queue := (s.lanes.get l).queue.filter (fun r => r.number != n) } := rfl
@[simp] theorem State.dequeue_lastLoaf : (s.dequeue l n).lastLoaf = s.lastLoaf := rfl
@[simp] theorem State.dequeue_planner : (s.dequeue l n).planner = s.planner := rfl
@[simp] theorem State.dequeue_slicers : (s.dequeue l n).slicers = s.slicers := rfl
@[simp] theorem State.dequeue_watch : (s.dequeue l n).watch = s.watch := rfl
@[simp] theorem State.dequeue_router : (s.dequeue l n).router = s.router := rfl
@[simp] theorem State.dequeue_heads : (s.dequeue l n).heads = s.heads := rfl
@[simp] theorem State.dequeue_lineId : (s.dequeue l n).lineId = s.lineId := rfl
@[simp] theorem State.dequeue_tiers : (s.dequeue l n).tiers = s.tiers := rfl
@[simp] theorem State.dequeue_crumb : (s.dequeue l n).crumb = s.crumb := rfl
@[simp] theorem State.dequeue_air : (s.dequeue l n).air = s.air := rfl
@[simp] theorem State.dequeue_line : (s.dequeue l n).line = s.line := rfl
@[simp] theorem State.dequeue_totals : (s.dequeue l n).totals = s.totals := rfl
@[simp] theorem State.dequeue_notices : (s.dequeue l n).notices = s.notices := rfl
@[simp] theorem State.dequeue_link : (s.dequeue l n).link = s.link := rfl
@[simp] theorem State.dequeue_inputs : (s.dequeue l n).inputs = s.inputs := rfl
end

section
variable (p : ProductIx) (e : Option ProductEntry) (s : State)
@[simp] theorem State.setEntry_pending : (s.setEntry p e).pending = s.pending := rfl
@[simp] theorem State.setEntry_products : (s.setEntry p e).products = s.products.set p e := rfl
@[simp] theorem State.setEntry_dayCodes : (s.setEntry p e).dayCodes = s.dayCodes := rfl
@[simp] theorem State.setEntry_assign : (s.setEntry p e).assign = s.assign := rfl
@[simp] theorem State.setEntry_lanes : (s.setEntry p e).lanes = s.lanes := rfl
@[simp] theorem State.setEntry_lastLoaf : (s.setEntry p e).lastLoaf = s.lastLoaf := rfl
@[simp] theorem State.setEntry_planner : (s.setEntry p e).planner = s.planner := rfl
@[simp] theorem State.setEntry_slicers : (s.setEntry p e).slicers = s.slicers := rfl
@[simp] theorem State.setEntry_watch : (s.setEntry p e).watch = s.watch := rfl
@[simp] theorem State.setEntry_router : (s.setEntry p e).router = s.router := rfl
@[simp] theorem State.setEntry_heads : (s.setEntry p e).heads = s.heads := rfl
@[simp] theorem State.setEntry_lineId : (s.setEntry p e).lineId = s.lineId := rfl
@[simp] theorem State.setEntry_tiers : (s.setEntry p e).tiers = s.tiers := rfl
@[simp] theorem State.setEntry_crumb : (s.setEntry p e).crumb = s.crumb := rfl
@[simp] theorem State.setEntry_air : (s.setEntry p e).air = s.air := rfl
@[simp] theorem State.setEntry_line : (s.setEntry p e).line = s.line := rfl
@[simp] theorem State.setEntry_totals : (s.setEntry p e).totals = s.totals := rfl
@[simp] theorem State.setEntry_notices : (s.setEntry p e).notices = s.notices := rfl
@[simp] theorem State.setEntry_link : (s.setEntry p e).link = s.link := rfl
@[simp] theorem State.setEntry_inputs : (s.setEntry p e).inputs = s.inputs := rfl
end

section
variable (p : ProductIx) (v : Option Half) (s : State)
@[simp] theorem State.setExpected_pending : (s.setExpected p v).pending = s.pending := rfl
@[simp] theorem State.setExpected_products : (s.setExpected p v).products = s.products.set p ((s.products[p]).map fun e => { e with signature := v }) := rfl
@[simp] theorem State.setExpected_dayCodes : (s.setExpected p v).dayCodes = s.dayCodes := rfl
@[simp] theorem State.setExpected_assign : (s.setExpected p v).assign = s.assign := rfl
@[simp] theorem State.setExpected_lanes : (s.setExpected p v).lanes = s.lanes := rfl
@[simp] theorem State.setExpected_lastLoaf : (s.setExpected p v).lastLoaf = s.lastLoaf := rfl
@[simp] theorem State.setExpected_planner : (s.setExpected p v).planner = s.planner := rfl
@[simp] theorem State.setExpected_slicers : (s.setExpected p v).slicers = s.slicers := rfl
@[simp] theorem State.setExpected_watch : (s.setExpected p v).watch = s.watch := rfl
@[simp] theorem State.setExpected_router : (s.setExpected p v).router = s.router := rfl
@[simp] theorem State.setExpected_heads : (s.setExpected p v).heads = s.heads := rfl
@[simp] theorem State.setExpected_lineId : (s.setExpected p v).lineId = s.lineId := rfl
@[simp] theorem State.setExpected_tiers : (s.setExpected p v).tiers = s.tiers := rfl
@[simp] theorem State.setExpected_crumb : (s.setExpected p v).crumb = s.crumb := rfl
@[simp] theorem State.setExpected_air : (s.setExpected p v).air = s.air := rfl
@[simp] theorem State.setExpected_line : (s.setExpected p v).line = s.line := rfl
@[simp] theorem State.setExpected_totals : (s.setExpected p v).totals = s.totals := rfl
@[simp] theorem State.setExpected_notices : (s.setExpected p v).notices = s.notices := rfl
@[simp] theorem State.setExpected_link : (s.setExpected p v).link = s.link := rfl
@[simp] theorem State.setExpected_inputs : (s.setExpected p v).inputs = s.inputs := rfl
end

section
variable (l : Lane) (b : BitVec 48) (s : State)
@[simp] theorem State.setCurtain_pending : (s.setCurtain l b).pending = s.pending := rfl
@[simp] theorem State.setCurtain_products : (s.setCurtain l b).products = s.products := rfl
@[simp] theorem State.setCurtain_dayCodes : (s.setCurtain l b).dayCodes = s.dayCodes := rfl
@[simp] theorem State.setCurtain_assign : (s.setCurtain l b).assign = s.assign := rfl
@[simp] theorem State.setCurtain_lanes : (s.setCurtain l b).lanes = s.lanes := rfl
@[simp] theorem State.setCurtain_lastLoaf : (s.setCurtain l b).lastLoaf = s.lastLoaf := rfl
@[simp] theorem State.setCurtain_planner : (s.setCurtain l b).planner = s.planner := rfl
@[simp] theorem State.setCurtain_slicers : (s.setCurtain l b).slicers = s.slicers := rfl
@[simp] theorem State.setCurtain_watch : (s.setCurtain l b).watch = s.watch := rfl
@[simp] theorem State.setCurtain_router : (s.setCurtain l b).router = s.router := rfl
@[simp] theorem State.setCurtain_heads : (s.setCurtain l b).heads = s.heads := rfl
@[simp] theorem State.setCurtain_lineId : (s.setCurtain l b).lineId = s.lineId := rfl
@[simp] theorem State.setCurtain_tiers : (s.setCurtain l b).tiers = s.tiers := rfl
@[simp] theorem State.setCurtain_crumb : (s.setCurtain l b).crumb = s.crumb := rfl
@[simp] theorem State.setCurtain_air : (s.setCurtain l b).air = s.air := rfl
@[simp] theorem State.setCurtain_line : (s.setCurtain l b).line = s.line := rfl
@[simp] theorem State.setCurtain_totals : (s.setCurtain l b).totals = s.totals := rfl
@[simp] theorem State.setCurtain_notices : (s.setCurtain l b).notices = s.notices := rfl
@[simp] theorem State.setCurtain_link : (s.setCurtain l b).link = s.link := rfl
@[simp] theorem State.setCurtain_inputs : (s.setCurtain l b).inputs = { s.inputs with curtain := s.inputs.curtain.set l b } := rfl
end

section
variable (l : Lane) (b : Bool) (s : State)
@[simp] theorem State.setBladeHome_pending : (s.setBladeHome l b).pending = s.pending := rfl
@[simp] theorem State.setBladeHome_products : (s.setBladeHome l b).products = s.products := rfl
@[simp] theorem State.setBladeHome_dayCodes : (s.setBladeHome l b).dayCodes = s.dayCodes := rfl
@[simp] theorem State.setBladeHome_assign : (s.setBladeHome l b).assign = s.assign := rfl
@[simp] theorem State.setBladeHome_lanes : (s.setBladeHome l b).lanes = s.lanes := rfl
@[simp] theorem State.setBladeHome_lastLoaf : (s.setBladeHome l b).lastLoaf = s.lastLoaf := rfl
@[simp] theorem State.setBladeHome_planner : (s.setBladeHome l b).planner = s.planner := rfl
@[simp] theorem State.setBladeHome_slicers : (s.setBladeHome l b).slicers = s.slicers := rfl
@[simp] theorem State.setBladeHome_watch : (s.setBladeHome l b).watch = s.watch := rfl
@[simp] theorem State.setBladeHome_router : (s.setBladeHome l b).router = s.router := rfl
@[simp] theorem State.setBladeHome_heads : (s.setBladeHome l b).heads = s.heads := rfl
@[simp] theorem State.setBladeHome_lineId : (s.setBladeHome l b).lineId = s.lineId := rfl
@[simp] theorem State.setBladeHome_tiers : (s.setBladeHome l b).tiers = s.tiers := rfl
@[simp] theorem State.setBladeHome_crumb : (s.setBladeHome l b).crumb = s.crumb := rfl
@[simp] theorem State.setBladeHome_air : (s.setBladeHome l b).air = s.air := rfl
@[simp] theorem State.setBladeHome_line : (s.setBladeHome l b).line = s.line := rfl
@[simp] theorem State.setBladeHome_totals : (s.setBladeHome l b).totals = s.totals := rfl
@[simp] theorem State.setBladeHome_notices : (s.setBladeHome l b).notices = s.notices := rfl
@[simp] theorem State.setBladeHome_link : (s.setBladeHome l b).link = s.link := rfl
@[simp] theorem State.setBladeHome_inputs : (s.setBladeHome l b).inputs = { s.inputs with bladeHome := s.inputs.bladeHome.set l b } := rfl
end

section
variable (h : Head) (f : HeadInputs → HeadInputs) (s : State)
@[simp] theorem State.setHeadInputs_pending : (s.setHeadInputs h f).pending = s.pending := rfl
@[simp] theorem State.setHeadInputs_products : (s.setHeadInputs h f).products = s.products := rfl
@[simp] theorem State.setHeadInputs_dayCodes : (s.setHeadInputs h f).dayCodes = s.dayCodes := rfl
@[simp] theorem State.setHeadInputs_assign : (s.setHeadInputs h f).assign = s.assign := rfl
@[simp] theorem State.setHeadInputs_lanes : (s.setHeadInputs h f).lanes = s.lanes := rfl
@[simp] theorem State.setHeadInputs_lastLoaf : (s.setHeadInputs h f).lastLoaf = s.lastLoaf := rfl
@[simp] theorem State.setHeadInputs_planner : (s.setHeadInputs h f).planner = s.planner := rfl
@[simp] theorem State.setHeadInputs_slicers : (s.setHeadInputs h f).slicers = s.slicers := rfl
@[simp] theorem State.setHeadInputs_watch : (s.setHeadInputs h f).watch = s.watch := rfl
@[simp] theorem State.setHeadInputs_router : (s.setHeadInputs h f).router = s.router := rfl
@[simp] theorem State.setHeadInputs_heads : (s.setHeadInputs h f).heads = s.heads := rfl
@[simp] theorem State.setHeadInputs_lineId : (s.setHeadInputs h f).lineId = s.lineId := rfl
@[simp] theorem State.setHeadInputs_tiers : (s.setHeadInputs h f).tiers = s.tiers := rfl
@[simp] theorem State.setHeadInputs_crumb : (s.setHeadInputs h f).crumb = s.crumb := rfl
@[simp] theorem State.setHeadInputs_air : (s.setHeadInputs h f).air = s.air := rfl
@[simp] theorem State.setHeadInputs_line : (s.setHeadInputs h f).line = s.line := rfl
@[simp] theorem State.setHeadInputs_totals : (s.setHeadInputs h f).totals = s.totals := rfl
@[simp] theorem State.setHeadInputs_notices : (s.setHeadInputs h f).notices = s.notices := rfl
@[simp] theorem State.setHeadInputs_link : (s.setHeadInputs h f).link = s.link := rfl
@[simp] theorem State.setHeadInputs_inputs : (s.setHeadInputs h f).inputs = { s.inputs with heads := s.inputs.heads.set h (f (s.inputs.heads.get h)) } := rfl
end

section
variable (h : Head) (f : TierInputs → TierInputs) (s : State)
@[simp] theorem State.setTierInputs_pending : (s.setTierInputs h f).pending = s.pending := rfl
@[simp] theorem State.setTierInputs_products : (s.setTierInputs h f).products = s.products := rfl
@[simp] theorem State.setTierInputs_dayCodes : (s.setTierInputs h f).dayCodes = s.dayCodes := rfl
@[simp] theorem State.setTierInputs_assign : (s.setTierInputs h f).assign = s.assign := rfl
@[simp] theorem State.setTierInputs_lanes : (s.setTierInputs h f).lanes = s.lanes := rfl
@[simp] theorem State.setTierInputs_lastLoaf : (s.setTierInputs h f).lastLoaf = s.lastLoaf := rfl
@[simp] theorem State.setTierInputs_planner : (s.setTierInputs h f).planner = s.planner := rfl
@[simp] theorem State.setTierInputs_slicers : (s.setTierInputs h f).slicers = s.slicers := rfl
@[simp] theorem State.setTierInputs_watch : (s.setTierInputs h f).watch = s.watch := rfl
@[simp] theorem State.setTierInputs_router : (s.setTierInputs h f).router = s.router := rfl
@[simp] theorem State.setTierInputs_heads : (s.setTierInputs h f).heads = s.heads := rfl
@[simp] theorem State.setTierInputs_lineId : (s.setTierInputs h f).lineId = s.lineId := rfl
@[simp] theorem State.setTierInputs_tiers : (s.setTierInputs h f).tiers = s.tiers := rfl
@[simp] theorem State.setTierInputs_crumb : (s.setTierInputs h f).crumb = s.crumb := rfl
@[simp] theorem State.setTierInputs_air : (s.setTierInputs h f).air = s.air := rfl
@[simp] theorem State.setTierInputs_line : (s.setTierInputs h f).line = s.line := rfl
@[simp] theorem State.setTierInputs_totals : (s.setTierInputs h f).totals = s.totals := rfl
@[simp] theorem State.setTierInputs_notices : (s.setTierInputs h f).notices = s.notices := rfl
@[simp] theorem State.setTierInputs_link : (s.setTierInputs h f).link = s.link := rfl
@[simp] theorem State.setTierInputs_inputs : (s.setTierInputs h f).inputs = { s.inputs with tiers := s.inputs.tiers.set h (f (s.inputs.tiers.get h)) } := rfl
end

section
variable (b : Bool) (s : State)
@[simp] theorem State.setEStop_pending : (s.setEStop b).pending = s.pending := rfl
@[simp] theorem State.setEStop_products : (s.setEStop b).products = s.products := rfl
@[simp] theorem State.setEStop_dayCodes : (s.setEStop b).dayCodes = s.dayCodes := rfl
@[simp] theorem State.setEStop_assign : (s.setEStop b).assign = s.assign := rfl
@[simp] theorem State.setEStop_lanes : (s.setEStop b).lanes = s.lanes := rfl
@[simp] theorem State.setEStop_lastLoaf : (s.setEStop b).lastLoaf = s.lastLoaf := rfl
@[simp] theorem State.setEStop_planner : (s.setEStop b).planner = s.planner := rfl
@[simp] theorem State.setEStop_slicers : (s.setEStop b).slicers = s.slicers := rfl
@[simp] theorem State.setEStop_watch : (s.setEStop b).watch = s.watch := rfl
@[simp] theorem State.setEStop_router : (s.setEStop b).router = s.router := rfl
@[simp] theorem State.setEStop_heads : (s.setEStop b).heads = s.heads := rfl
@[simp] theorem State.setEStop_lineId : (s.setEStop b).lineId = s.lineId := rfl
@[simp] theorem State.setEStop_tiers : (s.setEStop b).tiers = s.tiers := rfl
@[simp] theorem State.setEStop_crumb : (s.setEStop b).crumb = s.crumb := rfl
@[simp] theorem State.setEStop_air : (s.setEStop b).air = s.air := rfl
@[simp] theorem State.setEStop_line : (s.setEStop b).line = s.line := rfl
@[simp] theorem State.setEStop_totals : (s.setEStop b).totals = s.totals := rfl
@[simp] theorem State.setEStop_notices : (s.setEStop b).notices = s.notices := rfl
@[simp] theorem State.setEStop_link : (s.setEStop b).link = s.link := rfl
@[simp] theorem State.setEStop_inputs : (s.setEStop b).inputs = { s.inputs with eStop := b } := rfl
end

section
variable (g : Fin 4) (b : Bool) (s : State)
@[simp] theorem State.setGuard_pending : (s.setGuard g b).pending = s.pending := rfl
@[simp] theorem State.setGuard_products : (s.setGuard g b).products = s.products := rfl
@[simp] theorem State.setGuard_dayCodes : (s.setGuard g b).dayCodes = s.dayCodes := rfl
@[simp] theorem State.setGuard_assign : (s.setGuard g b).assign = s.assign := rfl
@[simp] theorem State.setGuard_lanes : (s.setGuard g b).lanes = s.lanes := rfl
@[simp] theorem State.setGuard_lastLoaf : (s.setGuard g b).lastLoaf = s.lastLoaf := rfl
@[simp] theorem State.setGuard_planner : (s.setGuard g b).planner = s.planner := rfl
@[simp] theorem State.setGuard_slicers : (s.setGuard g b).slicers = s.slicers := rfl
@[simp] theorem State.setGuard_watch : (s.setGuard g b).watch = s.watch := rfl
@[simp] theorem State.setGuard_router : (s.setGuard g b).router = s.router := rfl
@[simp] theorem State.setGuard_heads : (s.setGuard g b).heads = s.heads := rfl
@[simp] theorem State.setGuard_lineId : (s.setGuard g b).lineId = s.lineId := rfl
@[simp] theorem State.setGuard_tiers : (s.setGuard g b).tiers = s.tiers := rfl
@[simp] theorem State.setGuard_crumb : (s.setGuard g b).crumb = s.crumb := rfl
@[simp] theorem State.setGuard_air : (s.setGuard g b).air = s.air := rfl
@[simp] theorem State.setGuard_line : (s.setGuard g b).line = s.line := rfl
@[simp] theorem State.setGuard_totals : (s.setGuard g b).totals = s.totals := rfl
@[simp] theorem State.setGuard_notices : (s.setGuard g b).notices = s.notices := rfl
@[simp] theorem State.setGuard_link : (s.setGuard g b).link = s.link := rfl
@[simp] theorem State.setGuard_inputs : (s.setGuard g b).inputs = { s.inputs with guards := s.inputs.guards.set g b } := rfl
end

/-! ### The print line, edges and the transmit pair -/

section
variable (on : Bool) (c : ClipCode) (t : Tier)
@[simp] theorem Tier.print_magazine : (t.print on c).magazine = t.magazine := rfl
@[simp] theorem Tier.print_loaded : (t.print on c).loaded = t.loaded := rfl
@[simp] theorem Tier.print_used : (t.print on c).used = t.used := rfl
@[simp] theorem Tier.print_tie : (t.print on c).tie = t.tie := rfl
@[simp] theorem Tier.print_warmUp : (t.print on c).warmUp = t.warmUp := rfl
@[simp] theorem Tier.print_streak : (t.print on c).streak = t.streak := rfl
@[simp] theorem Tier.print_check : (t.print on c).check = t.check := rfl
@[simp] theorem Tier.print_learn : (t.print on c).learn = t.learn := rfl
@[simp] theorem Tier.print_lastProduct : (t.print on c).lastProduct = t.lastProduct := rfl
@[simp] theorem Tier.print_lastSignature : (t.print on c).lastSignature = t.lastSignature := rfl
@[simp] theorem Tier.print_lastCode : (t.print on c).lastCode = some c := rfl
@[simp] theorem Tier.print_printed : (t.print on c).printed = if on then t.printed ++ [c] else t.printed := rfl
end

@[simp] theorem becomesAsserted_falls (level : Bool) : becomesAsserted level .falls = false := rfl
@[simp] theorem becomesAsserted_rises (level : Bool) : becomesAsserted level .rises = !level := by cases level <;> rfl

theorem State.transmitOutput_of_reply {s : State} {h : Handled} {r : Frame} (hh : s.link.handled = some h) (hr : h.reply = some r) :
    s.transmitOutput = sentBytes r := by simp [State.transmitOutput, hh, hr]

theorem State.transmitOutput_of_no_reply {s : State} (h : s.link.handled.bind Handled.reply = none) : s.transmitOutput = [] := by
  simp [State.transmitOutput, h]

end Sys2Proof.Machine
end

