-- ==== Sys2Proof/Laws/Frames.lean ====
section
/-! SUPPORT. What each shared operation leaves unchanged: one lemma per operation, a conjunction over the fields of State it
never touches. -/

namespace Sys2Proof.Machine

/-- A view of the state that every turn of a fold keeps is kept by the fold. -/
theorem foldl_keeps {α β γ : Type} (view : β → γ) (f : β → α → β) (h : ∀ b a, view (f b a) = view b) :
    ∀ (l : List α) (b : β), view (l.foldl f b) = view b
  | [], _ => rfl
  | a :: l, b => (foldl_keeps view f h l (f b a)).trans (h b a)

@[simp] theorem formReply_frame (f : Frame) (code : ResultCode) (data : List Byte) (clearsLost : Bool) (s : State) :
    (State.formReply f code data clearsLost s).pending = s.pending ∧ (State.formReply f code data clearsLost s).products = s.products ∧ (State.formReply f code data clearsLost s).dayCodes = s.dayCodes ∧
    (State.formReply f code data clearsLost s).assign = s.assign ∧ (State.formReply f code data clearsLost s).lanes = s.lanes ∧ (State.formReply f code data clearsLost s).lastLoaf = s.lastLoaf ∧
    (State.formReply f code data clearsLost s).planner = s.planner ∧ (State.formReply f code data clearsLost s).slicers = s.slicers ∧ (State.formReply f code data clearsLost s).watch = s.watch ∧
    (State.formReply f code data clearsLost s).router = s.router ∧ (State.formReply f code data clearsLost s).heads = s.heads ∧ (State.formReply f code data clearsLost s).lineId = s.lineId ∧
    (State.formReply f code data clearsLost s).tiers = s.tiers ∧ (State.formReply f code data clearsLost s).crumb = s.crumb ∧ (State.formReply f code data clearsLost s).air = s.air ∧
    (State.formReply f code data clearsLost s).line = s.line ∧ (State.formReply f code data clearsLost s).totals = s.totals ∧ (State.formReply f code data clearsLost s).inputs = s.inputs := by
  simp [State.formReply]

@[simp] theorem updateRecord_frame (n : Nat) (f : LoafRecord → LoafRecord) (s : State) :
    (State.updateRecord n f s).pending = s.pending ∧ (State.updateRecord n f s).products = s.products ∧ (State.updateRecord n f s).dayCodes = s.dayCodes ∧
    (State.updateRecord n f s).assign = s.assign ∧ (State.updateRecord n f s).lastLoaf = s.lastLoaf ∧ (State.updateRecord n f s).planner = s.planner ∧
    (State.updateRecord n f s).slicers = s.slicers ∧ (State.updateRecord n f s).watch = s.watch ∧ (State.updateRecord n f s).router = s.router ∧
    (State.updateRecord n f s).lineId = s.lineId ∧ (State.updateRecord n f s).tiers = s.tiers ∧ (State.updateRecord n f s).crumb = s.crumb ∧
    (State.updateRecord n f s).air = s.air ∧ (State.updateRecord n f s).line = s.line ∧ (State.updateRecord n f s).totals = s.totals ∧
    (State.updateRecord n f s).notices = s.notices ∧ (State.updateRecord n f s).link = s.link ∧ (State.updateRecord n f s).inputs = s.inputs := by
  simp [State.updateRecord]

@[simp] theorem settleHold_frame (l : Lane) (s : State) :
    (State.settleHold l s).pending = s.pending ∧ (State.settleHold l s).products = s.products ∧ (State.settleHold l s).dayCodes = s.dayCodes ∧
    (State.settleHold l s).assign = s.assign ∧ (State.settleHold l s).lastLoaf = s.lastLoaf ∧ (State.settleHold l s).planner = s.planner ∧
    (State.settleHold l s).slicers = s.slicers ∧ (State.settleHold l s).watch = s.watch ∧ (State.settleHold l s).router = s.router ∧
    (State.settleHold l s).heads = s.heads ∧ (State.settleHold l s).lineId = s.lineId ∧ (State.settleHold l s).tiers = s.tiers ∧
    (State.settleHold l s).crumb = s.crumb ∧ (State.settleHold l s).air = s.air ∧ (State.settleHold l s).line = s.line ∧
    (State.settleHold l s).totals = s.totals ∧ (State.settleHold l s).notices = s.notices ∧ (State.settleHold l s).link = s.link ∧
    (State.settleHold l s).inputs = s.inputs := by
  simp [State.settleHold]

@[simp] theorem closeShift_frame (automatic : Bool) (s : State) :
    (State.closeShift automatic s).pending = s.pending ∧ (State.closeShift automatic s).products = s.products ∧ (State.closeShift automatic s).dayCodes = s.dayCodes ∧
    (State.closeShift automatic s).assign = s.assign ∧ (State.closeShift automatic s).lanes = s.lanes ∧ (State.closeShift automatic s).lastLoaf = s.lastLoaf ∧
    (State.closeShift automatic s).planner = s.planner ∧ (State.closeShift automatic s).slicers = s.slicers ∧ (State.closeShift automatic s).watch = s.watch ∧
    (State.closeShift automatic s).router = s.router ∧ (State.closeShift automatic s).heads = s.heads ∧ (State.closeShift automatic s).lineId = s.lineId ∧
    (State.closeShift automatic s).tiers = s.tiers ∧ (State.closeShift automatic s).crumb = s.crumb ∧ (State.closeShift automatic s).air = s.air ∧
    (State.closeShift automatic s).line = s.line ∧ (State.closeShift automatic s).link = s.link ∧ (State.closeShift automatic s).inputs = s.inputs := by
  simp [State.closeShift]

@[simp] theorem countLoaf_frame (p : ProductIx) (atLimit : ProductTotals → Bool) (bump : ProductTotals → ProductTotals) (s : State) :
    (State.countLoaf p atLimit bump s).pending = s.pending ∧ (State.countLoaf p atLimit bump s).products = s.products ∧ (State.countLoaf p atLimit bump s).dayCodes = s.dayCodes ∧
    (State.countLoaf p atLimit bump s).assign = s.assign ∧ (State.countLoaf p atLimit bump s).lanes = s.lanes ∧ (State.countLoaf p atLimit bump s).lastLoaf = s.lastLoaf ∧
    (State.countLoaf p atLimit bump s).planner = s.planner ∧ (State.countLoaf p atLimit bump s).slicers = s.slicers ∧ (State.countLoaf p atLimit bump s).watch = s.watch ∧
    (State.countLoaf p atLimit bump s).router = s.router ∧ (State.countLoaf p atLimit bump s).heads = s.heads ∧ (State.countLoaf p atLimit bump s).lineId = s.lineId ∧
    (State.countLoaf p atLimit bump s).tiers = s.tiers ∧ (State.countLoaf p atLimit bump s).crumb = s.crumb ∧ (State.countLoaf p atLimit bump s).air = s.air ∧
    (State.countLoaf p atLimit bump s).line = s.line ∧ (State.countLoaf p atLimit bump s).link = s.link ∧ (State.countLoaf p atLimit bump s).inputs = s.inputs := by
  unfold State.countLoaf
  (repeat' split) <;> simp

@[simp] theorem countAdmitted_frame (p : ProductIx) (s : State) :
    (State.countAdmitted p s).pending = s.pending ∧ (State.countAdmitted p s).products = s.products ∧ (State.countAdmitted p s).dayCodes = s.dayCodes ∧
    (State.countAdmitted p s).assign = s.assign ∧ (State.countAdmitted p s).lanes = s.lanes ∧ (State.countAdmitted p s).lastLoaf = s.lastLoaf ∧
    (State.countAdmitted p s).planner = s.planner ∧ (State.countAdmitted p s).slicers = s.slicers ∧ (State.countAdmitted p s).watch = s.watch ∧
    (State.countAdmitted p s).router = s.router ∧ (State.countAdmitted p s).heads = s.heads ∧ (State.countAdmitted p s).lineId = s.lineId ∧
    (State.countAdmitted p s).tiers = s.tiers ∧ (State.countAdmitted p s).crumb = s.crumb ∧ (State.countAdmitted p s).air = s.air ∧
    (State.countAdmitted p s).line = s.line ∧ (State.countAdmitted p s).link = s.link ∧ (State.countAdmitted p s).inputs = s.inputs := by
  simp [State.countAdmitted]

@[simp] theorem countRejected_frame (r : LoafRecord) (reason : Reason) (s : State) :
    (State.countRejected r reason s).pending = s.pending ∧ (State.countRejected r reason s).products = s.products ∧ (State.countRejected r reason s).dayCodes = s.dayCodes ∧
    (State.countRejected r reason s).assign = s.assign ∧ (State.countRejected r reason s).lanes = s.lanes ∧ (State.countRejected r reason s).lastLoaf = s.lastLoaf ∧
    (State.countRejected r reason s).planner = s.planner ∧ (State.countRejected r reason s).slicers = s.slicers ∧ (State.countRejected r reason s).watch = s.watch ∧
    (State.countRejected r reason s).router = s.router ∧ (State.countRejected r reason s).heads = s.heads ∧ (State.countRejected r reason s).lineId = s.lineId ∧
    (State.countRejected r reason s).tiers = s.tiers ∧ (State.countRejected r reason s).crumb = s.crumb ∧ (State.countRejected r reason s).air = s.air ∧
    (State.countRejected r reason s).line = s.line ∧ (State.countRejected r reason s).link = s.link ∧ (State.countRejected r reason s).inputs = s.inputs := by
  simp [State.countRejected]

@[simp] theorem countCleared_frame (r : LoafRecord) (s : State) :
    (State.countCleared r s).pending = s.pending ∧ (State.countCleared r s).products = s.products ∧ (State.countCleared r s).dayCodes = s.dayCodes ∧
    (State.countCleared r s).assign = s.assign ∧ (State.countCleared r s).lanes = s.lanes ∧ (State.countCleared r s).lastLoaf = s.lastLoaf ∧
    (State.countCleared r s).planner = s.planner ∧ (State.countCleared r s).slicers = s.slicers ∧ (State.countCleared r s).watch = s.watch ∧
    (State.countCleared r s).router = s.router ∧ (State.countCleared r s).heads = s.heads ∧ (State.countCleared r s).lineId = s.lineId ∧
    (State.countCleared r s).tiers = s.tiers ∧ (State.countCleared r s).crumb = s.crumb ∧ (State.countCleared r s).air = s.air ∧
    (State.countCleared r s).line = s.line ∧ (State.countCleared r s).link = s.link ∧ (State.countCleared r s).inputs = s.inputs := by
  simp [State.countCleared]

@[simp] theorem countBagged_frame (r : LoafRecord) (s : State) :
    (State.countBagged r s).pending = s.pending ∧ (State.countBagged r s).products = s.products ∧ (State.countBagged r s).dayCodes = s.dayCodes ∧
    (State.countBagged r s).assign = s.assign ∧ (State.countBagged r s).lanes = s.lanes ∧ (State.countBagged r s).lastLoaf = s.lastLoaf ∧
    (State.countBagged r s).planner = s.planner ∧ (State.countBagged r s).slicers = s.slicers ∧ (State.countBagged r s).watch = s.watch ∧
    (State.countBagged r s).router = s.router ∧ (State.countBagged r s).heads = s.heads ∧ (State.countBagged r s).lineId = s.lineId ∧
    (State.countBagged r s).tiers = s.tiers ∧ (State.countBagged r s).crumb = s.crumb ∧ (State.countBagged r s).air = s.air ∧
    (State.countBagged r s).line = s.line ∧ (State.countBagged r s).link = s.link ∧ (State.countBagged r s).inputs = s.inputs := by
  simp [State.countBagged]

@[simp] theorem report_frame (r : LoafRecord) (by' : LeftBy) (head : Option Head) (tie : Option TieResult) (s : State) :
    (State.report r by' head tie s).pending = s.pending ∧ (State.report r by' head tie s).products = s.products ∧ (State.report r by' head tie s).dayCodes = s.dayCodes ∧
    (State.report r by' head tie s).assign = s.assign ∧ (State.report r by' head tie s).lanes = s.lanes ∧ (State.report r by' head tie s).lastLoaf = s.lastLoaf ∧
    (State.report r by' head tie s).planner = s.planner ∧ (State.report r by' head tie s).slicers = s.slicers ∧ (State.report r by' head tie s).watch = s.watch ∧
    (State.report r by' head tie s).router = s.router ∧ (State.report r by' head tie s).heads = s.heads ∧ (State.report r by' head tie s).lineId = s.lineId ∧
    (State.report r by' head tie s).tiers = s.tiers ∧ (State.report r by' head tie s).crumb = s.crumb ∧ (State.report r by' head tie s).air = s.air ∧
    (State.report r by' head tie s).line = s.line ∧ (State.report r by' head tie s).totals = s.totals ∧ (State.report r by' head tie s).link = s.link ∧
    (State.report r by' head tie s).inputs = s.inputs := by
  unfold State.report
  (repeat' split) <;> simp

@[simp] theorem trySliced_frame (l : Lane) (n : Nat) (s : State) :
    (State.trySliced l n s).pending = s.pending ∧ (State.trySliced l n s).products = s.products ∧ (State.trySliced l n s).dayCodes = s.dayCodes ∧
    (State.trySliced l n s).assign = s.assign ∧ (State.trySliced l n s).lastLoaf = s.lastLoaf ∧ (State.trySliced l n s).planner = s.planner ∧
    (State.trySliced l n s).slicers = s.slicers ∧ (State.trySliced l n s).watch = s.watch ∧ (State.trySliced l n s).router = s.router ∧
    (State.trySliced l n s).lineId = s.lineId ∧ (State.trySliced l n s).tiers = s.tiers ∧ (State.trySliced l n s).crumb = s.crumb ∧
    (State.trySliced l n s).air = s.air ∧ (State.trySliced l n s).line = s.line ∧ (State.trySliced l n s).totals = s.totals ∧
    (State.trySliced l n s).notices = s.notices ∧ (State.trySliced l n s).link = s.link ∧ (State.trySliced l n s).inputs = s.inputs := by
  unfold State.trySliced
  (repeat' split) <;> simp

@[simp] theorem abandonLoaf_frame (l : Lane) (n : Nat) (s : State) :
    (State.abandonLoaf l n s).pending = s.pending ∧ (State.abandonLoaf l n s).products = s.products ∧ (State.abandonLoaf l n s).dayCodes = s.dayCodes ∧
    (State.abandonLoaf l n s).assign = s.assign ∧ (State.abandonLoaf l n s).lastLoaf = s.lastLoaf ∧ (State.abandonLoaf l n s).planner = s.planner ∧
    (State.abandonLoaf l n s).watch = s.watch ∧ (State.abandonLoaf l n s).router = s.router ∧ (State.abandonLoaf l n s).lineId = s.lineId ∧
    (State.abandonLoaf l n s).tiers = s.tiers ∧ (State.abandonLoaf l n s).crumb = s.crumb ∧ (State.abandonLoaf l n s).air = s.air ∧
    (State.abandonLoaf l n s).line = s.line ∧ (State.abandonLoaf l n s).totals = s.totals ∧ (State.abandonLoaf l n s).notices = s.notices ∧
    (State.abandonLoaf l n s).link = s.link ∧ (State.abandonLoaf l n s).inputs = s.inputs := by
  simp [State.abandonLoaf]

@[simp] theorem startStroke_frame (l : Lane) (c : Cut) (s : State) :
    (State.startStroke l c s).pending = s.pending ∧ (State.startStroke l c s).products = s.products ∧ (State.startStroke l c s).dayCodes = s.dayCodes ∧
    (State.startStroke l c s).assign = s.assign ∧ (State.startStroke l c s).lastLoaf = s.lastLoaf ∧ (State.startStroke l c s).planner = s.planner ∧
    (State.startStroke l c s).watch = s.watch ∧ (State.startStroke l c s).router = s.router ∧ (State.startStroke l c s).lineId = s.lineId ∧
    (State.startStroke l c s).tiers = s.tiers ∧ (State.startStroke l c s).crumb = s.crumb ∧ (State.startStroke l c s).air = s.air ∧
    (State.startStroke l c s).line = s.line ∧ (State.startStroke l c s).totals = s.totals ∧ (State.startStroke l c s).notices = s.notices ∧
    (State.startStroke l c s).link = s.link ∧ (State.startStroke l c s).inputs = s.inputs := by
  simp [State.startStroke]

@[simp] theorem freeBlade_frame (l : Lane) (s : State) :
    (State.freeBlade l s).pending = s.pending ∧ (State.freeBlade l s).products = s.products ∧ (State.freeBlade l s).dayCodes = s.dayCodes ∧
    (State.freeBlade l s).assign = s.assign ∧ (State.freeBlade l s).lastLoaf = s.lastLoaf ∧ (State.freeBlade l s).planner = s.planner ∧
    (State.freeBlade l s).watch = s.watch ∧ (State.freeBlade l s).router = s.router ∧ (State.freeBlade l s).lineId = s.lineId ∧
    (State.freeBlade l s).tiers = s.tiers ∧ (State.freeBlade l s).crumb = s.crumb ∧ (State.freeBlade l s).air = s.air ∧
    (State.freeBlade l s).line = s.line ∧ (State.freeBlade l s).totals = s.totals ∧ (State.freeBlade l s).notices = s.notices ∧
    (State.freeBlade l s).link = s.link ∧ (State.freeBlade l s).inputs = s.inputs := by
  unfold State.freeBlade
  (repeat' split) <;> simp

@[simp] theorem startHoming_frame (l : Lane) (s : State) :
    (State.startHoming l s).pending = s.pending ∧ (State.startHoming l s).products = s.products ∧ (State.startHoming l s).dayCodes = s.dayCodes ∧
    (State.startHoming l s).assign = s.assign ∧ (State.startHoming l s).lastLoaf = s.lastLoaf ∧ (State.startHoming l s).planner = s.planner ∧
    (State.startHoming l s).watch = s.watch ∧ (State.startHoming l s).router = s.router ∧ (State.startHoming l s).lineId = s.lineId ∧
    (State.startHoming l s).tiers = s.tiers ∧ (State.startHoming l s).crumb = s.crumb ∧ (State.startHoming l s).air = s.air ∧
    (State.startHoming l s).line = s.line ∧ (State.startHoming l s).totals = s.totals ∧ (State.startHoming l s).notices = s.notices ∧
    (State.startHoming l s).link = s.link ∧ (State.startHoming l s).inputs = s.inputs := by
  unfold State.startHoming
  (repeat' split) <;> simp

@[simp] theorem abandonStroke_frame (l : Lane) (s : State) :
    (State.abandonStroke l s).pending = s.pending ∧ (State.abandonStroke l s).products = s.products ∧ (State.abandonStroke l s).dayCodes = s.dayCodes ∧
    (State.abandonStroke l s).assign = s.assign ∧ (State.abandonStroke l s).lastLoaf = s.lastLoaf ∧ (State.abandonStroke l s).planner = s.planner ∧
    (State.abandonStroke l s).watch = s.watch ∧ (State.abandonStroke l s).router = s.router ∧ (State.abandonStroke l s).lineId = s.lineId ∧
    (State.abandonStroke l s).tiers = s.tiers ∧ (State.abandonStroke l s).crumb = s.crumb ∧ (State.abandonStroke l s).air = s.air ∧
    (State.abandonStroke l s).line = s.line ∧ (State.abandonStroke l s).totals = s.totals ∧ (State.abandonStroke l s).notices = s.notices ∧
    (State.abandonStroke l s).link = s.link ∧ (State.abandonStroke l s).inputs = s.inputs := by
  have h := foldl_keeps (fun (t : State) => (t.pending, t.products, t.dayCodes, t.assign, t.lastLoaf, t.planner, t.watch, t.router, t.lineId, t.tiers, t.crumb, t.air, t.line, t.totals, t.notices, t.link, t.inputs))
    (fun t n => t.abandonLoaf l n) (by simp) (s.slicers.get l).owners
    (s.modSlicer l fun sl => { sl with blade := sl.blade.abandoned, pending := none, timer := none })
  simpa [State.abandonStroke] using h

@[simp] theorem enterGapWait_frame (l : Lane) (s : State) :
    (State.enterGapWait l s).pending = s.pending ∧ (State.enterGapWait l s).products = s.products ∧ (State.enterGapWait l s).dayCodes = s.dayCodes ∧
    (State.enterGapWait l s).assign = s.assign ∧ (State.enterGapWait l s).lanes = s.lanes ∧ (State.enterGapWait l s).lastLoaf = s.lastLoaf ∧
    (State.enterGapWait l s).planner = s.planner ∧ (State.enterGapWait l s).slicers = s.slicers ∧ (State.enterGapWait l s).watch = s.watch ∧
    (State.enterGapWait l s).router = s.router ∧ (State.enterGapWait l s).heads = s.heads ∧ (State.enterGapWait l s).lineId = s.lineId ∧
    (State.enterGapWait l s).tiers = s.tiers ∧ (State.enterGapWait l s).line = s.line ∧ (State.enterGapWait l s).totals = s.totals ∧
    (State.enterGapWait l s).notices = s.notices ∧ (State.enterGapWait l s).link = s.link ∧ (State.enterGapWait l s).inputs = s.inputs := by
  simp [State.enterGapWait]

@[simp] theorem startTest_frame (l : Lane) (s : State) :
    (State.startTest l s).pending = s.pending ∧ (State.startTest l s).products = s.products ∧ (State.startTest l s).dayCodes = s.dayCodes ∧
    (State.startTest l s).assign = s.assign ∧ (State.startTest l s).lanes = s.lanes ∧ (State.startTest l s).lastLoaf = s.lastLoaf ∧
    (State.startTest l s).planner = s.planner ∧ (State.startTest l s).slicers = s.slicers ∧ (State.startTest l s).watch = s.watch ∧
    (State.startTest l s).router = s.router ∧ (State.startTest l s).heads = s.heads ∧ (State.startTest l s).lineId = s.lineId ∧
    (State.startTest l s).tiers = s.tiers ∧ (State.startTest l s).line = s.line ∧ (State.startTest l s).totals = s.totals ∧
    (State.startTest l s).notices = s.notices ∧ (State.startTest l s).link = s.link ∧ (State.startTest l s).inputs = s.inputs := by
  unfold State.startTest
  dsimp only
  (repeat' split) <;> simp

@[simp] theorem beginPurge_frame (l : Lane) (s : State) :
    (State.beginPurge l s).pending = s.pending ∧ (State.beginPurge l s).products = s.products ∧ (State.beginPurge l s).dayCodes = s.dayCodes ∧
    (State.beginPurge l s).assign = s.assign ∧ (State.beginPurge l s).lanes = s.lanes ∧ (State.beginPurge l s).lastLoaf = s.lastLoaf ∧
    (State.beginPurge l s).planner = s.planner ∧ (State.beginPurge l s).slicers = s.slicers ∧ (State.beginPurge l s).watch = s.watch ∧
    (State.beginPurge l s).router = s.router ∧ (State.beginPurge l s).heads = s.heads ∧ (State.beginPurge l s).lineId = s.lineId ∧
    (State.beginPurge l s).tiers = s.tiers ∧ (State.beginPurge l s).air = s.air ∧ (State.beginPurge l s).line = s.line ∧
    (State.beginPurge l s).totals = s.totals ∧ (State.beginPurge l s).notices = s.notices ∧ (State.beginPurge l s).link = s.link ∧
    (State.beginPurge l s).inputs = s.inputs := by
  unfold State.beginPurge
  (repeat' split) <;> simp

@[simp] theorem settlePurge_frame (l : Lane) (how : PurgeEnd) (s : State) :
    (State.settlePurge l how s).pending = s.pending ∧ (State.settlePurge l how s).products = s.products ∧ (State.settlePurge l how s).dayCodes = s.dayCodes ∧
    (State.settlePurge l how s).assign = s.assign ∧ (State.settlePurge l how s).lanes = s.lanes ∧ (State.settlePurge l how s).lastLoaf = s.lastLoaf ∧
    (State.settlePurge l how s).planner = s.planner ∧ (State.settlePurge l how s).slicers = s.slicers ∧ (State.settlePurge l how s).watch = s.watch ∧
    (State.settlePurge l how s).router = s.router ∧ (State.settlePurge l how s).heads = s.heads ∧ (State.settlePurge l how s).lineId = s.lineId ∧
    (State.settlePurge l how s).tiers = s.tiers ∧ (State.settlePurge l how s).air = s.air ∧ (State.settlePurge l how s).line = s.line ∧
    (State.settlePurge l how s).totals = s.totals ∧ (State.settlePurge l how s).notices = s.notices ∧ (State.settlePurge l how s).link = s.link ∧
    (State.settlePurge l how s).inputs = s.inputs := by
  simp [State.settlePurge]

@[simp] theorem resetCrumb_frame (l : Lane) (s : State) :
    (State.resetCrumb l s).pending = s.pending ∧ (State.resetCrumb l s).products = s.products ∧ (State.resetCrumb l s).dayCodes = s.dayCodes ∧
    (State.resetCrumb l s).assign = s.assign ∧ (State.resetCrumb l s).lanes = s.lanes ∧ (State.resetCrumb l s).lastLoaf = s.lastLoaf ∧
    (State.resetCrumb l s).planner = s.planner ∧ (State.resetCrumb l s).slicers = s.slicers ∧ (State.resetCrumb l s).watch = s.watch ∧
    (State.resetCrumb l s).router = s.router ∧ (State.resetCrumb l s).heads = s.heads ∧ (State.resetCrumb l s).lineId = s.lineId ∧
    (State.resetCrumb l s).tiers = s.tiers ∧ (State.resetCrumb l s).line = s.line ∧ (State.resetCrumb l s).totals = s.totals ∧
    (State.resetCrumb l s).notices = s.notices ∧ (State.resetCrumb l s).link = s.link ∧ (State.resetCrumb l s).inputs = s.inputs := by
  simp [State.resetCrumb]

@[simp] theorem abortPurge_frame (byClear : Bool) (l : Lane) (s : State) :
    (State.abortPurge byClear l s).pending = s.pending ∧ (State.abortPurge byClear l s).products = s.products ∧ (State.abortPurge byClear l s).dayCodes = s.dayCodes ∧
    (State.abortPurge byClear l s).assign = s.assign ∧ (State.abortPurge byClear l s).lanes = s.lanes ∧ (State.abortPurge byClear l s).lastLoaf = s.lastLoaf ∧
    (State.abortPurge byClear l s).planner = s.planner ∧ (State.abortPurge byClear l s).slicers = s.slicers ∧ (State.abortPurge byClear l s).watch = s.watch ∧
    (State.abortPurge byClear l s).router = s.router ∧ (State.abortPurge byClear l s).heads = s.heads ∧ (State.abortPurge byClear l s).lineId = s.lineId ∧
    (State.abortPurge byClear l s).tiers = s.tiers ∧ (State.abortPurge byClear l s).line = s.line ∧ (State.abortPurge byClear l s).totals = s.totals ∧
    (State.abortPurge byClear l s).link = s.link ∧ (State.abortPurge byClear l s).inputs = s.inputs := by
  unfold State.abortPurge
  dsimp only
  (repeat' split) <;> simp

@[simp] theorem setLine_frame (st : LineState) (s : State) :
    (State.setLine st s).pending = s.pending ∧ (State.setLine st s).products = s.products ∧ (State.setLine st s).dayCodes = s.dayCodes ∧
    (State.setLine st s).assign = s.assign ∧ (State.setLine st s).lanes = s.lanes ∧ (State.setLine st s).lastLoaf = s.lastLoaf ∧
    (State.setLine st s).planner = s.planner ∧ (State.setLine st s).slicers = s.slicers ∧ (State.setLine st s).watch = s.watch ∧
    (State.setLine st s).router = s.router ∧ (State.setLine st s).heads = s.heads ∧ (State.setLine st s).lineId = s.lineId ∧
    (State.setLine st s).tiers = s.tiers ∧ (State.setLine st s).crumb = s.crumb ∧ (State.setLine st s).air = s.air ∧
    (State.setLine st s).totals = s.totals ∧ (State.setLine st s).link = s.link ∧ (State.setLine st s).inputs = s.inputs := by
  simp [State.setLine]

@[simp] theorem enterHalted_frame (s : State) :
    (State.enterHalted s).pending = s.pending ∧ (State.enterHalted s).products = s.products ∧ (State.enterHalted s).dayCodes = s.dayCodes ∧
    (State.enterHalted s).assign = s.assign ∧ (State.enterHalted s).lastLoaf = s.lastLoaf ∧ (State.enterHalted s).planner = s.planner ∧
    (State.enterHalted s).watch = s.watch ∧ (State.enterHalted s).router = s.router ∧ (State.enterHalted s).lineId = s.lineId ∧
    (State.enterHalted s).crumb = s.crumb ∧ (State.enterHalted s).air = s.air ∧ (State.enterHalted s).totals = s.totals ∧
    (State.enterHalted s).link = s.link ∧ (State.enterHalted s).inputs = s.inputs := by
  simp [State.enterHalted]

@[simp] theorem drainTest_frame (s : State) :
    (State.drainTest s).pending = s.pending ∧ (State.drainTest s).products = s.products ∧ (State.drainTest s).dayCodes = s.dayCodes ∧
    (State.drainTest s).assign = s.assign ∧ (State.drainTest s).lanes = s.lanes ∧ (State.drainTest s).lastLoaf = s.lastLoaf ∧
    (State.drainTest s).planner = s.planner ∧ (State.drainTest s).slicers = s.slicers ∧ (State.drainTest s).watch = s.watch ∧
    (State.drainTest s).router = s.router ∧ (State.drainTest s).heads = s.heads ∧ (State.drainTest s).lineId = s.lineId ∧
    (State.drainTest s).tiers = s.tiers ∧ (State.drainTest s).crumb = s.crumb ∧ (State.drainTest s).air = s.air ∧
    (State.drainTest s).totals = s.totals ∧ (State.drainTest s).link = s.link ∧ (State.drainTest s).inputs = s.inputs := by
  unfold State.drainTest
  (repeat' split) <;> simp

@[simp] theorem enterDraining_frame (s : State) :
    (State.enterDraining s).pending = s.pending ∧ (State.enterDraining s).products = s.products ∧ (State.enterDraining s).dayCodes = s.dayCodes ∧
    (State.enterDraining s).assign = s.assign ∧ (State.enterDraining s).lanes = s.lanes ∧ (State.enterDraining s).lastLoaf = s.lastLoaf ∧
    (State.enterDraining s).planner = s.planner ∧ (State.enterDraining s).slicers = s.slicers ∧ (State.enterDraining s).watch = s.watch ∧
    (State.enterDraining s).router = s.router ∧ (State.enterDraining s).heads = s.heads ∧ (State.enterDraining s).lineId = s.lineId ∧
    (State.enterDraining s).tiers = s.tiers ∧ (State.enterDraining s).crumb = s.crumb ∧ (State.enterDraining s).air = s.air ∧
    (State.enterDraining s).totals = s.totals ∧ (State.enterDraining s).link = s.link ∧ (State.enterDraining s).inputs = s.inputs := by
  simp [State.enterDraining]

@[simp] theorem makePresent_frame (c : Cause) (s : State) :
    (State.makePresent c s).pending = s.pending ∧ (State.makePresent c s).products = s.products ∧ (State.makePresent c s).dayCodes = s.dayCodes ∧
    (State.makePresent c s).assign = s.assign ∧ (State.makePresent c s).lanes = s.lanes ∧ (State.makePresent c s).lastLoaf = s.lastLoaf ∧
    (State.makePresent c s).planner = s.planner ∧ (State.makePresent c s).slicers = s.slicers ∧ (State.makePresent c s).watch = s.watch ∧
    (State.makePresent c s).router = s.router ∧ (State.makePresent c s).heads = s.heads ∧ (State.makePresent c s).lineId = s.lineId ∧
    (State.makePresent c s).tiers = s.tiers ∧ (State.makePresent c s).crumb = s.crumb ∧ (State.makePresent c s).air = s.air ∧
    (State.makePresent c s).totals = s.totals ∧ (State.makePresent c s).notices = s.notices ∧ (State.makePresent c s).link = s.link ∧
    (State.makePresent c s).inputs = s.inputs := by
  unfold State.makePresent
  (repeat' split) <;> simp

@[simp] theorem stopLine_frame (c : Cause) (s : State) :
    (State.stopLine c s).pending = s.pending ∧ (State.stopLine c s).products = s.products ∧ (State.stopLine c s).dayCodes = s.dayCodes ∧
    (State.stopLine c s).assign = s.assign ∧ (State.stopLine c s).lastLoaf = s.lastLoaf ∧ (State.stopLine c s).planner = s.planner ∧
    (State.stopLine c s).watch = s.watch ∧ (State.stopLine c s).router = s.router ∧ (State.stopLine c s).lineId = s.lineId ∧
    (State.stopLine c s).crumb = s.crumb ∧ (State.stopLine c s).air = s.air ∧ (State.stopLine c s).totals = s.totals ∧
    (State.stopLine c s).link = s.link ∧ (State.stopLine c s).inputs = s.inputs := by
  unfold State.stopLine
  (repeat' split) <;> simp

@[simp] theorem raise_frame (c : Cause) (s : State) :
    (State.raise c s).pending = s.pending ∧ (State.raise c s).products = s.products ∧ (State.raise c s).dayCodes = s.dayCodes ∧
    (State.raise c s).assign = s.assign ∧ (State.raise c s).lastLoaf = s.lastLoaf ∧ (State.raise c s).planner = s.planner ∧
    (State.raise c s).watch = s.watch ∧ (State.raise c s).router = s.router ∧ (State.raise c s).lineId = s.lineId ∧
    (State.raise c s).totals = s.totals ∧ (State.raise c s).link = s.link ∧ (State.raise c s).inputs = s.inputs := by
  unfold State.raise
  (repeat' split) <;> simp

@[simp] theorem raiseJam_frame (c : Cause) (s : State) :
    (State.raiseJam c s).pending = s.pending ∧ (State.raiseJam c s).products = s.products ∧ (State.raiseJam c s).dayCodes = s.dayCodes ∧
    (State.raiseJam c s).assign = s.assign ∧ (State.raiseJam c s).lastLoaf = s.lastLoaf ∧ (State.raiseJam c s).planner = s.planner ∧
    (State.raiseJam c s).watch = s.watch ∧ (State.raiseJam c s).router = s.router ∧ (State.raiseJam c s).lineId = s.lineId ∧
    (State.raiseJam c s).totals = s.totals ∧ (State.raiseJam c s).link = s.link ∧ (State.raiseJam c s).inputs = s.inputs := by
  unfold State.raiseJam
  (repeat' split) <;> simp

@[simp] theorem testAtEnd_frame (before : State) (asked : Option Lane) (after : State) (l : Lane) (s : State) :
    (State.testAtEnd before asked after l s).pending = s.pending ∧ (State.testAtEnd before asked after l s).products = s.products ∧ (State.testAtEnd before asked after l s).dayCodes = s.dayCodes ∧
    (State.testAtEnd before asked after l s).assign = s.assign ∧ (State.testAtEnd before asked after l s).lanes = s.lanes ∧ (State.testAtEnd before asked after l s).lastLoaf = s.lastLoaf ∧
    (State.testAtEnd before asked after l s).planner = s.planner ∧ (State.testAtEnd before asked after l s).slicers = s.slicers ∧ (State.testAtEnd before asked after l s).watch = s.watch ∧
    (State.testAtEnd before asked after l s).router = s.router ∧ (State.testAtEnd before asked after l s).heads = s.heads ∧ (State.testAtEnd before asked after l s).lineId = s.lineId ∧
    (State.testAtEnd before asked after l s).tiers = s.tiers ∧ (State.testAtEnd before asked after l s).line = s.line ∧ (State.testAtEnd before asked after l s).totals = s.totals ∧
    (State.testAtEnd before asked after l s).notices = s.notices ∧ (State.testAtEnd before asked after l s).link = s.link ∧ (State.testAtEnd before asked after l s).inputs = s.inputs := by
  unfold State.testAtEnd
  (repeat' split) <;> simp

@[simp] theorem purgeTests_frame (before : State) (asked : Option Lane) (s : State) :
    (State.purgeTests before asked s).pending = s.pending ∧ (State.purgeTests before asked s).products = s.products ∧ (State.purgeTests before asked s).dayCodes = s.dayCodes ∧
    (State.purgeTests before asked s).assign = s.assign ∧ (State.purgeTests before asked s).lanes = s.lanes ∧ (State.purgeTests before asked s).lastLoaf = s.lastLoaf ∧
    (State.purgeTests before asked s).planner = s.planner ∧ (State.purgeTests before asked s).slicers = s.slicers ∧ (State.purgeTests before asked s).watch = s.watch ∧
    (State.purgeTests before asked s).router = s.router ∧ (State.purgeTests before asked s).heads = s.heads ∧ (State.purgeTests before asked s).lineId = s.lineId ∧
    (State.purgeTests before asked s).tiers = s.tiers ∧ (State.purgeTests before asked s).line = s.line ∧ (State.purgeTests before asked s).totals = s.totals ∧
    (State.purgeTests before asked s).notices = s.notices ∧ (State.purgeTests before asked s).link = s.link ∧ (State.purgeTests before asked s).inputs = s.inputs := by
  simp [State.purgeTests]

@[simp] theorem finish_frame (before : State) (asked : Option Lane) (s : State) :
    (State.finish before asked s).pending = s.pending ∧ (State.finish before asked s).products = s.products ∧ (State.finish before asked s).dayCodes = s.dayCodes ∧
    (State.finish before asked s).assign = s.assign ∧ (State.finish before asked s).lastLoaf = s.lastLoaf ∧ (State.finish before asked s).planner = s.planner ∧
    (State.finish before asked s).slicers = s.slicers ∧ (State.finish before asked s).watch = s.watch ∧ (State.finish before asked s).router = s.router ∧
    (State.finish before asked s).heads = s.heads ∧ (State.finish before asked s).lineId = s.lineId ∧ (State.finish before asked s).tiers = s.tiers ∧
    (State.finish before asked s).totals = s.totals ∧ (State.finish before asked s).link = s.link ∧ (State.finish before asked s).inputs = s.inputs := by
  simp [State.finish]

@[simp] theorem promote_frame (l : Lane) (s : State) :
    (State.promote l s).pending = s.pending ∧ (State.promote l s).products = s.products ∧ (State.promote l s).dayCodes = s.dayCodes ∧
    (State.promote l s).assign = s.assign ∧ (State.promote l s).lastLoaf = s.lastLoaf ∧ (State.promote l s).planner = s.planner ∧
    (State.promote l s).slicers = s.slicers ∧ (State.promote l s).watch = s.watch ∧ (State.promote l s).lineId = s.lineId ∧
    (State.promote l s).tiers = s.tiers ∧ (State.promote l s).crumb = s.crumb ∧ (State.promote l s).air = s.air ∧
    (State.promote l s).line = s.line ∧ (State.promote l s).totals = s.totals ∧ (State.promote l s).notices = s.notices ∧
    (State.promote l s).link = s.link ∧ (State.promote l s).inputs = s.inputs := by
  unfold State.promote
  (repeat' split) <;> simp

@[simp] theorem releaseTo_frame (h : Head) (n : Nat) (l : Lane) (s : State) :
    (State.releaseTo h n l s).pending = s.pending ∧ (State.releaseTo h n l s).products = s.products ∧ (State.releaseTo h n l s).dayCodes = s.dayCodes ∧
    (State.releaseTo h n l s).assign = s.assign ∧ (State.releaseTo h n l s).lastLoaf = s.lastLoaf ∧ (State.releaseTo h n l s).planner = s.planner ∧
    (State.releaseTo h n l s).slicers = s.slicers ∧ (State.releaseTo h n l s).watch = s.watch ∧ (State.releaseTo h n l s).lineId = s.lineId ∧
    (State.releaseTo h n l s).tiers = s.tiers ∧ (State.releaseTo h n l s).crumb = s.crumb ∧ (State.releaseTo h n l s).air = s.air ∧
    (State.releaseTo h n l s).line = s.line ∧ (State.releaseTo h n l s).totals = s.totals ∧ (State.releaseTo h n l s).notices = s.notices ∧
    (State.releaseTo h n l s).link = s.link ∧ (State.releaseTo h n l s).inputs = s.inputs := by
  unfold State.releaseTo
  (repeat' split) <;> simp

@[simp] theorem offerTo_frame (s : State) (h : Head) :
    (State.offerTo s h).pending = s.pending ∧ (State.offerTo s h).products = s.products ∧ (State.offerTo s h).dayCodes = s.dayCodes ∧
    (State.offerTo s h).assign = s.assign ∧ (State.offerTo s h).lastLoaf = s.lastLoaf ∧ (State.offerTo s h).planner = s.planner ∧
    (State.offerTo s h).slicers = s.slicers ∧ (State.offerTo s h).watch = s.watch ∧ (State.offerTo s h).lineId = s.lineId ∧
    (State.offerTo s h).tiers = s.tiers ∧ (State.offerTo s h).crumb = s.crumb ∧ (State.offerTo s h).air = s.air ∧
    (State.offerTo s h).line = s.line ∧ (State.offerTo s h).totals = s.totals ∧ (State.offerTo s h).notices = s.notices ∧
    (State.offerTo s h).link = s.link ∧ (State.offerTo s h).inputs = s.inputs := by
  unfold State.offerTo
  (repeat' split) <;> simp

@[simp] theorem attemptReleases_frame (s : State) :
    (State.attemptReleases s).pending = s.pending ∧ (State.attemptReleases s).products = s.products ∧ (State.attemptReleases s).dayCodes = s.dayCodes ∧
    (State.attemptReleases s).assign = s.assign ∧ (State.attemptReleases s).lastLoaf = s.lastLoaf ∧ (State.attemptReleases s).planner = s.planner ∧
    (State.attemptReleases s).slicers = s.slicers ∧ (State.attemptReleases s).watch = s.watch ∧ (State.attemptReleases s).lineId = s.lineId ∧
    (State.attemptReleases s).tiers = s.tiers ∧ (State.attemptReleases s).crumb = s.crumb ∧ (State.attemptReleases s).air = s.air ∧
    (State.attemptReleases s).line = s.line ∧ (State.attemptReleases s).totals = s.totals ∧ (State.attemptReleases s).notices = s.notices ∧
    (State.attemptReleases s).link = s.link ∧ (State.attemptReleases s).inputs = s.inputs := by
  have h := foldl_keeps (fun (t : State) => (t.pending, t.products, t.dayCodes, t.assign, t.lastLoaf, t.planner, t.slicers, t.watch, t.lineId, t.tiers, t.crumb, t.air, t.line, t.totals, t.notices, t.link, t.inputs))
    State.offerTo (by simp) s.router.idleOrder s
  unfold State.attemptReleases
  split
  · simpa using h
  · simp

@[simp] theorem giveSource_frame (h : Head) (src : Source) (s : State) :
    (State.giveSource h src s).pending = s.pending ∧ (State.giveSource h src s).products = s.products ∧ (State.giveSource h src s).dayCodes = s.dayCodes ∧
    (State.giveSource h src s).assign = s.assign ∧ (State.giveSource h src s).lastLoaf = s.lastLoaf ∧ (State.giveSource h src s).planner = s.planner ∧
    (State.giveSource h src s).watch = s.watch ∧ (State.giveSource h src s).lineId = s.lineId ∧ (State.giveSource h src s).totals = s.totals ∧
    (State.giveSource h src s).link = s.link ∧ (State.giveSource h src s).inputs = s.inputs := by
  unfold State.giveSource
  dsimp only
  (repeat' split) <;> simp

@[simp] theorem applyPendingSource_frame (h : Head) (s : State) :
    (State.applyPendingSource h s).pending = s.pending ∧ (State.applyPendingSource h s).products = s.products ∧ (State.applyPendingSource h s).dayCodes = s.dayCodes ∧
    (State.applyPendingSource h s).assign = s.assign ∧ (State.applyPendingSource h s).lastLoaf = s.lastLoaf ∧ (State.applyPendingSource h s).planner = s.planner ∧
    (State.applyPendingSource h s).watch = s.watch ∧ (State.applyPendingSource h s).lineId = s.lineId ∧ (State.applyPendingSource h s).totals = s.totals ∧
    (State.applyPendingSource h s).link = s.link ∧ (State.applyPendingSource h s).inputs = s.inputs := by
  unfold State.applyPendingSource
  (repeat' split) <;> simp

@[simp] theorem goIdle_frame (h : Head) (s : State) :
    (State.goIdle h s).pending = s.pending ∧ (State.goIdle h s).products = s.products ∧ (State.goIdle h s).dayCodes = s.dayCodes ∧
    (State.goIdle h s).assign = s.assign ∧ (State.goIdle h s).lanes = s.lanes ∧ (State.goIdle h s).lastLoaf = s.lastLoaf ∧
    (State.goIdle h s).planner = s.planner ∧ (State.goIdle h s).slicers = s.slicers ∧ (State.goIdle h s).watch = s.watch ∧
    (State.goIdle h s).lineId = s.lineId ∧ (State.goIdle h s).tiers = s.tiers ∧ (State.goIdle h s).crumb = s.crumb ∧
    (State.goIdle h s).air = s.air ∧ (State.goIdle h s).line = s.line ∧ (State.goIdle h s).totals = s.totals ∧
    (State.goIdle h s).notices = s.notices ∧ (State.goIdle h s).link = s.link ∧ (State.goIdle h s).inputs = s.inputs := by
  simp [State.goIdle]

@[simp] theorem magazineReport_frame (h : Head) (s : State) :
    (State.magazineReport h s).pending = s.pending ∧ (State.magazineReport h s).products = s.products ∧ (State.magazineReport h s).dayCodes = s.dayCodes ∧
    (State.magazineReport h s).assign = s.assign ∧ (State.magazineReport h s).lastLoaf = s.lastLoaf ∧ (State.magazineReport h s).planner = s.planner ∧
    (State.magazineReport h s).watch = s.watch ∧ (State.magazineReport h s).router = s.router ∧ (State.magazineReport h s).lineId = s.lineId ∧
    (State.magazineReport h s).totals = s.totals ∧ (State.magazineReport h s).link = s.link ∧ (State.magazineReport h s).inputs = s.inputs := by
  unfold State.magazineReport
  dsimp only
  (repeat' split) <;> simp

@[simp] theorem tieStart_frame (h : Head) (r : LoafRecord) (s : State) :
    (State.tieStart h r s).pending = s.pending ∧ (State.tieStart h r s).products = s.products ∧ (State.tieStart h r s).dayCodes = s.dayCodes ∧
    (State.tieStart h r s).assign = s.assign ∧ (State.tieStart h r s).lastLoaf = s.lastLoaf ∧ (State.tieStart h r s).planner = s.planner ∧
    (State.tieStart h r s).watch = s.watch ∧ (State.tieStart h r s).router = s.router ∧ (State.tieStart h r s).lineId = s.lineId ∧
    (State.tieStart h r s).link = s.link ∧ (State.tieStart h r s).inputs = s.inputs := by
  simp [State.tieStart]

@[simp] theorem toDischarging_frame (h : Head) (s : State) :
    (State.toDischarging h s).pending = s.pending ∧ (State.toDischarging h s).products = s.products ∧ (State.toDischarging h s).dayCodes = s.dayCodes ∧
    (State.toDischarging h s).assign = s.assign ∧ (State.toDischarging h s).lanes = s.lanes ∧ (State.toDischarging h s).lastLoaf = s.lastLoaf ∧
    (State.toDischarging h s).planner = s.planner ∧ (State.toDischarging h s).slicers = s.slicers ∧ (State.toDischarging h s).watch = s.watch ∧
    (State.toDischarging h s).router = s.router ∧ (State.toDischarging h s).lineId = s.lineId ∧ (State.toDischarging h s).tiers = s.tiers ∧
    (State.toDischarging h s).crumb = s.crumb ∧ (State.toDischarging h s).air = s.air ∧ (State.toDischarging h s).line = s.line ∧
    (State.toDischarging h s).totals = s.totals ∧ (State.toDischarging h s).notices = s.notices ∧ (State.toDischarging h s).link = s.link ∧
    (State.toDischarging h s).inputs = s.inputs := by
  simp [State.toDischarging]

@[simp] theorem noClipPath_frame (h : Head) (r : LoafRecord) (s : State) :
    (State.noClipPath h r s).pending = s.pending ∧ (State.noClipPath h r s).products = s.products ∧ (State.noClipPath h r s).dayCodes = s.dayCodes ∧
    (State.noClipPath h r s).assign = s.assign ∧ (State.noClipPath h r s).lastLoaf = s.lastLoaf ∧ (State.noClipPath h r s).planner = s.planner ∧
    (State.noClipPath h r s).slicers = s.slicers ∧ (State.noClipPath h r s).watch = s.watch ∧ (State.noClipPath h r s).router = s.router ∧
    (State.noClipPath h r s).lineId = s.lineId ∧ (State.noClipPath h r s).tiers = s.tiers ∧ (State.noClipPath h r s).crumb = s.crumb ∧
    (State.noClipPath h r s).air = s.air ∧ (State.noClipPath h r s).line = s.line ∧ (State.noClipPath h r s).notices = s.notices ∧
    (State.noClipPath h r s).link = s.link ∧ (State.noClipPath h r s).inputs = s.inputs := by
  simp [State.noClipPath]

@[simp] theorem handOff_frame (h : Head) (s : State) :
    (State.handOff h s).pending = s.pending ∧ (State.handOff h s).products = s.products ∧ (State.handOff h s).dayCodes = s.dayCodes ∧
    (State.handOff h s).assign = s.assign ∧ (State.handOff h s).lastLoaf = s.lastLoaf ∧ (State.handOff h s).planner = s.planner ∧
    (State.handOff h s).watch = s.watch ∧ (State.handOff h s).router = s.router ∧ (State.handOff h s).lineId = s.lineId ∧
    (State.handOff h s).link = s.link ∧ (State.handOff h s).inputs = s.inputs := by
  unfold State.handOff
  (repeat' split) <;> simp

@[simp] theorem learnTie_frame (h : Head) (tie : Tie) (s : State) :
    (State.learnTie h tie s).pending = s.pending ∧ (State.learnTie h tie s).dayCodes = s.dayCodes ∧ (State.learnTie h tie s).assign = s.assign ∧
    (State.learnTie h tie s).lanes = s.lanes ∧ (State.learnTie h tie s).lastLoaf = s.lastLoaf ∧ (State.learnTie h tie s).planner = s.planner ∧
    (State.learnTie h tie s).slicers = s.slicers ∧ (State.learnTie h tie s).watch = s.watch ∧ (State.learnTie h tie s).router = s.router ∧
    (State.learnTie h tie s).heads = s.heads ∧ (State.learnTie h tie s).lineId = s.lineId ∧ (State.learnTie h tie s).crumb = s.crumb ∧
    (State.learnTie h tie s).air = s.air ∧ (State.learnTie h tie s).line = s.line ∧ (State.learnTie h tie s).totals = s.totals ∧
    (State.learnTie h tie s).link = s.link ∧ (State.learnTie h tie s).inputs = s.inputs := by
  simp [State.learnTie]

@[simp] theorem mismatchTie_frame (h : Head) (tie : Tie) (expected : Half) (s : State) :
    (State.mismatchTie h tie expected s).pending = s.pending ∧ (State.mismatchTie h tie expected s).products = s.products ∧ (State.mismatchTie h tie expected s).dayCodes = s.dayCodes ∧
    (State.mismatchTie h tie expected s).assign = s.assign ∧ (State.mismatchTie h tie expected s).lastLoaf = s.lastLoaf ∧ (State.mismatchTie h tie expected s).planner = s.planner ∧
    (State.mismatchTie h tie expected s).watch = s.watch ∧ (State.mismatchTie h tie expected s).router = s.router ∧ (State.mismatchTie h tie expected s).lineId = s.lineId ∧
    (State.mismatchTie h tie expected s).totals = s.totals ∧ (State.mismatchTie h tie expected s).link = s.link ∧ (State.mismatchTie h tie expected s).inputs = s.inputs := by
  unfold State.mismatchTie
  dsimp only
  (repeat' split) <;> simp

@[simp] theorem takeTieDone_frame (h : Head) (tie : Tie) (s : State) :
    (State.takeTieDone h tie s).pending = s.pending ∧ (State.takeTieDone h tie s).dayCodes = s.dayCodes ∧ (State.takeTieDone h tie s).assign = s.assign ∧
    (State.takeTieDone h tie s).lastLoaf = s.lastLoaf ∧ (State.takeTieDone h tie s).planner = s.planner ∧ (State.takeTieDone h tie s).watch = s.watch ∧
    (State.takeTieDone h tie s).router = s.router ∧ (State.takeTieDone h tie s).lineId = s.lineId ∧ (State.takeTieDone h tie s).link = s.link ∧
    (State.takeTieDone h tie s).inputs = s.inputs := by
  unfold State.takeTieDone
  dsimp only
  (repeat' split) <;> simp

@[simp] theorem takeBagOpen_frame (h : Head) (s : State) :
    (State.takeBagOpen h s).pending = s.pending ∧ (State.takeBagOpen h s).products = s.products ∧ (State.takeBagOpen h s).dayCodes = s.dayCodes ∧
    (State.takeBagOpen h s).assign = s.assign ∧ (State.takeBagOpen h s).lanes = s.lanes ∧ (State.takeBagOpen h s).lastLoaf = s.lastLoaf ∧
    (State.takeBagOpen h s).planner = s.planner ∧ (State.takeBagOpen h s).slicers = s.slicers ∧ (State.takeBagOpen h s).watch = s.watch ∧
    (State.takeBagOpen h s).router = s.router ∧ (State.takeBagOpen h s).lineId = s.lineId ∧ (State.takeBagOpen h s).tiers = s.tiers ∧
    (State.takeBagOpen h s).crumb = s.crumb ∧ (State.takeBagOpen h s).air = s.air ∧ (State.takeBagOpen h s).line = s.line ∧
    (State.takeBagOpen h s).totals = s.totals ∧ (State.takeBagOpen h s).notices = s.notices ∧ (State.takeBagOpen h s).link = s.link ∧
    (State.takeBagOpen h s).inputs = s.inputs := by
  simp [State.takeBagOpen]

@[simp] theorem takeLoafIn_frame (h : Head) (s : State) :
    (State.takeLoafIn h s).pending = s.pending ∧ (State.takeLoafIn h s).products = s.products ∧ (State.takeLoafIn h s).dayCodes = s.dayCodes ∧
    (State.takeLoafIn h s).assign = s.assign ∧ (State.takeLoafIn h s).lanes = s.lanes ∧ (State.takeLoafIn h s).lastLoaf = s.lastLoaf ∧
    (State.takeLoafIn h s).planner = s.planner ∧ (State.takeLoafIn h s).slicers = s.slicers ∧ (State.takeLoafIn h s).watch = s.watch ∧
    (State.takeLoafIn h s).router = s.router ∧ (State.takeLoafIn h s).lineId = s.lineId ∧ (State.takeLoafIn h s).tiers = s.tiers ∧
    (State.takeLoafIn h s).crumb = s.crumb ∧ (State.takeLoafIn h s).air = s.air ∧ (State.takeLoafIn h s).line = s.line ∧
    (State.takeLoafIn h s).totals = s.totals ∧ (State.takeLoafIn h s).notices = s.notices ∧ (State.takeLoafIn h s).link = s.link ∧
    (State.takeLoafIn h s).inputs = s.inputs := by
  simp [State.takeLoafIn]

@[simp] theorem takeGatherDone_frame (h : Head) (s : State) :
    (State.takeGatherDone h s).pending = s.pending ∧ (State.takeGatherDone h s).products = s.products ∧ (State.takeGatherDone h s).dayCodes = s.dayCodes ∧
    (State.takeGatherDone h s).assign = s.assign ∧ (State.takeGatherDone h s).lastLoaf = s.lastLoaf ∧ (State.takeGatherDone h s).planner = s.planner ∧
    (State.takeGatherDone h s).watch = s.watch ∧ (State.takeGatherDone h s).router = s.router ∧ (State.takeGatherDone h s).lineId = s.lineId ∧
    (State.takeGatherDone h s).link = s.link ∧ (State.takeGatherDone h s).inputs = s.inputs := by
  simp [State.takeGatherDone]

@[simp] theorem takeDischargeClear_frame (h : Head) (s : State) :
    (State.takeDischargeClear h s).pending = s.pending ∧ (State.takeDischargeClear h s).products = s.products ∧ (State.takeDischargeClear h s).dayCodes = s.dayCodes ∧
    (State.takeDischargeClear h s).assign = s.assign ∧ (State.takeDischargeClear h s).lastLoaf = s.lastLoaf ∧ (State.takeDischargeClear h s).planner = s.planner ∧
    (State.takeDischargeClear h s).watch = s.watch ∧ (State.takeDischargeClear h s).lineId = s.lineId ∧ (State.takeDischargeClear h s).link = s.link ∧
    (State.takeDischargeClear h s).inputs = s.inputs := by
  unfold State.takeDischargeClear
  (repeat' split) <;> simp

@[simp] theorem takeOpeningTimeout_frame (h : Head) (s : State) :
    (State.takeOpeningTimeout h s).pending = s.pending ∧ (State.takeOpeningTimeout h s).products = s.products ∧ (State.takeOpeningTimeout h s).dayCodes = s.dayCodes ∧
    (State.takeOpeningTimeout h s).assign = s.assign ∧ (State.takeOpeningTimeout h s).lastLoaf = s.lastLoaf ∧ (State.takeOpeningTimeout h s).planner = s.planner ∧
    (State.takeOpeningTimeout h s).watch = s.watch ∧ (State.takeOpeningTimeout h s).router = s.router ∧ (State.takeOpeningTimeout h s).lineId = s.lineId ∧
    (State.takeOpeningTimeout h s).link = s.link ∧ (State.takeOpeningTimeout h s).inputs = s.inputs := by
  unfold State.takeOpeningTimeout
  dsimp only
  (repeat' split) <;> simp

@[simp] theorem resumeHead_frame (step : HeadStep) (h : Head) (s : State) :
    (State.resumeHead step h s).pending = s.pending ∧ (State.resumeHead step h s).products = s.products ∧ (State.resumeHead step h s).dayCodes = s.dayCodes ∧
    (State.resumeHead step h s).assign = s.assign ∧ (State.resumeHead step h s).lastLoaf = s.lastLoaf ∧ (State.resumeHead step h s).planner = s.planner ∧
    (State.resumeHead step h s).watch = s.watch ∧ (State.resumeHead step h s).lineId = s.lineId ∧ (State.resumeHead step h s).link = s.link ∧
    (State.resumeHead step h s).inputs = s.inputs := by
  unfold State.resumeHead
  dsimp only
  (repeat' split) <;> simp

@[simp] theorem clearHead_frame (h : Head) (s : State) :
    (State.clearHead h s).pending = s.pending ∧ (State.clearHead h s).products = s.products ∧ (State.clearHead h s).dayCodes = s.dayCodes ∧
    (State.clearHead h s).assign = s.assign ∧ (State.clearHead h s).lastLoaf = s.lastLoaf ∧ (State.clearHead h s).planner = s.planner ∧
    (State.clearHead h s).watch = s.watch ∧ (State.clearHead h s).lineId = s.lineId ∧ (State.clearHead h s).link = s.link ∧
    (State.clearHead h s).inputs = s.inputs := by
  unfold State.clearHead
  dsimp only
  (repeat' split) <;> simp

@[simp] theorem fireEntry_frame (i : Fin 4) (n : Nat) (l : Lane) (s : State) :
    (State.fireEntry i n l s).pending = s.pending ∧ (State.fireEntry i n l s).products = s.products ∧ (State.fireEntry i n l s).dayCodes = s.dayCodes ∧
    (State.fireEntry i n l s).assign = s.assign ∧ (State.fireEntry i n l s).lastLoaf = s.lastLoaf ∧ (State.fireEntry i n l s).planner = s.planner ∧
    (State.fireEntry i n l s).router = s.router ∧ (State.fireEntry i n l s).lineId = s.lineId ∧ (State.fireEntry i n l s).totals = s.totals ∧
    (State.fireEntry i n l s).link = s.link ∧ (State.fireEntry i n l s).inputs = s.inputs := by
  unfold State.fireEntry
  dsimp only
  (repeat' split) <;> simp

@[simp] theorem settleEntry_frame (r : LoafRecord) (chains : Vector (Option Nat) 2) (s : State) (i : Fin 4) :
    (State.settleEntry r chains s i).pending = s.pending ∧ (State.settleEntry r chains s i).products = s.products ∧ (State.settleEntry r chains s i).dayCodes = s.dayCodes ∧
    (State.settleEntry r chains s i).assign = s.assign ∧ (State.settleEntry r chains s i).lastLoaf = s.lastLoaf ∧ (State.settleEntry r chains s i).planner = s.planner ∧
    (State.settleEntry r chains s i).router = s.router ∧ (State.settleEntry r chains s i).lineId = s.lineId ∧ (State.settleEntry r chains s i).totals = s.totals ∧
    (State.settleEntry r chains s i).link = s.link ∧ (State.settleEntry r chains s i).inputs = s.inputs := by
  unfold State.settleEntry
  dsimp only
  (repeat' split) <;> simp

@[simp] theorem captureDecision_frame (n : Nat) (c : Summary) (start : Bool) (stop : Bool) (s : State) :
    (State.captureDecision n c start stop s).pending = s.pending ∧ (State.captureDecision n c start stop s).products = s.products ∧ (State.captureDecision n c start stop s).dayCodes = s.dayCodes ∧
    (State.captureDecision n c start stop s).assign = s.assign ∧ (State.captureDecision n c start stop s).lanes = s.lanes ∧ (State.captureDecision n c start stop s).lastLoaf = s.lastLoaf ∧
    (State.captureDecision n c start stop s).planner = s.planner ∧ (State.captureDecision n c start stop s).slicers = s.slicers ∧ (State.captureDecision n c start stop s).router = s.router ∧
    (State.captureDecision n c start stop s).heads = s.heads ∧ (State.captureDecision n c start stop s).lineId = s.lineId ∧ (State.captureDecision n c start stop s).tiers = s.tiers ∧
    (State.captureDecision n c start stop s).crumb = s.crumb ∧ (State.captureDecision n c start stop s).air = s.air ∧ (State.captureDecision n c start stop s).line = s.line ∧
    (State.captureDecision n c start stop s).totals = s.totals ∧ (State.captureDecision n c start stop s).link = s.link ∧ (State.captureDecision n c start stop s).inputs = s.inputs := by
  unfold State.captureDecision
  dsimp only
  (repeat' split) <;> simp

@[simp] theorem evaluate_frame (n : Nat) (s : State) :
    (State.evaluate n s).pending = s.pending ∧ (State.evaluate n s).products = s.products ∧ (State.evaluate n s).dayCodes = s.dayCodes ∧
    (State.evaluate n s).assign = s.assign ∧ (State.evaluate n s).lastLoaf = s.lastLoaf ∧ (State.evaluate n s).planner = s.planner ∧
    (State.evaluate n s).router = s.router ∧ (State.evaluate n s).lineId = s.lineId ∧ (State.evaluate n s).totals = s.totals ∧
    (State.evaluate n s).link = s.link ∧ (State.evaluate n s).inputs = s.inputs := by
  unfold State.evaluate
  dsimp only
  (repeat' split) <;> simp

@[simp] theorem startNext_frame (s : State) :
    (State.startNext s).pending = s.pending ∧ (State.startNext s).products = s.products ∧ (State.startNext s).dayCodes = s.dayCodes ∧
    (State.startNext s).assign = s.assign ∧ (State.startNext s).lanes = s.lanes ∧ (State.startNext s).lastLoaf = s.lastLoaf ∧
    (State.startNext s).slicers = s.slicers ∧ (State.startNext s).watch = s.watch ∧ (State.startNext s).router = s.router ∧
    (State.startNext s).heads = s.heads ∧ (State.startNext s).lineId = s.lineId ∧ (State.startNext s).tiers = s.tiers ∧
    (State.startNext s).crumb = s.crumb ∧ (State.startNext s).air = s.air ∧ (State.startNext s).line = s.line ∧
    (State.startNext s).totals = s.totals ∧ (State.startNext s).notices = s.notices ∧ (State.startNext s).link = s.link ∧
    (State.startNext s).inputs = s.inputs := by
  unfold State.startNext
  (repeat' split) <;> simp

@[simp] theorem enqueueRequest_frame (req : PlanRequest) (s : State) :
    (State.enqueueRequest req s).pending = s.pending ∧ (State.enqueueRequest req s).products = s.products ∧ (State.enqueueRequest req s).dayCodes = s.dayCodes ∧
    (State.enqueueRequest req s).assign = s.assign ∧ (State.enqueueRequest req s).lanes = s.lanes ∧ (State.enqueueRequest req s).lastLoaf = s.lastLoaf ∧
    (State.enqueueRequest req s).slicers = s.slicers ∧ (State.enqueueRequest req s).watch = s.watch ∧ (State.enqueueRequest req s).router = s.router ∧
    (State.enqueueRequest req s).heads = s.heads ∧ (State.enqueueRequest req s).lineId = s.lineId ∧ (State.enqueueRequest req s).tiers = s.tiers ∧
    (State.enqueueRequest req s).crumb = s.crumb ∧ (State.enqueueRequest req s).air = s.air ∧ (State.enqueueRequest req s).line = s.line ∧
    (State.enqueueRequest req s).totals = s.totals ∧ (State.enqueueRequest req s).notices = s.notices ∧ (State.enqueueRequest req s).link = s.link ∧
    (State.enqueueRequest req s).inputs = s.inputs := by
  simp [State.enqueueRequest]

@[simp] theorem scheduleCuts_frame (l : Lane) (n : Nat) (p : Plan) (s : State) :
    (State.scheduleCuts l n p s).pending = s.pending ∧ (State.scheduleCuts l n p s).products = s.products ∧ (State.scheduleCuts l n p s).dayCodes = s.dayCodes ∧
    (State.scheduleCuts l n p s).assign = s.assign ∧ (State.scheduleCuts l n p s).lanes = s.lanes ∧ (State.scheduleCuts l n p s).lastLoaf = s.lastLoaf ∧
    (State.scheduleCuts l n p s).planner = s.planner ∧ (State.scheduleCuts l n p s).watch = s.watch ∧ (State.scheduleCuts l n p s).router = s.router ∧
    (State.scheduleCuts l n p s).heads = s.heads ∧ (State.scheduleCuts l n p s).lineId = s.lineId ∧ (State.scheduleCuts l n p s).tiers = s.tiers ∧
    (State.scheduleCuts l n p s).crumb = s.crumb ∧ (State.scheduleCuts l n p s).air = s.air ∧ (State.scheduleCuts l n p s).line = s.line ∧
    (State.scheduleCuts l n p s).totals = s.totals ∧ (State.scheduleCuts l n p s).notices = s.notices ∧ (State.scheduleCuts l n p s).link = s.link ∧
    (State.scheduleCuts l n p s).inputs = s.inputs := by
  unfold State.scheduleCuts
  (repeat' split) <;> simp

@[simp] theorem deliverPlan_frame (l : Lane) (n : Nat) (p : Plan) (wholeOk : Bool) (s : State) :
    (State.deliverPlan l n p wholeOk s).pending = s.pending ∧ (State.deliverPlan l n p wholeOk s).products = s.products ∧ (State.deliverPlan l n p wholeOk s).dayCodes = s.dayCodes ∧
    (State.deliverPlan l n p wholeOk s).assign = s.assign ∧ (State.deliverPlan l n p wholeOk s).lastLoaf = s.lastLoaf ∧ (State.deliverPlan l n p wholeOk s).planner = s.planner ∧
    (State.deliverPlan l n p wholeOk s).router = s.router ∧ (State.deliverPlan l n p wholeOk s).lineId = s.lineId ∧ (State.deliverPlan l n p wholeOk s).totals = s.totals ∧
    (State.deliverPlan l n p wholeOk s).link = s.link ∧ (State.deliverPlan l n p wholeOk s).inputs = s.inputs := by
  unfold State.deliverPlan
  (repeat' split) <;> simp

@[simp] theorem failPlan_frame (n : Nat) (outcome : PlanOutcome) (reason : Reason) (s : State) :
    (State.failPlan n outcome reason s).pending = s.pending ∧ (State.failPlan n outcome reason s).products = s.products ∧ (State.failPlan n outcome reason s).dayCodes = s.dayCodes ∧
    (State.failPlan n outcome reason s).assign = s.assign ∧ (State.failPlan n outcome reason s).lastLoaf = s.lastLoaf ∧ (State.failPlan n outcome reason s).planner = s.planner ∧
    (State.failPlan n outcome reason s).router = s.router ∧ (State.failPlan n outcome reason s).lineId = s.lineId ∧ (State.failPlan n outcome reason s).totals = s.totals ∧
    (State.failPlan n outcome reason s).link = s.link ∧ (State.failPlan n outcome reason s).inputs = s.inputs := by
  simp [State.failPlan]

@[simp] theorem wearLimit_frame (l : Lane) (i : PlanInputs) (p : Plan) (s : State) :
    (State.wearLimit l i p s).pending = s.pending ∧ (State.wearLimit l i p s).products = s.products ∧ (State.wearLimit l i p s).dayCodes = s.dayCodes ∧
    (State.wearLimit l i p s).assign = s.assign ∧ (State.wearLimit l i p s).lanes = s.lanes ∧ (State.wearLimit l i p s).lastLoaf = s.lastLoaf ∧
    (State.wearLimit l i p s).planner = s.planner ∧ (State.wearLimit l i p s).watch = s.watch ∧ (State.wearLimit l i p s).router = s.router ∧
    (State.wearLimit l i p s).heads = s.heads ∧ (State.wearLimit l i p s).lineId = s.lineId ∧ (State.wearLimit l i p s).tiers = s.tiers ∧
    (State.wearLimit l i p s).crumb = s.crumb ∧ (State.wearLimit l i p s).air = s.air ∧ (State.wearLimit l i p s).line = s.line ∧
    (State.wearLimit l i p s).totals = s.totals ∧ (State.wearLimit l i p s).link = s.link ∧ (State.wearLimit l i p s).inputs = s.inputs := by
  unfold State.wearLimit
  dsimp only
  (repeat' split) <;> simp

@[simp] theorem completeGauge_frame (l : Lane) (n : Nat) (c : CurrentPlan) (s : State) :
    (State.completeGauge l n c s).pending = s.pending ∧ (State.completeGauge l n c s).products = s.products ∧ (State.completeGauge l n c s).dayCodes = s.dayCodes ∧
    (State.completeGauge l n c s).assign = s.assign ∧ (State.completeGauge l n c s).lastLoaf = s.lastLoaf ∧ (State.completeGauge l n c s).router = s.router ∧
    (State.completeGauge l n c s).lineId = s.lineId ∧ (State.completeGauge l n c s).totals = s.totals ∧ (State.completeGauge l n c s).link = s.link ∧
    (State.completeGauge l n c s).inputs = s.inputs := by
  unfold State.completeGauge
  (repeat' split) <;> simp

@[simp] theorem takeArrival_frame (l : Lane) (n : Nat) (s : State) :
    (State.takeArrival l n s).pending = s.pending ∧ (State.takeArrival l n s).products = s.products ∧ (State.takeArrival l n s).dayCodes = s.dayCodes ∧
    (State.takeArrival l n s).assign = s.assign ∧ (State.takeArrival l n s).lastLoaf = s.lastLoaf ∧ (State.takeArrival l n s).router = s.router ∧
    (State.takeArrival l n s).lineId = s.lineId ∧ (State.takeArrival l n s).totals = s.totals ∧ (State.takeArrival l n s).link = s.link ∧
    (State.takeArrival l n s).inputs = s.inputs := by
  unfold State.takeArrival
  (repeat' split) <;> simp

@[simp] theorem travel_frame (l : Lane) (d : Quad) (s : State) :
    (State.travel l d s).pending = s.pending ∧ (State.travel l d s).products = s.products ∧ (State.travel l d s).dayCodes = s.dayCodes ∧
    (State.travel l d s).assign = s.assign ∧ (State.travel l d s).lastLoaf = s.lastLoaf ∧ (State.travel l d s).planner = s.planner ∧
    (State.travel l d s).slicers = s.slicers ∧ (State.travel l d s).watch = s.watch ∧ (State.travel l d s).router = s.router ∧
    (State.travel l d s).heads = s.heads ∧ (State.travel l d s).lineId = s.lineId ∧ (State.travel l d s).tiers = s.tiers ∧
    (State.travel l d s).crumb = s.crumb ∧ (State.travel l d s).air = s.air ∧ (State.travel l d s).line = s.line ∧
    (State.travel l d s).totals = s.totals ∧ (State.travel l d s).notices = s.notices ∧ (State.travel l d s).link = s.link ∧
    (State.travel l d s).inputs = s.inputs := by
  unfold State.travel
  (repeat' split) <;> simp

@[simp] theorem advanceTo_frame (l : Lane) (p : Quad) (s : State) :
    (State.advanceTo l p s).pending = s.pending ∧ (State.advanceTo l p s).products = s.products ∧ (State.advanceTo l p s).dayCodes = s.dayCodes ∧
    (State.advanceTo l p s).assign = s.assign ∧ (State.advanceTo l p s).lastLoaf = s.lastLoaf ∧ (State.advanceTo l p s).planner = s.planner ∧
    (State.advanceTo l p s).slicers = s.slicers ∧ (State.advanceTo l p s).watch = s.watch ∧ (State.advanceTo l p s).router = s.router ∧
    (State.advanceTo l p s).heads = s.heads ∧ (State.advanceTo l p s).lineId = s.lineId ∧ (State.advanceTo l p s).tiers = s.tiers ∧
    (State.advanceTo l p s).crumb = s.crumb ∧ (State.advanceTo l p s).air = s.air ∧ (State.advanceTo l p s).line = s.line ∧
    (State.advanceTo l p s).totals = s.totals ∧ (State.advanceTo l p s).notices = s.notices ∧ (State.advanceTo l p s).link = s.link ∧
    (State.advanceTo l p s).inputs = s.inputs := by
  simp [State.advanceTo]

@[simp] theorem bladeLineEvent_frame (l : Lane) (n : Nat) (s : State) :
    (State.bladeLineEvent l n s).pending = s.pending ∧ (State.bladeLineEvent l n s).products = s.products ∧ (State.bladeLineEvent l n s).dayCodes = s.dayCodes ∧
    (State.bladeLineEvent l n s).assign = s.assign ∧ (State.bladeLineEvent l n s).lastLoaf = s.lastLoaf ∧ (State.bladeLineEvent l n s).router = s.router ∧
    (State.bladeLineEvent l n s).lineId = s.lineId ∧ (State.bladeLineEvent l n s).totals = s.totals ∧ (State.bladeLineEvent l n s).link = s.link ∧
    (State.bladeLineEvent l n s).inputs = s.inputs := by
  unfold State.bladeLineEvent
  (repeat' split) <;> simp

@[simp] theorem trailingEvent_frame (l : Lane) (n : Nat) (s : State) :
    (State.trailingEvent l n s).pending = s.pending ∧ (State.trailingEvent l n s).products = s.products ∧ (State.trailingEvent l n s).dayCodes = s.dayCodes ∧
    (State.trailingEvent l n s).assign = s.assign ∧ (State.trailingEvent l n s).lastLoaf = s.lastLoaf ∧ (State.trailingEvent l n s).planner = s.planner ∧
    (State.trailingEvent l n s).slicers = s.slicers ∧ (State.trailingEvent l n s).watch = s.watch ∧ (State.trailingEvent l n s).router = s.router ∧
    (State.trailingEvent l n s).lineId = s.lineId ∧ (State.trailingEvent l n s).tiers = s.tiers ∧ (State.trailingEvent l n s).crumb = s.crumb ∧
    (State.trailingEvent l n s).air = s.air ∧ (State.trailingEvent l n s).line = s.line ∧ (State.trailingEvent l n s).totals = s.totals ∧
    (State.trailingEvent l n s).notices = s.notices ∧ (State.trailingEvent l n s).link = s.link ∧ (State.trailingEvent l n s).inputs = s.inputs := by
  unfold State.trailingEvent
  dsimp only
  (repeat' split) <;> simp

@[simp] theorem rejectGateEvent_frame (l : Lane) (n : Nat) (s : State) :
    (State.rejectGateEvent l n s).pending = s.pending ∧ (State.rejectGateEvent l n s).products = s.products ∧ (State.rejectGateEvent l n s).dayCodes = s.dayCodes ∧
    (State.rejectGateEvent l n s).assign = s.assign ∧ (State.rejectGateEvent l n s).lastLoaf = s.lastLoaf ∧ (State.rejectGateEvent l n s).planner = s.planner ∧
    (State.rejectGateEvent l n s).watch = s.watch ∧ (State.rejectGateEvent l n s).router = s.router ∧ (State.rejectGateEvent l n s).lineId = s.lineId ∧
    (State.rejectGateEvent l n s).tiers = s.tiers ∧ (State.rejectGateEvent l n s).crumb = s.crumb ∧ (State.rejectGateEvent l n s).air = s.air ∧
    (State.rejectGateEvent l n s).line = s.line ∧ (State.rejectGateEvent l n s).link = s.link ∧ (State.rejectGateEvent l n s).inputs = s.inputs := by
  unfold State.rejectGateEvent
  (repeat' split) <;> simp

@[simp] theorem endSlicing_frame (l : Lane) (r : LoafRecord) (s : State) :
    (State.endSlicing l r s).pending = s.pending ∧ (State.endSlicing l r s).products = s.products ∧ (State.endSlicing l r s).dayCodes = s.dayCodes ∧
    (State.endSlicing l r s).assign = s.assign ∧ (State.endSlicing l r s).lastLoaf = s.lastLoaf ∧ (State.endSlicing l r s).planner = s.planner ∧
    (State.endSlicing l r s).watch = s.watch ∧ (State.endSlicing l r s).router = s.router ∧ (State.endSlicing l r s).lineId = s.lineId ∧
    (State.endSlicing l r s).tiers = s.tiers ∧ (State.endSlicing l r s).crumb = s.crumb ∧ (State.endSlicing l r s).air = s.air ∧
    (State.endSlicing l r s).line = s.line ∧ (State.endSlicing l r s).totals = s.totals ∧ (State.endSlicing l r s).notices = s.notices ∧
    (State.endSlicing l r s).link = s.link ∧ (State.endSlicing l r s).inputs = s.inputs := by
  unfold State.endSlicing
  (repeat' split) <;> simp

@[simp] theorem routerGateEvent_frame (l : Lane) (n : Nat) (s : State) :
    (State.routerGateEvent l n s).pending = s.pending ∧ (State.routerGateEvent l n s).products = s.products ∧ (State.routerGateEvent l n s).dayCodes = s.dayCodes ∧
    (State.routerGateEvent l n s).assign = s.assign ∧ (State.routerGateEvent l n s).lastLoaf = s.lastLoaf ∧ (State.routerGateEvent l n s).planner = s.planner ∧
    (State.routerGateEvent l n s).watch = s.watch ∧ (State.routerGateEvent l n s).lineId = s.lineId ∧ (State.routerGateEvent l n s).tiers = s.tiers ∧
    (State.routerGateEvent l n s).crumb = s.crumb ∧ (State.routerGateEvent l n s).air = s.air ∧ (State.routerGateEvent l n s).line = s.line ∧
    (State.routerGateEvent l n s).totals = s.totals ∧ (State.routerGateEvent l n s).notices = s.notices ∧ (State.routerGateEvent l n s).link = s.link ∧
    (State.routerGateEvent l n s).inputs = s.inputs := by
  unfold State.routerGateEvent
  dsimp only
  (repeat' split) <;> simp

@[simp] theorem positionalEvent_frame (e : Positional) (l : Lane) (n : Nat) (s : State) :
    (State.positionalEvent e l n s).pending = s.pending ∧ (State.positionalEvent e l n s).products = s.products ∧ (State.positionalEvent e l n s).dayCodes = s.dayCodes ∧
    (State.positionalEvent e l n s).assign = s.assign ∧ (State.positionalEvent e l n s).lastLoaf = s.lastLoaf ∧ (State.positionalEvent e l n s).lineId = s.lineId ∧
    (State.positionalEvent e l n s).link = s.link ∧ (State.positionalEvent e l n s).inputs = s.inputs := by
  unfold State.positionalEvent
  (repeat' split) <;> simp

@[simp] theorem reach_frame (e : Positional) (l : Lane) (n : Nat) (s : State) :
    (State.reach e l n s).pending = s.pending ∧ (State.reach e l n s).products = s.products ∧ (State.reach e l n s).dayCodes = s.dayCodes ∧
    (State.reach e l n s).assign = s.assign ∧ (State.reach e l n s).lastLoaf = s.lastLoaf ∧ (State.reach e l n s).lineId = s.lineId ∧
    (State.reach e l n s).link = s.link ∧ (State.reach e l n s).inputs = s.inputs := by
  unfold State.reach
  (repeat' split) <;> simp

@[simp] theorem takeReached_frame (l : Lane) (r : LoafRecord) (s : State) (e : Positional) :
    (State.takeReached l r s e).pending = s.pending ∧ (State.takeReached l r s e).products = s.products ∧ (State.takeReached l r s e).dayCodes = s.dayCodes ∧
    (State.takeReached l r s e).assign = s.assign ∧ (State.takeReached l r s e).lastLoaf = s.lastLoaf ∧ (State.takeReached l r s e).lineId = s.lineId ∧
    (State.takeReached l r s e).link = s.link ∧ (State.takeReached l r s e).inputs = s.inputs := by
  unfold State.takeReached
  (repeat' split) <;> simp

@[simp] theorem admitLoaf_frame (l : Lane) (lead : Quad) (highest : Nat) (p : ProductIx) (span : Nat) (s : State) :
    (State.admitLoaf l lead highest p span s).pending = s.pending ∧ (State.admitLoaf l lead highest p span s).products = s.products ∧ (State.admitLoaf l lead highest p span s).dayCodes = s.dayCodes ∧
    (State.admitLoaf l lead highest p span s).assign = s.assign ∧ (State.admitLoaf l lead highest p span s).lineId = s.lineId ∧ (State.admitLoaf l lead highest p span s).link = s.link ∧
    (State.admitLoaf l lead highest p span s).inputs = s.inputs := by
  have h := fun (r : LoafRecord) (es : List Positional) (t : State) =>
    foldl_keeps (fun (t : State) => (t.pending, t.products, t.dayCodes, t.assign, t.lineId, t.link, t.inputs))
      (State.takeReached l r) (by simp) es t
  simp [State.admitLoaf]
  have := h ((s.lanes.get l).newRecord l s.nextLoaf lead highest p span)
  simp at this
  simp [this]

@[simp] theorem leadingEdgeEvent_frame (l : Lane) (beams : BitVec 48) (s : State) :
    (State.leadingEdgeEvent l beams s).pending = s.pending ∧ (State.leadingEdgeEvent l beams s).products = s.products ∧ (State.leadingEdgeEvent l beams s).dayCodes = s.dayCodes ∧
    (State.leadingEdgeEvent l beams s).lastLoaf = s.lastLoaf ∧ (State.leadingEdgeEvent l beams s).planner = s.planner ∧ (State.leadingEdgeEvent l beams s).slicers = s.slicers ∧
    (State.leadingEdgeEvent l beams s).watch = s.watch ∧ (State.leadingEdgeEvent l beams s).router = s.router ∧ (State.leadingEdgeEvent l beams s).heads = s.heads ∧
    (State.leadingEdgeEvent l beams s).lineId = s.lineId ∧ (State.leadingEdgeEvent l beams s).tiers = s.tiers ∧ (State.leadingEdgeEvent l beams s).air = s.air ∧
    (State.leadingEdgeEvent l beams s).line = s.line ∧ (State.leadingEdgeEvent l beams s).totals = s.totals ∧ (State.leadingEdgeEvent l beams s).link = s.link ∧
    (State.leadingEdgeEvent l beams s).inputs = s.inputs := by
  unfold State.leadingEdgeEvent
  dsimp only
  (repeat' split) <;> simp

@[simp] theorem beamsBlocked_frame (l : Lane) (travel : Quad) (beams : BitVec 48) (s : State) :
    (State.beamsBlocked l travel beams s).pending = s.pending ∧ (State.beamsBlocked l travel beams s).products = s.products ∧ (State.beamsBlocked l travel beams s).dayCodes = s.dayCodes ∧
    (State.beamsBlocked l travel beams s).lastLoaf = s.lastLoaf ∧ (State.beamsBlocked l travel beams s).planner = s.planner ∧ (State.beamsBlocked l travel beams s).slicers = s.slicers ∧
    (State.beamsBlocked l travel beams s).watch = s.watch ∧ (State.beamsBlocked l travel beams s).router = s.router ∧ (State.beamsBlocked l travel beams s).heads = s.heads ∧
    (State.beamsBlocked l travel beams s).lineId = s.lineId ∧ (State.beamsBlocked l travel beams s).tiers = s.tiers ∧ (State.beamsBlocked l travel beams s).totals = s.totals ∧
    (State.beamsBlocked l travel beams s).link = s.link := by
  unfold State.beamsBlocked
  (repeat' split) <;> simp

@[simp] theorem classifySpan_frame (l : Lane) (lead : Quad) (highest : Nat) (product : Option ProductIx) (s : State) :
    (State.classifySpan l lead highest product s).pending = s.pending ∧ (State.classifySpan l lead highest product s).products = s.products ∧ (State.classifySpan l lead highest product s).dayCodes = s.dayCodes ∧
    (State.classifySpan l lead highest product s).assign = s.assign ∧ (State.classifySpan l lead highest product s).lineId = s.lineId ∧ (State.classifySpan l lead highest product s).link = s.link ∧
    (State.classifySpan l lead highest product s).inputs = s.inputs := by
  unfold State.classifySpan
  dsimp only
  (repeat' split) <;> simp

@[simp] theorem closeWindow_frame (l : Lane) (s : State) :
    (State.closeWindow l s).pending = s.pending ∧ (State.closeWindow l s).products = s.products ∧ (State.closeWindow l s).dayCodes = s.dayCodes ∧
    (State.closeWindow l s).assign = s.assign ∧ (State.closeWindow l s).lastLoaf = s.lastLoaf ∧ (State.closeWindow l s).planner = s.planner ∧
    (State.closeWindow l s).slicers = s.slicers ∧ (State.closeWindow l s).watch = s.watch ∧ (State.closeWindow l s).router = s.router ∧
    (State.closeWindow l s).heads = s.heads ∧ (State.closeWindow l s).lineId = s.lineId ∧ (State.closeWindow l s).tiers = s.tiers ∧
    (State.closeWindow l s).crumb = s.crumb ∧ (State.closeWindow l s).air = s.air ∧ (State.closeWindow l s).line = s.line ∧
    (State.closeWindow l s).totals = s.totals ∧ (State.closeWindow l s).notices = s.notices ∧ (State.closeWindow l s).link = s.link ∧
    (State.closeWindow l s).inputs = s.inputs := by
  simp [State.closeWindow]

@[simp] theorem curtainClears_frame (l : Lane) (travel : Quad) (s : State) :
    (State.curtainClears l travel s).pending = s.pending ∧ (State.curtainClears l travel s).products = s.products ∧ (State.curtainClears l travel s).dayCodes = s.dayCodes ∧
    (State.curtainClears l travel s).assign = s.assign ∧ (State.curtainClears l travel s).lineId = s.lineId ∧ (State.curtainClears l travel s).link = s.link := by
  unfold State.curtainClears
  (repeat' split) <;> simp

@[simp] theorem arrival_frame (l : Lane) (n : Nat) (s : State) :
    (State.arrival l n s).pending = s.pending ∧ (State.arrival l n s).products = s.products ∧ (State.arrival l n s).dayCodes = s.dayCodes ∧
    (State.arrival l n s).assign = s.assign ∧ (State.arrival l n s).lastLoaf = s.lastLoaf ∧ (State.arrival l n s).router = s.router ∧
    (State.arrival l n s).lineId = s.lineId ∧ (State.arrival l n s).totals = s.totals ∧ (State.arrival l n s).link = s.link ∧
    (State.arrival l n s).inputs = s.inputs := by
  unfold State.arrival
  (repeat' split) <;> simp

@[simp] theorem replyTrial_frame (p : Plan) (s : State) :
    (State.replyTrial p s).pending = s.pending ∧ (State.replyTrial p s).products = s.products ∧ (State.replyTrial p s).dayCodes = s.dayCodes ∧
    (State.replyTrial p s).assign = s.assign ∧ (State.replyTrial p s).lanes = s.lanes ∧ (State.replyTrial p s).lastLoaf = s.lastLoaf ∧
    (State.replyTrial p s).planner = s.planner ∧ (State.replyTrial p s).slicers = s.slicers ∧ (State.replyTrial p s).watch = s.watch ∧
    (State.replyTrial p s).router = s.router ∧ (State.replyTrial p s).heads = s.heads ∧ (State.replyTrial p s).lineId = s.lineId ∧
    (State.replyTrial p s).tiers = s.tiers ∧ (State.replyTrial p s).crumb = s.crumb ∧ (State.replyTrial p s).air = s.air ∧
    (State.replyTrial p s).line = s.line ∧ (State.replyTrial p s).totals = s.totals ∧ (State.replyTrial p s).inputs = s.inputs := by
  unfold State.replyTrial
  (repeat' split) <;> simp

@[simp] theorem holdCut_frame (l : Lane) (c : Cut) (s : State) :
    (State.holdCut l c s).pending = s.pending ∧ (State.holdCut l c s).products = s.products ∧ (State.holdCut l c s).dayCodes = s.dayCodes ∧
    (State.holdCut l c s).assign = s.assign ∧ (State.holdCut l c s).lastLoaf = s.lastLoaf ∧ (State.holdCut l c s).planner = s.planner ∧
    (State.holdCut l c s).watch = s.watch ∧ (State.holdCut l c s).router = s.router ∧ (State.holdCut l c s).lineId = s.lineId ∧
    (State.holdCut l c s).tiers = s.tiers ∧ (State.holdCut l c s).crumb = s.crumb ∧ (State.holdCut l c s).air = s.air ∧
    (State.holdCut l c s).line = s.line ∧ (State.holdCut l c s).notices = s.notices ∧ (State.holdCut l c s).link = s.link ∧
    (State.holdCut l c s).inputs = s.inputs := by
  simp [State.holdCut]

@[simp] theorem offerCut_frame (l : Lane) (c : Cut) (s : State) :
    (State.offerCut l c s).pending = s.pending ∧ (State.offerCut l c s).products = s.products ∧ (State.offerCut l c s).dayCodes = s.dayCodes ∧
    (State.offerCut l c s).assign = s.assign ∧ (State.offerCut l c s).lastLoaf = s.lastLoaf ∧ (State.offerCut l c s).planner = s.planner ∧
    (State.offerCut l c s).watch = s.watch ∧ (State.offerCut l c s).router = s.router ∧ (State.offerCut l c s).lineId = s.lineId ∧
    (State.offerCut l c s).tiers = s.tiers ∧ (State.offerCut l c s).crumb = s.crumb ∧ (State.offerCut l c s).air = s.air ∧
    (State.offerCut l c s).line = s.line ∧ (State.offerCut l c s).notices = s.notices ∧ (State.offerCut l c s).link = s.link ∧
    (State.offerCut l c s).inputs = s.inputs := by
  unfold State.offerCut
  (repeat' split) <;> simp

@[simp] theorem cutDue_frame (l : Lane) (s : State) :
    (State.cutDue l s).pending = s.pending ∧ (State.cutDue l s).products = s.products ∧ (State.cutDue l s).dayCodes = s.dayCodes ∧
    (State.cutDue l s).assign = s.assign ∧ (State.cutDue l s).lastLoaf = s.lastLoaf ∧ (State.cutDue l s).planner = s.planner ∧
    (State.cutDue l s).watch = s.watch ∧ (State.cutDue l s).router = s.router ∧ (State.cutDue l s).lineId = s.lineId ∧
    (State.cutDue l s).tiers = s.tiers ∧ (State.cutDue l s).link = s.link ∧ (State.cutDue l s).inputs = s.inputs := by
  unfold State.cutDue
  (repeat' split) <;> simp

@[simp] theorem countStroke_frame (l : Lane) (c : Cut) (s : State) :
    (State.countStroke l c s).pending = s.pending ∧ (State.countStroke l c s).products = s.products ∧ (State.countStroke l c s).dayCodes = s.dayCodes ∧
    (State.countStroke l c s).assign = s.assign ∧ (State.countStroke l c s).lanes = s.lanes ∧ (State.countStroke l c s).lastLoaf = s.lastLoaf ∧
    (State.countStroke l c s).planner = s.planner ∧ (State.countStroke l c s).watch = s.watch ∧ (State.countStroke l c s).router = s.router ∧
    (State.countStroke l c s).heads = s.heads ∧ (State.countStroke l c s).lineId = s.lineId ∧ (State.countStroke l c s).tiers = s.tiers ∧
    (State.countStroke l c s).air = s.air ∧ (State.countStroke l c s).line = s.line ∧ (State.countStroke l c s).notices = s.notices ∧
    (State.countStroke l c s).link = s.link ∧ (State.countStroke l c s).inputs = s.inputs := by
  simp [State.countStroke]

@[simp] theorem completeStroke_frame (l : Lane) (c : Cut) (s : State) :
    (State.completeStroke l c s).pending = s.pending ∧ (State.completeStroke l c s).products = s.products ∧ (State.completeStroke l c s).dayCodes = s.dayCodes ∧
    (State.completeStroke l c s).assign = s.assign ∧ (State.completeStroke l c s).lastLoaf = s.lastLoaf ∧ (State.completeStroke l c s).planner = s.planner ∧
    (State.completeStroke l c s).watch = s.watch ∧ (State.completeStroke l c s).router = s.router ∧ (State.completeStroke l c s).lineId = s.lineId ∧
    (State.completeStroke l c s).tiers = s.tiers ∧ (State.completeStroke l c s).air = s.air ∧ (State.completeStroke l c s).line = s.line ∧
    (State.completeStroke l c s).notices = s.notices ∧ (State.completeStroke l c s).link = s.link ∧ (State.completeStroke l c s).inputs = s.inputs := by
  simp [State.completeStroke]

@[simp] theorem bladeHomeRises_frame (l : Lane) (s : State) :
    (State.bladeHomeRises l s).pending = s.pending ∧ (State.bladeHomeRises l s).products = s.products ∧ (State.bladeHomeRises l s).dayCodes = s.dayCodes ∧
    (State.bladeHomeRises l s).assign = s.assign ∧ (State.bladeHomeRises l s).lastLoaf = s.lastLoaf ∧ (State.bladeHomeRises l s).planner = s.planner ∧
    (State.bladeHomeRises l s).watch = s.watch ∧ (State.bladeHomeRises l s).router = s.router ∧ (State.bladeHomeRises l s).lineId = s.lineId ∧
    (State.bladeHomeRises l s).tiers = s.tiers ∧ (State.bladeHomeRises l s).link = s.link := by
  unfold State.bladeHomeRises
  (repeat' split) <;> simp

@[simp] theorem bladeHomeSeen_frame (l : Lane) (s : State) :
    (State.bladeHomeSeen l s).pending = s.pending ∧ (State.bladeHomeSeen l s).products = s.products ∧ (State.bladeHomeSeen l s).dayCodes = s.dayCodes ∧
    (State.bladeHomeSeen l s).assign = s.assign ∧ (State.bladeHomeSeen l s).lastLoaf = s.lastLoaf ∧ (State.bladeHomeSeen l s).planner = s.planner ∧
    (State.bladeHomeSeen l s).watch = s.watch ∧ (State.bladeHomeSeen l s).router = s.router ∧ (State.bladeHomeSeen l s).lineId = s.lineId ∧
    (State.bladeHomeSeen l s).tiers = s.tiers ∧ (State.bladeHomeSeen l s).link = s.link := by
  unfold State.bladeHomeSeen
  (repeat' split) <;> simp

@[simp] theorem bladeHomeFalls_frame (l : Lane) (s : State) :
    (State.bladeHomeFalls l s).pending = s.pending ∧ (State.bladeHomeFalls l s).products = s.products ∧ (State.bladeHomeFalls l s).dayCodes = s.dayCodes ∧
    (State.bladeHomeFalls l s).assign = s.assign ∧ (State.bladeHomeFalls l s).lastLoaf = s.lastLoaf ∧ (State.bladeHomeFalls l s).planner = s.planner ∧
    (State.bladeHomeFalls l s).watch = s.watch ∧ (State.bladeHomeFalls l s).router = s.router ∧ (State.bladeHomeFalls l s).lineId = s.lineId ∧
    (State.bladeHomeFalls l s).tiers = s.tiers ∧ (State.bladeHomeFalls l s).crumb = s.crumb ∧ (State.bladeHomeFalls l s).air = s.air ∧
    (State.bladeHomeFalls l s).line = s.line ∧ (State.bladeHomeFalls l s).totals = s.totals ∧ (State.bladeHomeFalls l s).notices = s.notices ∧
    (State.bladeHomeFalls l s).link = s.link := by
  unfold State.bladeHomeFalls
  (repeat' split) <;> simp

@[simp] theorem timeoutAbandons_frame (l : Lane) (s : State) :
    (State.timeoutAbandons l s).pending = s.pending ∧ (State.timeoutAbandons l s).products = s.products ∧ (State.timeoutAbandons l s).dayCodes = s.dayCodes ∧
    (State.timeoutAbandons l s).assign = s.assign ∧ (State.timeoutAbandons l s).lastLoaf = s.lastLoaf ∧ (State.timeoutAbandons l s).planner = s.planner ∧
    (State.timeoutAbandons l s).watch = s.watch ∧ (State.timeoutAbandons l s).router = s.router ∧ (State.timeoutAbandons l s).lineId = s.lineId ∧
    (State.timeoutAbandons l s).totals = s.totals ∧ (State.timeoutAbandons l s).link = s.link ∧ (State.timeoutAbandons l s).inputs = s.inputs := by
  simp [State.timeoutAbandons]

@[simp] theorem slicerTimeout_frame (l : Lane) (s : State) :
    (State.slicerTimeout l s).pending = s.pending ∧ (State.slicerTimeout l s).products = s.products ∧ (State.slicerTimeout l s).dayCodes = s.dayCodes ∧
    (State.slicerTimeout l s).assign = s.assign ∧ (State.slicerTimeout l s).lastLoaf = s.lastLoaf ∧ (State.slicerTimeout l s).planner = s.planner ∧
    (State.slicerTimeout l s).watch = s.watch ∧ (State.slicerTimeout l s).router = s.router ∧ (State.slicerTimeout l s).lineId = s.lineId ∧
    (State.slicerTimeout l s).totals = s.totals ∧ (State.slicerTimeout l s).link = s.link ∧ (State.slicerTimeout l s).inputs = s.inputs := by
  simp [State.slicerTimeout]

@[simp] theorem beginManual_frame (l : Lane) (s : State) :
    (State.beginManual l s).pending = s.pending ∧ (State.beginManual l s).products = s.products ∧ (State.beginManual l s).dayCodes = s.dayCodes ∧
    (State.beginManual l s).assign = s.assign ∧ (State.beginManual l s).lanes = s.lanes ∧ (State.beginManual l s).lastLoaf = s.lastLoaf ∧
    (State.beginManual l s).planner = s.planner ∧ (State.beginManual l s).slicers = s.slicers ∧ (State.beginManual l s).watch = s.watch ∧
    (State.beginManual l s).router = s.router ∧ (State.beginManual l s).heads = s.heads ∧ (State.beginManual l s).lineId = s.lineId ∧
    (State.beginManual l s).tiers = s.tiers ∧ (State.beginManual l s).line = s.line ∧ (State.beginManual l s).totals = s.totals ∧
    (State.beginManual l s).notices = s.notices ∧ (State.beginManual l s).link = s.link ∧ (State.beginManual l s).inputs = s.inputs := by
  simp [State.beginManual]

@[simp] theorem withdrawPurge_frame (l : Lane) (s : State) :
    (State.withdrawPurge l s).pending = s.pending ∧ (State.withdrawPurge l s).products = s.products ∧ (State.withdrawPurge l s).dayCodes = s.dayCodes ∧
    (State.withdrawPurge l s).assign = s.assign ∧ (State.withdrawPurge l s).lanes = s.lanes ∧ (State.withdrawPurge l s).lastLoaf = s.lastLoaf ∧
    (State.withdrawPurge l s).planner = s.planner ∧ (State.withdrawPurge l s).slicers = s.slicers ∧ (State.withdrawPurge l s).watch = s.watch ∧
    (State.withdrawPurge l s).router = s.router ∧ (State.withdrawPurge l s).heads = s.heads ∧ (State.withdrawPurge l s).lineId = s.lineId ∧
    (State.withdrawPurge l s).tiers = s.tiers ∧ (State.withdrawPurge l s).line = s.line ∧ (State.withdrawPurge l s).totals = s.totals ∧
    (State.withdrawPurge l s).notices = s.notices ∧ (State.withdrawPurge l s).link = s.link ∧ (State.withdrawPurge l s).inputs = s.inputs := by
  simp [State.withdrawPurge]

@[simp] theorem purgeStop_frame (l : Lane) (s : State) :
    (State.purgeStop l s).pending = s.pending ∧ (State.purgeStop l s).products = s.products ∧ (State.purgeStop l s).dayCodes = s.dayCodes ∧
    (State.purgeStop l s).assign = s.assign ∧ (State.purgeStop l s).lanes = s.lanes ∧ (State.purgeStop l s).lastLoaf = s.lastLoaf ∧
    (State.purgeStop l s).planner = s.planner ∧ (State.purgeStop l s).slicers = s.slicers ∧ (State.purgeStop l s).watch = s.watch ∧
    (State.purgeStop l s).router = s.router ∧ (State.purgeStop l s).heads = s.heads ∧ (State.purgeStop l s).lineId = s.lineId ∧
    (State.purgeStop l s).tiers = s.tiers ∧ (State.purgeStop l s).line = s.line ∧ (State.purgeStop l s).totals = s.totals ∧
    (State.purgeStop l s).notices = s.notices ∧ (State.purgeStop l s).link = s.link ∧ (State.purgeStop l s).inputs = s.inputs := by
  unfold State.purgeStop
  (repeat' split) <;> simp

@[simp] theorem giveUpPurge_frame (l : Lane) (s : State) :
    (State.giveUpPurge l s).pending = s.pending ∧ (State.giveUpPurge l s).products = s.products ∧ (State.giveUpPurge l s).dayCodes = s.dayCodes ∧
    (State.giveUpPurge l s).assign = s.assign ∧ (State.giveUpPurge l s).lanes = s.lanes ∧ (State.giveUpPurge l s).lastLoaf = s.lastLoaf ∧
    (State.giveUpPurge l s).planner = s.planner ∧ (State.giveUpPurge l s).slicers = s.slicers ∧ (State.giveUpPurge l s).watch = s.watch ∧
    (State.giveUpPurge l s).router = s.router ∧ (State.giveUpPurge l s).heads = s.heads ∧ (State.giveUpPurge l s).lineId = s.lineId ∧
    (State.giveUpPurge l s).tiers = s.tiers ∧ (State.giveUpPurge l s).line = s.line ∧ (State.giveUpPurge l s).totals = s.totals ∧
    (State.giveUpPurge l s).link = s.link ∧ (State.giveUpPurge l s).inputs = s.inputs := by
  simp [State.giveUpPurge]

@[simp] theorem completePurge_frame (l : Lane) (s : State) :
    (State.completePurge l s).pending = s.pending ∧ (State.completePurge l s).products = s.products ∧ (State.completePurge l s).dayCodes = s.dayCodes ∧
    (State.completePurge l s).assign = s.assign ∧ (State.completePurge l s).lanes = s.lanes ∧ (State.completePurge l s).lastLoaf = s.lastLoaf ∧
    (State.completePurge l s).planner = s.planner ∧ (State.completePurge l s).slicers = s.slicers ∧ (State.completePurge l s).watch = s.watch ∧
    (State.completePurge l s).router = s.router ∧ (State.completePurge l s).heads = s.heads ∧ (State.completePurge l s).lineId = s.lineId ∧
    (State.completePurge l s).tiers = s.tiers ∧ (State.completePurge l s).line = s.line ∧ (State.completePurge l s).link = s.link ∧
    (State.completePurge l s).inputs = s.inputs := by
  simp [State.completePurge]

@[simp] theorem connectHead_frame (h : Head) (src : Source) (s : State) :
    (State.connectHead h src s).pending = s.pending ∧ (State.connectHead h src s).products = s.products ∧ (State.connectHead h src s).dayCodes = s.dayCodes ∧
    (State.connectHead h src s).assign = s.assign ∧ (State.connectHead h src s).lastLoaf = s.lastLoaf ∧ (State.connectHead h src s).planner = s.planner ∧
    (State.connectHead h src s).watch = s.watch ∧ (State.connectHead h src s).lineId = s.lineId ∧ (State.connectHead h src s).totals = s.totals ∧
    (State.connectHead h src s).link = s.link ∧ (State.connectHead h src s).inputs = s.inputs := by
  unfold State.connectHead
  (repeat' split) <;> simp

@[simp] theorem connectPair_frame (t : State) (p : Head × Option Source) :
    (State.connectPair t p).pending = t.pending ∧ (State.connectPair t p).products = t.products ∧ (State.connectPair t p).dayCodes = t.dayCodes ∧
    (State.connectPair t p).assign = t.assign ∧ (State.connectPair t p).lastLoaf = t.lastLoaf ∧ (State.connectPair t p).planner = t.planner ∧
    (State.connectPair t p).watch = t.watch ∧ (State.connectPair t p).lineId = t.lineId ∧ (State.connectPair t p).totals = t.totals ∧
    (State.connectPair t p).link = t.link ∧ (State.connectPair t p).inputs = t.inputs := by
  unfold State.connectPair
  (repeat' split) <;> simp

@[simp] theorem connectAll_frame (pairs : List (Head × Option Source)) (s : State) :
    (State.connectAll pairs s).pending = s.pending ∧ (State.connectAll pairs s).products = s.products ∧ (State.connectAll pairs s).dayCodes = s.dayCodes ∧
    (State.connectAll pairs s).assign = s.assign ∧ (State.connectAll pairs s).lastLoaf = s.lastLoaf ∧ (State.connectAll pairs s).planner = s.planner ∧
    (State.connectAll pairs s).watch = s.watch ∧ (State.connectAll pairs s).lineId = s.lineId ∧ (State.connectAll pairs s).totals = s.totals ∧
    (State.connectAll pairs s).link = s.link ∧ (State.connectAll pairs s).inputs = s.inputs := by
  have h := foldl_keeps (fun (t : State) => (t.pending, t.products, t.dayCodes, t.assign, t.lastLoaf, t.planner, t.watch, t.lineId, t.totals, t.link, t.inputs))
    State.connectPair (by simp) pairs s
  simpa [State.connectAll] using h

@[simp] theorem homeBlades_frame (s : State) :
    (State.homeBlades s).pending = s.pending ∧ (State.homeBlades s).products = s.products ∧ (State.homeBlades s).dayCodes = s.dayCodes ∧
    (State.homeBlades s).assign = s.assign ∧ (State.homeBlades s).lastLoaf = s.lastLoaf ∧ (State.homeBlades s).planner = s.planner ∧
    (State.homeBlades s).watch = s.watch ∧ (State.homeBlades s).router = s.router ∧ (State.homeBlades s).lineId = s.lineId ∧
    (State.homeBlades s).tiers = s.tiers ∧ (State.homeBlades s).crumb = s.crumb ∧ (State.homeBlades s).air = s.air ∧
    (State.homeBlades s).line = s.line ∧ (State.homeBlades s).totals = s.totals ∧ (State.homeBlades s).notices = s.notices ∧
    (State.homeBlades s).link = s.link ∧ (State.homeBlades s).inputs = s.inputs := by
  simp [State.homeBlades]

@[simp] theorem abortManual_frame (l : Lane) (s : State) :
    (State.abortManual l s).pending = s.pending ∧ (State.abortManual l s).products = s.products ∧ (State.abortManual l s).dayCodes = s.dayCodes ∧
    (State.abortManual l s).assign = s.assign ∧ (State.abortManual l s).lanes = s.lanes ∧ (State.abortManual l s).lastLoaf = s.lastLoaf ∧
    (State.abortManual l s).planner = s.planner ∧ (State.abortManual l s).slicers = s.slicers ∧ (State.abortManual l s).watch = s.watch ∧
    (State.abortManual l s).router = s.router ∧ (State.abortManual l s).heads = s.heads ∧ (State.abortManual l s).lineId = s.lineId ∧
    (State.abortManual l s).tiers = s.tiers ∧ (State.abortManual l s).line = s.line ∧ (State.abortManual l s).totals = s.totals ∧
    (State.abortManual l s).link = s.link ∧ (State.abortManual l s).inputs = s.inputs := by
  unfold State.abortManual
  (repeat' split) <;> simp

@[simp] theorem takeSingle_frame (l : Lane) (s : State) :
    (State.takeSingle l s).pending = s.pending ∧ (State.takeSingle l s).products = s.products ∧ (State.takeSingle l s).dayCodes = s.dayCodes ∧
    (State.takeSingle l s).assign = s.assign ∧ (State.takeSingle l s).lanes = s.lanes ∧ (State.takeSingle l s).lastLoaf = s.lastLoaf ∧
    (State.takeSingle l s).planner = s.planner ∧ (State.takeSingle l s).slicers = s.slicers ∧ (State.takeSingle l s).watch = s.watch ∧
    (State.takeSingle l s).router = s.router ∧ (State.takeSingle l s).heads = s.heads ∧ (State.takeSingle l s).lineId = s.lineId ∧
    (State.takeSingle l s).tiers = s.tiers ∧ (State.takeSingle l s).line = s.line ∧ (State.takeSingle l s).totals = s.totals ∧
    (State.takeSingle l s).notices = s.notices ∧ (State.takeSingle l s).link = s.link ∧ (State.takeSingle l s).inputs = s.inputs := by
  unfold State.takeSingle
  (repeat' split) <;> simp

@[simp] theorem crumbsRun_frame (s : State) :
    (State.crumbsRun s).pending = s.pending ∧ (State.crumbsRun s).products = s.products ∧ (State.crumbsRun s).dayCodes = s.dayCodes ∧
    (State.crumbsRun s).assign = s.assign ∧ (State.crumbsRun s).lanes = s.lanes ∧ (State.crumbsRun s).lastLoaf = s.lastLoaf ∧
    (State.crumbsRun s).planner = s.planner ∧ (State.crumbsRun s).slicers = s.slicers ∧ (State.crumbsRun s).watch = s.watch ∧
    (State.crumbsRun s).router = s.router ∧ (State.crumbsRun s).heads = s.heads ∧ (State.crumbsRun s).lineId = s.lineId ∧
    (State.crumbsRun s).tiers = s.tiers ∧ (State.crumbsRun s).line = s.line ∧ (State.crumbsRun s).totals = s.totals ∧
    (State.crumbsRun s).link = s.link ∧ (State.crumbsRun s).inputs = s.inputs := by
  simp [State.crumbsRun]

@[simp] theorem startLine_frame (s : State) :
    (State.startLine s).pending = s.pending ∧ (State.startLine s).products = s.products ∧ (State.startLine s).dayCodes = s.dayCodes ∧
    (State.startLine s).assign = s.assign ∧ (State.startLine s).lastLoaf = s.lastLoaf ∧ (State.startLine s).planner = s.planner ∧
    (State.startLine s).watch = s.watch ∧ (State.startLine s).lineId = s.lineId ∧ (State.startLine s).link = s.link ∧
    (State.startLine s).inputs = s.inputs := by
  simp [State.startLine]

@[simp] theorem endHalt_frame (s : State) :
    (State.endHalt s).pending = s.pending ∧ (State.endHalt s).products = s.products ∧ (State.endHalt s).dayCodes = s.dayCodes ∧
    (State.endHalt s).assign = s.assign ∧ (State.endHalt s).lanes = s.lanes ∧ (State.endHalt s).lastLoaf = s.lastLoaf ∧
    (State.endHalt s).planner = s.planner ∧ (State.endHalt s).slicers = s.slicers ∧ (State.endHalt s).watch = s.watch ∧
    (State.endHalt s).router = s.router ∧ (State.endHalt s).heads = s.heads ∧ (State.endHalt s).lineId = s.lineId ∧
    (State.endHalt s).tiers = s.tiers ∧ (State.endHalt s).crumb = s.crumb ∧ (State.endHalt s).air = s.air ∧
    (State.endHalt s).totals = s.totals ∧ (State.endHalt s).notices = s.notices ∧ (State.endHalt s).link = s.link ∧
    (State.endHalt s).inputs = s.inputs := by
  simp [State.endHalt]

@[simp] theorem resumeLine_frame (s : State) :
    (State.resumeLine s).pending = s.pending ∧ (State.resumeLine s).products = s.products ∧ (State.resumeLine s).dayCodes = s.dayCodes ∧
    (State.resumeLine s).assign = s.assign ∧ (State.resumeLine s).lastLoaf = s.lastLoaf ∧ (State.resumeLine s).planner = s.planner ∧
    (State.resumeLine s).watch = s.watch ∧ (State.resumeLine s).lineId = s.lineId ∧ (State.resumeLine s).link = s.link ∧
    (State.resumeLine s).inputs = s.inputs := by
  simp [State.resumeLine]

@[simp] theorem openWindow_frame (s : State) :
    (State.openWindow s).pending = s.pending ∧ (State.openWindow s).products = s.products ∧ (State.openWindow s).dayCodes = s.dayCodes ∧
    (State.openWindow s).assign = s.assign ∧ (State.openWindow s).lanes = s.lanes ∧ (State.openWindow s).lastLoaf = s.lastLoaf ∧
    (State.openWindow s).planner = s.planner ∧ (State.openWindow s).slicers = s.slicers ∧ (State.openWindow s).watch = s.watch ∧
    (State.openWindow s).router = s.router ∧ (State.openWindow s).heads = s.heads ∧ (State.openWindow s).lineId = s.lineId ∧
    (State.openWindow s).tiers = s.tiers ∧ (State.openWindow s).crumb = s.crumb ∧ (State.openWindow s).air = s.air ∧
    (State.openWindow s).totals = s.totals ∧ (State.openWindow s).link = s.link ∧ (State.openWindow s).inputs = s.inputs := by
  unfold State.openWindow
  dsimp only
  (repeat' split) <;> simp

@[simp] theorem clearRecord_frame (l : Lane) (s : State) (r : LoafRecord) :
    (State.clearRecord l s r).pending = s.pending ∧ (State.clearRecord l s r).products = s.products ∧ (State.clearRecord l s r).dayCodes = s.dayCodes ∧
    (State.clearRecord l s r).assign = s.assign ∧ (State.clearRecord l s r).lastLoaf = s.lastLoaf ∧ (State.clearRecord l s r).planner = s.planner ∧
    (State.clearRecord l s r).slicers = s.slicers ∧ (State.clearRecord l s r).watch = s.watch ∧ (State.clearRecord l s r).router = s.router ∧
    (State.clearRecord l s r).heads = s.heads ∧ (State.clearRecord l s r).lineId = s.lineId ∧ (State.clearRecord l s r).tiers = s.tiers ∧
    (State.clearRecord l s r).crumb = s.crumb ∧ (State.clearRecord l s r).air = s.air ∧ (State.clearRecord l s r).line = s.line ∧
    (State.clearRecord l s r).link = s.link ∧ (State.clearRecord l s r).inputs = s.inputs := by
  simp [State.clearRecord]

@[simp] theorem clearLane_frame (l : Lane) (s : State) :
    (State.clearLane l s).pending = s.pending ∧ (State.clearLane l s).products = s.products ∧ (State.clearLane l s).dayCodes = s.dayCodes ∧
    (State.clearLane l s).assign = s.assign ∧ (State.clearLane l s).lastLoaf = s.lastLoaf ∧ (State.clearLane l s).planner = s.planner ∧
    (State.clearLane l s).slicers = s.slicers ∧ (State.clearLane l s).watch = s.watch ∧ (State.clearLane l s).router = s.router ∧
    (State.clearLane l s).heads = s.heads ∧ (State.clearLane l s).lineId = s.lineId ∧ (State.clearLane l s).tiers = s.tiers ∧
    (State.clearLane l s).crumb = s.crumb ∧ (State.clearLane l s).air = s.air ∧ (State.clearLane l s).line = s.line ∧
    (State.clearLane l s).link = s.link ∧ (State.clearLane l s).inputs = s.inputs := by
  have h := foldl_keeps (fun (t : State) => (t.pending, t.products, t.dayCodes, t.assign, t.lastLoaf, t.planner, t.slicers, t.watch, t.router, t.heads, t.lineId, t.tiers, t.crumb, t.air, t.line, t.link, t.inputs))
    (State.clearRecord l) (by simp) (s.lanes.get l).queue s
  simpa [State.clearLane] using h

@[simp] theorem clearLanes_frame (s : State) :
    (State.clearLanes s).pending = s.pending ∧ (State.clearLanes s).products = s.products ∧ (State.clearLanes s).dayCodes = s.dayCodes ∧
    (State.clearLanes s).assign = s.assign ∧ (State.clearLanes s).lastLoaf = s.lastLoaf ∧ (State.clearLanes s).slicers = s.slicers ∧
    (State.clearLanes s).watch = s.watch ∧ (State.clearLanes s).heads = s.heads ∧ (State.clearLanes s).lineId = s.lineId ∧
    (State.clearLanes s).tiers = s.tiers ∧ (State.clearLanes s).crumb = s.crumb ∧ (State.clearLanes s).air = s.air ∧
    (State.clearLanes s).line = s.line ∧ (State.clearLanes s).link = s.link ∧ (State.clearLanes s).inputs = s.inputs := by
  simp [State.clearLanes]

@[simp] theorem clearSlicers_frame (s : State) :
    (State.clearSlicers s).pending = s.pending ∧ (State.clearSlicers s).products = s.products ∧ (State.clearSlicers s).dayCodes = s.dayCodes ∧
    (State.clearSlicers s).assign = s.assign ∧ (State.clearSlicers s).lanes = s.lanes ∧ (State.clearSlicers s).lastLoaf = s.lastLoaf ∧
    (State.clearSlicers s).planner = s.planner ∧ (State.clearSlicers s).watch = s.watch ∧ (State.clearSlicers s).router = s.router ∧
    (State.clearSlicers s).heads = s.heads ∧ (State.clearSlicers s).lineId = s.lineId ∧ (State.clearSlicers s).tiers = s.tiers ∧
    (State.clearSlicers s).crumb = s.crumb ∧ (State.clearSlicers s).air = s.air ∧ (State.clearSlicers s).line = s.line ∧
    (State.clearSlicers s).totals = s.totals ∧ (State.clearSlicers s).notices = s.notices ∧ (State.clearSlicers s).link = s.link ∧
    (State.clearSlicers s).inputs = s.inputs := by
  simp [State.clearSlicers]

@[simp] theorem clearHeads_frame (s : State) :
    (State.clearHeads s).pending = s.pending ∧ (State.clearHeads s).products = s.products ∧ (State.clearHeads s).dayCodes = s.dayCodes ∧
    (State.clearHeads s).assign = s.assign ∧ (State.clearHeads s).lastLoaf = s.lastLoaf ∧ (State.clearHeads s).planner = s.planner ∧
    (State.clearHeads s).watch = s.watch ∧ (State.clearHeads s).lineId = s.lineId ∧ (State.clearHeads s).link = s.link ∧
    (State.clearHeads s).inputs = s.inputs := by
  simp [State.clearHeads]

@[simp] theorem clearCrumbs_frame (s : State) :
    (State.clearCrumbs s).pending = s.pending ∧ (State.clearCrumbs s).products = s.products ∧ (State.clearCrumbs s).dayCodes = s.dayCodes ∧
    (State.clearCrumbs s).assign = s.assign ∧ (State.clearCrumbs s).lanes = s.lanes ∧ (State.clearCrumbs s).lastLoaf = s.lastLoaf ∧
    (State.clearCrumbs s).planner = s.planner ∧ (State.clearCrumbs s).slicers = s.slicers ∧ (State.clearCrumbs s).watch = s.watch ∧
    (State.clearCrumbs s).router = s.router ∧ (State.clearCrumbs s).heads = s.heads ∧ (State.clearCrumbs s).lineId = s.lineId ∧
    (State.clearCrumbs s).tiers = s.tiers ∧ (State.clearCrumbs s).line = s.line ∧ (State.clearCrumbs s).totals = s.totals ∧
    (State.clearCrumbs s).link = s.link ∧ (State.clearCrumbs s).inputs = s.inputs := by
  simp [State.clearCrumbs]

@[simp] theorem disarmChains_frame (s : State) :
    (State.disarmChains s).pending = s.pending ∧ (State.disarmChains s).products = s.products ∧ (State.disarmChains s).dayCodes = s.dayCodes ∧
    (State.disarmChains s).assign = s.assign ∧ (State.disarmChains s).lanes = s.lanes ∧ (State.disarmChains s).lastLoaf = s.lastLoaf ∧
    (State.disarmChains s).planner = s.planner ∧ (State.disarmChains s).slicers = s.slicers ∧ (State.disarmChains s).router = s.router ∧
    (State.disarmChains s).heads = s.heads ∧ (State.disarmChains s).lineId = s.lineId ∧ (State.disarmChains s).tiers = s.tiers ∧
    (State.disarmChains s).crumb = s.crumb ∧ (State.disarmChains s).air = s.air ∧ (State.disarmChains s).line = s.line ∧
    (State.disarmChains s).totals = s.totals ∧ (State.disarmChains s).notices = s.notices ∧ (State.disarmChains s).link = s.link ∧
    (State.disarmChains s).inputs = s.inputs := by
  simp [State.disarmChains]

@[simp] theorem clearLine_frame (s : State) :
    (State.clearLine s).pending = s.pending ∧ (State.clearLine s).products = s.products ∧ (State.clearLine s).dayCodes = s.dayCodes ∧
    (State.clearLine s).assign = s.assign ∧ (State.clearLine s).lanes = s.lanes ∧ (State.clearLine s).lastLoaf = s.lastLoaf ∧
    (State.clearLine s).planner = s.planner ∧ (State.clearLine s).slicers = s.slicers ∧ (State.clearLine s).watch = s.watch ∧
    (State.clearLine s).router = s.router ∧ (State.clearLine s).heads = s.heads ∧ (State.clearLine s).lineId = s.lineId ∧
    (State.clearLine s).tiers = s.tiers ∧ (State.clearLine s).crumb = s.crumb ∧ (State.clearLine s).air = s.air ∧
    (State.clearLine s).totals = s.totals ∧ (State.clearLine s).link = s.link ∧ (State.clearLine s).inputs = s.inputs := by
  unfold State.clearLine
  dsimp only
  (repeat' split) <;> simp

@[simp] theorem lineClear_frame (s : State) :
    (State.lineClear s).pending = s.pending ∧ (State.lineClear s).products = s.products ∧ (State.lineClear s).dayCodes = s.dayCodes ∧
    (State.lineClear s).assign = s.assign ∧ (State.lineClear s).lastLoaf = s.lastLoaf ∧ (State.lineClear s).lineId = s.lineId ∧
    (State.lineClear s).link = s.link ∧ (State.lineClear s).inputs = s.inputs := by
  simp [State.lineClear]

end Sys2Proof.Machine
end

