-- ==== Sys2Proof/Laws/Belts.lean ====
section
/-! SUPPORT. Where each lane stands and how it is laid out: an admission and the positional events it takes move no belt, so
every point of R27 step 5 is judged against one position. -/

namespace Sys2Proof.Machine

/-- A lane's position and its geometry. -/
def PerLane.belt (l : Lane) (x : PerLane LaneState) : Quad × Geometry := ((x.get l).position, (x.get l).geometry)

@[simp] theorem belt_set (k l : Lane) (q : LaneState) (x : PerLane LaneState)
    (hp : q.position = (x.get k).position) (hg : q.geometry = (x.get k).geometry) : (x.set k q).belt l = x.belt l := by
  cases k <;> cases l <;> simp_all [PerLane.belt, PerLane.get, PerLane.set]

@[simp] theorem belt_modLane (k l : Lane) (f : LaneState → LaneState) (s : State)
    (hf : ∀ q, (f q).position = q.position ∧ (f q).geometry = q.geometry) : (s.modLane k f).lanes.belt l = s.lanes.belt l := by
  cases k <;> cases l <;> simp [PerLane.belt, State.modLane, PerLane.get, PerLane.set, hf]

@[simp] theorem belt_updateRecord (n : Nat) (f : LoafRecord → LoafRecord) (l : Lane) (s : State) :
    (s.updateRecord n f).lanes.belt l = s.lanes.belt l := by
  cases l <;> rfl

@[simp] theorem belt_modSlicer (k l : Lane) (f : Slicer → Slicer) (s : State) : (s.modSlicer k f).lanes.belt l = s.lanes.belt l := rfl
@[simp] theorem belt_modHead (h : Head) (l : Lane) (f : HeadState → HeadState) (s : State) : (s.modHead h f).lanes.belt l = s.lanes.belt l := rfl
@[simp] theorem belt_notify (n : Notice) (l : Lane) (s : State) : (s.notify n).lanes.belt l = s.lanes.belt l := rfl
@[simp] theorem belt_setLine (x : LineState) (l : Lane) (s : State) : (s.setLine x).lanes.belt l = s.lanes.belt l := rfl

@[simp] theorem belt_dequeue (k l : Lane) (n : Nat) (s : State) : (s.dequeue k n).lanes.belt l = s.lanes.belt l :=
  belt_modLane k l _ s fun _ => ⟨rfl, rfl⟩

@[simp] theorem belt_report (r : LoafRecord) (how : LeftBy) (h : Option Head) (tie : Option TieResult) (l : Lane) (s : State) :
    (s.report r how h tie).lanes.belt l = s.lanes.belt l := by
  unfold State.report; dsimp only; split <;> rfl

@[simp] theorem belt_countLoaf (p : ProductIx) (full : ProductTotals → Bool) (f : ProductTotals → ProductTotals) (l : Lane) (s : State) :
    (s.countLoaf p full f).lanes.belt l = s.lanes.belt l := by
  simp

@[simp] theorem belt_trySliced (k l : Lane) (n : Nat) (s : State) : (s.trySliced k n).lanes.belt l = s.lanes.belt l := by
  unfold State.trySliced; split <;> simp

@[simp] theorem belt_abandonStroke (k l : Lane) (s : State) : (s.abandonStroke k).lanes.belt l = s.lanes.belt l := by
  unfold State.abandonStroke
  rw [foldl_keeps (fun (t : State) => t.lanes.belt l) (fun t n => t.abandonLoaf k n) (by intro t n; simp [State.abandonLoaf])]
  simp

@[simp] theorem belt_enterHalted (l : Lane) (s : State) : s.enterHalted.lanes.belt l = s.lanes.belt l := by
  have : ∀ t : State, ((t.abandonStroke .a).abandonStroke .b).lanes.belt l = t.lanes.belt l := by simp
  exact this _

@[simp] theorem belt_drainTest (l : Lane) (s : State) : s.drainTest.lanes.belt l = s.lanes.belt l := by
  unfold State.drainTest; split <;> rfl

@[simp] theorem belt_stopLine (c : Cause) (l : Lane) (s : State) : (s.stopLine c).lanes.belt l = s.lanes.belt l := by
  unfold State.stopLine State.enterDraining
  (repeat' split) <;> simp

@[simp] theorem belt_abortPurge (b : Bool) (k l : Lane) (s : State) : (s.abortPurge b k).lanes.belt l = s.lanes.belt l := by
  unfold State.abortPurge; dsimp only; split <;> rfl

@[simp] theorem belt_raise (c : Cause) (l : Lane) (s : State) : (s.raise c).lanes.belt l = s.lanes.belt l := by
  have : ∀ t : State, (if c.immediate then ((t.stopLine c).abortPurge false .a).abortPurge false .b else t.stopLine c).lanes.belt l = t.lanes.belt l := by
    intro t; split <;> simp
  refine (this _).trans ?_
  unfold State.makePresent; split <;> rfl

@[simp] theorem belt_fireEntry (i : Fin 4) (n : Nat) (k l : Lane) (s : State) : (s.fireEntry i n k).lanes.belt l = s.lanes.belt l := by
  unfold State.fireEntry
  dsimp only
  (repeat' split) <;> simp

@[simp] theorem belt_settleEntry (r : LoafRecord) (chains : Vector (Option Nat) 2) (l : Lane) (s : State) (i : Fin 4) :
    (s.settleEntry r chains i).lanes.belt l = s.lanes.belt l := by
  unfold State.settleEntry
  dsimp only
  (repeat' split) <;> simp

@[simp] theorem belt_captureDecision (n : Nat) (c : Summary) (start stop : Bool) (l : Lane) (s : State) :
    (s.captureDecision n c start stop).lanes.belt l = s.lanes.belt l := by
  unfold State.captureDecision
  dsimp only
  (repeat' split) <;> rfl

@[simp] theorem belt_evaluate (n : Nat) (l : Lane) (s : State) : (s.evaluate n).lanes.belt l = s.lanes.belt l := by
  unfold State.evaluate
  split
  · rfl
  · rename_i r _
    have h := foldl_keeps (fun (t : State) => t.lanes.belt l) (fun t (i : Fin 4) => t.settleEntry r s.watch.chains i) (fun t i => by simp) [0, 1, 2, 3] s
    dsimp only
    (repeat' split) <;> first
      | exact h
      | (rw [belt_captureDecision]; exact h)

@[simp] theorem belt_promote (k l : Lane) (s : State) : (s.promote k).lanes.belt l = s.lanes.belt l := by
  unfold State.promote
  split
  · rfl
  · exact (belt_updateRecord _ _ l _).trans (belt_modLane k l _ s fun _ => ⟨rfl, rfl⟩)

@[simp] theorem belt_releaseTo (h : Head) (n : Nat) (k l : Lane) (s : State) : (s.releaseTo h n k).lanes.belt l = s.lanes.belt l := by
  unfold State.releaseTo
  split
  · rfl
  · simp

@[simp] theorem belt_attemptReleases (l : Lane) (s : State) : s.attemptReleases.lanes.belt l = s.lanes.belt l := by
  unfold State.attemptReleases
  split
  · exact foldl_keeps (fun (t : State) => t.lanes.belt l) State.offerTo (by intro t h; unfold State.offerTo; split <;> simp) _ _
  · rfl

/-- R30 to R33: a positional event moves no belt and lays out no lane anew. -/
@[simp] theorem belt_positionalEvent (e : Positional) (k l : Lane) (n : Nat) (s : State) :
    (s.positionalEvent e k n).lanes.belt l = s.lanes.belt l := by
  have slicing : ∀ t : State, ∀ r, (t.endSlicing k r).lanes.belt l = t.lanes.belt l := fun t r => by
    unfold State.endSlicing; split <;> simp
  cases e
  · simp only [State.positionalEvent, State.bladeLineEvent]
    (repeat' split) <;> simp [State.failPlan]
  · simp only [State.positionalEvent, State.trailingEvent]
    (repeat' split) <;> simp
  · simp only [State.positionalEvent, State.rejectGateEvent]
    (repeat' split) <;> simp
  · simp only [State.positionalEvent, State.routerGateEvent]
    (repeat' split) <;> simp [slicing]

/-- R29: without its record in the queue a positional event has no effect. -/
theorem positionalEvent_of_absent {e : Positional} {l : Lane} {n : Nat} {s : State} (h : s.queued l n = none) :
    s.positionalEvent e l n = s := by
  cases e <;> simp [State.positionalEvent, State.bladeLineEvent, State.trailingEvent, State.rejectGateEvent,
    State.routerGateEvent, h]

/-- R27 step 5: a point is judged against the belt, which the events before it have left in place. -/
theorem takeReached_of_belt (e : Positional) (l : Lane) (r : LoafRecord) {s u : State} (h : u.lanes.belt l = s.lanes.belt l) :
    u.takeReached l r e =
      if atOrBeyond (s.lanes.get l).position (pointAt r.lead (e.distance (s.lanes.get l).geometry r)) then
        u.positionalEvent e l r.number else u := by
  have hp : (u.lanes.get l).position = (s.lanes.get l).position := congrArg Prod.fst h
  have hg : (u.lanes.get l).geometry = (s.lanes.get l).geometry := congrArg Prod.snd h
  simp only [State.takeReached, hp, hg]

end Sys2Proof.Machine
end

