-- ==== Sys2Proof/Laws/Cases.lean ====
section
/-! SUPPORT. What a shared operation that tests a condition can do, said once: it leaves the state as it is, or it has its
effect and the condition held. -/

namespace Sys2Proof.Machine

/-! ### Notices and totals -/

/-- R177: dropped, queued or lost. -/
theorem place_cases (n : Notice) (q : Notices) :
    (q.enabled.getLsbD n.classBit = false ∧ q.place n = q) ∨
    (q.enabled.getLsbD n.classBit = true ∧ q.queue.length < 32 ∧ q.place n = { q with queue := q.queue ++ [n] }) ∨
    (q.enabled.getLsbD n.classBit = true ∧ 32 ≤ q.queue.length ∧ q.place n = { q with lost := true }) := by
  unfold Notices.place
  cases h : q.enabled.getLsbD n.classBit with
  | false => simp
  | true =>
    by_cases hl : q.queue.length < Limits.noticePlaces
    · have : q.queue.length < 32 := hl
      simp [hl, this]
    · have : ¬ q.queue.length < 32 := hl
      simp [hl, this]; omega

/-- R164: a count of loaves falls in the shift, or in the new one after an automatic close. -/
theorem countLoaf_cases (p : ProductIx) (atLimit : ProductTotals → Bool) (bump : ProductTotals → ProductTotals) (s : State) :
    (atLimit s.totals.products[p] = false ∧ s.countLoaf p atLimit bump = s.modProductTotals p bump) ∨
    (atLimit s.totals.products[p] = true ∧ s.countLoaf p atLimit bump = (s.closeShift true).modProductTotals p bump) := by
  unfold State.countLoaf
  cases h : atLimit s.totals.products[p] <;> simp

/-! ### Crumb clearing -/

/-- R134: the start test changes nothing, or enters GAP_WAIT. -/
theorem startTest_cases (l : Lane) (s : State) :
    s.startTest l = s ∨ (s.startTest l = s.enterGapWait l ∧ (s.crumb.get l).mode = .auto ∧ (s.crumb.get l).step = .watching ∧
      s.moving = true ∧ (s.crumb.get l).holdOff = none) := by
  simp only [State.startTest]
  split
  · rename_i h
    exact .inr ⟨rfl, h.1, h.2.1, h.2.2.1, h.2.2.2.1⟩
  · exact .inl rfl

/-- R136: a purge begins in GAP_WAIT with the grant on a quiet lane, or nothing changes. -/
theorem beginPurge_cases (l : Lane) (s : State) :
    s.beginPurge l = s ∨ (s.beginPurge l = (s.modCrumb l fun c => { c.goTo .purging with phase := some c.purgeTime }) ∧
      (s.crumb.get l).step = .gapWait ∧ s.air.holder = some l ∧ s.quiet l = true) := by
  unfold State.beginPurge
  split
  · rename_i h
    exact .inr ⟨rfl, h⟩
  · exact .inl rfl

/-- R145: a purge under way is aborted with its notice, or nothing changes. -/
theorem abortPurge_cases (byClear : Bool) (l : Lane) (s : State) :
    ((s.crumb.get l).step.inCycle = false ∧ s.abortPurge byClear l = s) ∨
    ((s.crumb.get l).step.inCycle = true ∧ s.abortPurge byClear l =
      (s.resetCrumb l).notify (.purgeAborted l (s.crumb.get l).step (s.crumb.get l).load byClear)) := by
  simp only [State.abortPurge]
  cases h : (s.crumb.get l).step.inCycle <;> simp

/-! ### The line -/

/-- R160: a complete drain brings the line to STOPPED, or nothing changes. -/
theorem drainTest_cases (s : State) :
    s.drainTest = s ∨ (s.line.state = .draining ∧ s.drained = true ∧
      s.drainTest.line = ⟨.stopped, s.line.causes.atStopped, s.line.latched, none⟩) := by
  by_cases h : s.line.state = .draining ∧ s.drained = true
  · exact .inr ⟨h.1, h.2, by simp [State.drainTest, h, State.setLine, State.notify]⟩
  · exact .inl (by unfold State.drainTest; rw [if_neg h])

/-- R149 step 4: a halt, the entry into a drain, or no change. -/
theorem stopLine_cases (c : Cause) (s : State) :
    (c.immediate = true ∧ s.moving = true ∧ s.stopLine c = s.enterHalted) ∨
    (c.immediate = false ∧ s.line.state = .running ∧ s.stopLine c = s.enterDraining) ∨ s.stopLine c = s := by
  unfold State.stopLine
  cases h : c.immediate with
  | true =>
    cases m : s.moving with
    | true => exact .inl ⟨rfl, rfl, by simp⟩
    | false => exact .inr (.inr (by simp))
  | false =>
    by_cases r : s.line.state = .running
    · exact .inr (.inl ⟨rfl, r, by simp [r]⟩)
    · exact .inr (.inr (by simp [r]))

/-! ### Stations -/

/-- R67: the record becomes SLICED where the station is done with it, or nothing changes. -/
theorem trySliced_cases (l : Lane) (n : Nat) (s : State) :
    s.trySliced l n = s ∨
      ((s.slicers.get l).doneWith n = true ∧ s.trySliced l n = s.updateRecord n LoafRecord.becomeSliced) := by
  unfold State.trySliced
  split
  · rename_i h
    exact .inr ⟨h, rfl⟩
  · exact .inl rfl

/-- R66 step 5, R71: the freed blade serves the pending cut, or is HOME. -/
theorem freeBlade_cases (l : Lane) (s : State) :
    ((s.slicers.get l).pending = none ∧ s.freeBlade l = s.modSlicer l fun x => { x with blade := .home, timer := none }) ∨
    ∃ c, (s.slicers.get l).pending = some c ∧
      s.freeBlade l = (s.modSlicer l fun x => { x with pending := none }).startStroke l c := by
  unfold State.freeBlade
  cases h : (s.slicers.get l).pending with
  | none => exact .inl ⟨rfl, by simp⟩
  | some c => exact .inr ⟨c, rfl, by simp⟩

/-! ### Planner, router and heads -/

/-- R44: the oldest request starts at an idle planner, or nothing changes. -/
theorem startNext_cases (s : State) :
    s.startNext = s ∨ ∃ req rest, s.planner.current = none ∧ s.planner.queue = req :: rest ∧
      s.startNext = { s with planner := { s.planner with queue := rest, current := some ⟨req, s.inputsOf req, false⟩ } } := by
  unfold State.startNext
  split
  · rename_i req rest hc hq
    exact .inr ⟨req, rest, hc, hq, rfl⟩
  · exact .inl rfl
  · exact .inl rfl

/-- R98: a head takes the earliest waiting record its source admits, or nothing changes. -/
theorem offerTo_cases (s : State) (h : Head) :
    s.offerTo h = s ∨ ∃ w, s.router.waitingOrder.find? (fun w => (s.router.active.get h).admits w.2) = some w ∧
      s.offerTo h = s.releaseTo h w.1 w.2 := by
  unfold State.offerTo
  split
  · exact .inl rfl
  · rename_i w hw
    exact .inr ⟨w, hw, rfl⟩

/-- R34: a gate-held record is promoted, or nothing changes. -/
theorem promote_cases (l : Lane) (s : State) :
    ((s.lanes.get l).gateHeld = none ∧ s.promote l = s) ∨
    ∃ g, (s.lanes.get l).gateHeld = some g ∧ ((s.promote l).lanes.get l).gateHeld = none ∧
      (s.promote l).router.waitingOrder = s.router.waitingOrder ++ [(g, l)] := by
  unfold State.promote
  cases h : (s.lanes.get l).gateHeld with
  | none => exact .inl ⟨rfl, rfl⟩
  | some g =>
    refine .inr ⟨g, rfl, ?_, rfl⟩
    cases l <;> simp [State.modLane, State.updateRecord, PerLane.get, PerLane.set]

end Sys2Proof.Machine
end

