-- ==== Sys2Proof/Laws/PerInstr.lean ====
section
/-! SUPPORT. Facts about every command as syntax, one lemma per constructor. -/

namespace Sys2Proof.Laws.Layout

/-- R172: a well-formed request has a frame whose body is at most 248 bytes and whose kind has its top bit clear; an event row
has no frame. -/
def Statement (i : Instr) : Prop :=
  i.wellFormed = true → ∀ f, encode i = some f → f.body.length ≤ 248 ∧ f.kind.toNat < 128

theorem settingsBytes_length : ∀ l : List Setting, (settingsBytes l).length = 5 * l.length
  | [] => rfl
  | p :: rest => by simp [settingsBytes, settingsBytes_length rest]; omega

theorem dayPairsBytes_length : ∀ l : List DayPair, (dayPairsBytes l).length = 4 * l.length
  | [] => rfl
  | p :: rest => by simp [dayPairsBytes, dayPairsBytes_length rest]; omega

theorem powerOn : Statement .powerOn := by
  intro _ f h
  cases h

theorem frameComplete (check : _) : Statement (.frameComplete check) := by
  intro _ f h
  cases h

theorem interByteTimeout : Statement .interByteTimeout := by
  intro _ f h
  cases h

theorem replySent : Statement .replySent := by
  intro _ f h
  cases h

theorem identify (tag : _) : Statement (.identify tag) := by
  intro _ f h
  obtain rfl := Option.some.inj h.symm
  simp

theorem readNotices (tag : _) (count : _) : Statement (.readNotices tag count) := by
  intro _ f h
  obtain rfl := Option.some.inj h.symm
  simp

theorem flushNotices (tag : _) : Statement (.flushNotices tag) := by
  intro _ f h
  obtain rfl := Option.some.inj h.symm
  simp

theorem setNoticeClasses (tag : _) (classes : _) : Statement (.setNoticeClasses tag classes) := by
  intro _ f h
  obtain rfl := Option.some.inj h.symm
  simp

theorem setLoafReports (tag : _) (mode : _) : Statement (.setLoafReports tag mode) := by
  intro _ f h
  obtain rfl := Option.some.inj h.symm
  simp

theorem start (tag : _) : Statement (.start tag) := by
  intro _ f h
  obtain rfl := Option.some.inj h.symm
  simp

theorem stop (tag : _) (form : _) : Statement (.stop tag form) := by
  intro _ f h
  obtain rfl := Option.some.inj h.symm
  simp

theorem resume (tag : _) : Statement (.resume tag) := by
  intro _ f h
  obtain rfl := Option.some.inj h.symm
  simp

theorem clear (tag : _) : Statement (.clear tag) := by
  intro _ f h
  obtain rfl := Option.some.inj h.symm
  simp

theorem readLineStatus (tag : _) : Statement (.readLineStatus tag) := by
  intro _ f h
  obtain rfl := Option.some.inj h.symm
  simp

theorem writeProduct (tag : _) (index : _) (fields : _) (signature : _) : Statement (.writeProduct tag index fields signature) := by
  intro _ f h
  obtain rfl := Option.some.inj h.symm
  cases signature <;> simp [halfBytes]

theorem eraseProduct (tag : _) (index : _) : Statement (.eraseProduct tag index) := by
  intro _ f h
  obtain rfl := Option.some.inj h.symm
  simp

theorem readProduct (tag : _) (index : _) : Statement (.readProduct tag index) := by
  intro _ f h
  obtain rfl := Option.some.inj h.symm
  simp

theorem assignProduct (tag : _) (lane : _) (product : _) : Statement (.assignProduct tag lane product) := by
  intro _ f h
  obtain rfl := Option.some.inj h.symm
  simp

theorem readAssignment (tag : _) : Statement (.readAssignment tag) := by
  intro _ f h
  obtain rfl := Option.some.inj h.symm
  simp

theorem writeDayCodes (tag : _) (pairs : _) : Statement (.writeDayCodes tag pairs) := by
  intro hw f h
  obtain rfl := Option.some.inj h.symm
  have hw' := of_decide_eq_true hw
  constructor <;> simp [dayPairsBytes_length]
  omega

theorem laneSettings (tag : _) (lane : _) (pairs : _) : Statement (.laneSettings tag lane pairs) := by
  intro hw f h
  obtain rfl := Option.some.inj h.symm
  have hw' := of_decide_eq_true hw
  constructor <;> simp [settingsBytes_length]
  omega

theorem readLaneSettings (tag : _) (lane : _) : Statement (.readLaneSettings tag lane) := by
  intro _ f h
  obtain rfl := Option.some.inj h.symm
  simp

theorem readQueue (tag : _) (lane : _) (place : _) : Statement (.readQueue tag lane place) := by
  intro _ f h
  obtain rfl := Option.some.inj h.symm
  simp

theorem readLoaf (tag : _) (loaf : _) : Statement (.readLoaf tag loaf) := by
  intro _ f h
  obtain rfl := Option.some.inj h.symm
  simp [halfBytes]

theorem trialPlan (tag : _) (lane : _) (length : _) (height : _) (product : _) : Statement (.trialPlan tag lane length height product) := by
  intro _ f h
  obtain rfl := Option.some.inj h.symm
  simp [halfBytes]

theorem readPlannerStatus (tag : _) : Statement (.readPlannerStatus tag) := by
  intro _ f h
  obtain rfl := Option.some.inj h.symm
  simp

theorem setWearRate (tag : _) (lane : _) (rate : _) : Statement (.setWearRate tag lane rate) := by
  intro _ f h
  obtain rfl := Option.some.inj h.symm
  simp [halfBytes]

theorem bladeChange (tag : _) (lane : _) : Statement (.bladeChange tag lane) := by
  intro _ f h
  obtain rfl := Option.some.inj h.symm
  simp

theorem readSlicer (tag : _) (lane : _) : Statement (.readSlicer tag lane) := by
  intro _ f h
  obtain rfl := Option.some.inj h.symm
  simp

theorem writeWatch (tag : _) (entry : _) (fields : _) : Statement (.writeWatch tag entry fields) := by
  intro _ f h
  obtain rfl := Option.some.inj h.symm
  simp [halfBytes]

theorem readWatch (tag : _) : Statement (.readWatch tag) := by
  intro _ f h
  obtain rfl := Option.some.inj h.symm
  simp

theorem readCapture (tag : _) (place : _) : Statement (.readCapture tag place) := by
  intro _ f h
  obtain rfl := Option.some.inj h.symm
  simp

theorem flushCapture (tag : _) : Statement (.flushCapture tag) := by
  intro _ f h
  obtain rfl := Option.some.inj h.symm
  simp

theorem connect (tag : _) (first : _) (second : _) : Statement (.connect tag first second) := by
  intro _ f h
  obtain rfl := Option.some.inj h.symm
  cases second <;> simp

theorem headSettings (tag : _) (head : _) (pairs : _) : Statement (.headSettings tag head pairs) := by
  intro hw f h
  obtain rfl := Option.some.inj h.symm
  have hw' := of_decide_eq_true hw
  constructor <;> simp [settingsBytes_length]
  omega

theorem readRouter (tag : _) : Statement (.readRouter tag) := by
  intro _ f h
  obtain rfl := Option.some.inj h.symm
  simp

theorem readHead (tag : _) (head : _) : Statement (.readHead tag head) := by
  intro _ f h
  obtain rfl := Option.some.inj h.symm
  simp

theorem reloadMagazine (tag : _) (head : _) (count : _) : Statement (.reloadMagazine tag head count) := by
  intro _ f h
  obtain rfl := Option.some.inj h.symm
  simp [halfBytes]

theorem learnSignature (tag : _) (head : _) (order : _) : Statement (.learnSignature tag head order) := by
  intro _ f h
  obtain rfl := Option.some.inj h.symm
  simp

theorem setSignature (tag : _) (index : _) (present : _) (value : _) : Statement (.setSignature tag index present value) := by
  intro _ f h
  obtain rfl := Option.some.inj h.symm
  simp [halfBytes]

theorem tieCheck (tag : _) (head : _) (setting : _) : Statement (.tieCheck tag head setting) := by
  intro _ f h
  obtain rfl := Option.some.inj h.symm
  simp

theorem readTier (tag : _) (head : _) : Statement (.readTier tag head) := by
  intro _ f h
  obtain rfl := Option.some.inj h.symm
  simp

theorem crumbSettings (tag : _) (lane : _) (pairs : _) : Statement (.crumbSettings tag lane pairs) := by
  intro hw f h
  obtain rfl := Option.some.inj h.symm
  have hw' := of_decide_eq_true hw
  constructor <;> simp [settingsBytes_length]
  omega

theorem setCrumbMode (tag : _) (lane : _) (mode : _) : Statement (.setCrumbMode tag lane mode) := by
  intro _ f h
  obtain rfl := Option.some.inj h.symm
  simp

theorem purgeStart (tag : _) (lane : _) : Statement (.purgeStart tag lane) := by
  intro _ f h
  obtain rfl := Option.some.inj h.symm
  simp

theorem purgeStop (tag : _) (lane : _) : Statement (.purgeStop tag lane) := by
  intro _ f h
  obtain rfl := Option.some.inj h.symm
  simp

theorem singlePurge (tag : _) (lane : _) : Statement (.singlePurge tag lane) := by
  intro _ f h
  obtain rfl := Option.some.inj h.symm
  simp

theorem crumbReset (tag : _) (lane : _) : Statement (.crumbReset tag lane) := by
  intro _ f h
  obtain rfl := Option.some.inj h.symm
  simp

theorem readCrumb (tag : _) (lane : _) : Statement (.readCrumb tag lane) := by
  intro _ f h
  obtain rfl := Option.some.inj h.symm
  simp

theorem closeShift (tag : _) : Statement (.closeShift tag) := by
  intro _ f h
  obtain rfl := Option.some.inj h.symm
  simp

theorem readTotals (tag : _) (first : _) : Statement (.readTotals tag first) := by
  intro _ f h
  obtain rfl := Option.some.inj h.symm
  simp

theorem readLaneTotals (tag : _) : Statement (.readLaneTotals tag) := by
  intro _ f h
  obtain rfl := Option.some.inj h.symm
  simp

theorem readSnapshot (tag : _) (part : _) : Statement (.readSnapshot tag part) := by
  intro _ f h
  obtain rfl := Option.some.inj h.symm
  simp

theorem leadingEdge (lane : _) (travel : _) (beams : _) : Statement (.leadingEdge lane travel beams) := by
  intro _ f h
  cases h

theorem highestBeamRaise (lane : _) (travel : _) (beams : _) : Statement (.highestBeamRaise lane travel beams) := by
  intro _ f h
  cases h

theorem trailingEdge (lane : _) (travel : _) : Statement (.trailingEdge lane travel) := by
  intro _ f h
  cases h

theorem voidClose (lane : _) (travel : _) : Statement (.voidClose lane travel) := by
  intro _ f h
  cases h

theorem bladeLineArrival (lane : _) (loaf : _) : Statement (.bladeLineArrival lane loaf) := by
  intro _ f h
  cases h

theorem trailingEdgePastBlade (lane : _) (loaf : _) : Statement (.trailingEdgePastBlade lane loaf) := by
  intro _ f h
  cases h

theorem rejectGateArrival (lane : _) (loaf : _) : Statement (.rejectGateArrival lane loaf) := by
  intro _ f h
  cases h

theorem diverterPulseEnd (lane : _) : Statement (.diverterPulseEnd lane) := by
  intro _ f h
  cases h

theorem routerGateArrival (lane : _) (loaf : _) : Statement (.routerGateArrival lane loaf) := by
  intro _ f h
  cases h

theorem gaugeRequestArrival (lane : _) (loaf : _) : Statement (.gaugeRequestArrival lane loaf) := by
  intro _ f h
  cases h

theorem planCompletion : Statement .planCompletion := by
  intro _ f h
  cases h

theorem trialPlanCompletion : Statement .trialPlanCompletion := by
  intro _ f h
  cases h

theorem cutDue (lane : _) : Statement (.cutDue lane) := by
  intro _ f h
  cases h

theorem strokeCompletion (lane : _) : Statement (.strokeCompletion lane) := by
  intro _ f h
  cases h

theorem strokeTimeout (lane : _) : Statement (.strokeTimeout lane) := by
  intro _ f h
  cases h

theorem bladeHomeLost (lane : _) : Statement (.bladeHomeLost lane) := by
  intro _ f h
  cases h

theorem bladeHomeSeen (lane : _) : Statement (.bladeHomeSeen lane) := by
  intro _ f h
  cases h

theorem homingCompletion (lane : _) : Statement (.homingCompletion lane) := by
  intro _ f h
  cases h

theorem homingTimeout (lane : _) : Statement (.homingTimeout lane) := by
  intro _ f h
  cases h

theorem bagOpen (head : _) (edge : _) : Statement (.bagOpen head edge) := by
  intro _ f h
  cases h

theorem openingTimeout (head : _) : Statement (.openingTimeout head) := by
  intro _ f h
  cases h

theorem bagFeedPulseEnd (head : _) : Statement (.bagFeedPulseEnd head) := by
  intro _ f h
  cases h

theorem loafIn (head : _) (edge : _) : Statement (.loafIn head edge) := by
  intro _ f h
  cases h

theorem gatherDone (head : _) (edge : _) : Statement (.gatherDone head edge) := by
  intro _ f h
  cases h

theorem tieDone (head : _) (edge : _) : Statement (.tieDone head edge) := by
  intro _ f h
  cases h

theorem headStateTimeout (head : _) : Statement (.headStateTimeout head) := by
  intro _ f h
  cases h

theorem dischargeClear (head : _) (edge : _) : Statement (.dischargeClear head edge) := by
  intro _ f h
  cases h

theorem gapWaitExpiry (lane : _) : Statement (.gapWaitExpiry lane) := by
  intro _ f h
  cases h

theorem holdOffExpiry (lane : _) : Statement (.holdOffExpiry lane) := by
  intro _ f h
  cases h

theorem purgeTimeExpiry (lane : _) : Statement (.purgeTimeExpiry lane) := by
  intro _ f h
  cases h

theorem settleExpiry (lane : _) : Statement (.settleExpiry lane) := by
  intro _ f h
  cases h

theorem eStopAsserted : Statement .eStopAsserted := by
  intro _ f h
  cases h

theorem eStopReleased : Statement .eStopReleased := by
  intro _ f h
  cases h

theorem guardOpens (guard : _) : Statement (.guardOpens guard) := by
  intro _ f h
  cases h

theorem guardCloses (guard : _) : Statement (.guardCloses guard) := by
  intro _ f h
  cases h

theorem resumeWindowExpiry : Statement .resumeWindowExpiry := by
  intro _ f h
  cases h

theorem byteReceived (byte : _) : Statement (.byteReceived byte) := by
  intro _ f h
  cases h

theorem tierEncoderTick (head : _) (lines : _) : Statement (.tierEncoderTick head lines) := by
  intro _ f h
  cases h

end Sys2Proof.Laws.Layout
end

