-- ==== Sys2Proof/Laws/Records.lean ====
section
/-! SUPPORT. What writing a held record by its loaf number does, said once: the record read back, every other record, and
the rest of the state. -/

namespace Sys2Proof.Machine

theorem onNumber_number {n : Nat} {f : LoafRecord → LoafRecord} (hf : ∀ r, (f r).number = r.number) (r : LoafRecord) :
    (onNumber n f r).number = r.number := by
  unfold onNumber; split <;> simp [hf]

theorem find_map_onNumber {n m : Nat} {f : LoafRecord → LoafRecord} (hf : ∀ r, (f r).number = r.number)
    (q : List LoafRecord) : (q.map (onNumber n f)).find? (fun r => r.number == m) =
      (q.find? (fun r => r.number == m)).map (onNumber n f) := by
  induction q with
  | nil => rfl
  | cons r q ih =>
    simp only [List.map_cons, List.find?_cons, onNumber_number hf]
    split <;> simp [ih]

/-- The record written reads back as written; a record of another number is untouched. -/
theorem updateRecord_queued {n : Nat} {f : LoafRecord → LoafRecord} (hf : ∀ r, (f r).number = r.number) (l : Lane) (m : Nat)
    (s : State) : (s.updateRecord n f).queued l m = (s.queued l m).map (onNumber n f) := by
  cases l <;> exact find_map_onNumber hf _

theorem updateRecord_queued_same {n : Nat} {f : LoafRecord → LoafRecord} (hf : ∀ r, (f r).number = r.number) (l : Lane)
    (s : State) : (s.updateRecord n f).queued l n = (s.queued l n).map f := by
  rw [updateRecord_queued hf]
  cases h : s.queued l n with
  | none => rfl
  | some r =>
    have : r.number = n := by
      have := List.find?_some h
      simpa using this
    simp [onNumber, this]

theorem updateRecord_queued_other {n m : Nat} {f : LoafRecord → LoafRecord} (hf : ∀ r, (f r).number = r.number) (h : m ≠ n)
    (l : Lane) (s : State) : (s.updateRecord n f).queued l m = s.queued l m := by
  rw [updateRecord_queued hf]
  cases e : s.queued l m with
  | none => rfl
  | some r =>
    have : r.number = m := by
      have := List.find?_some e
      simpa using this
    simp [onNumber, this, h]

theorem updateRecord_numbers {n : Nat} {f : LoafRecord → LoafRecord} (hf : ∀ r, (f r).number = r.number) (l : Lane)
    (s : State) : ((s.updateRecord n f).lanes.get l).queue.map LoafRecord.number = (s.lanes.get l).queue.map LoafRecord.number := by
  cases l <;> simp [State.updateRecord, PerLane.get, Function.comp_def, onNumber_number hf]

theorem updateRecord_lane (n : Nat) (f : LoafRecord → LoafRecord) (l : Lane) (s : State) :
    (s.updateRecord n f).lanes.get l = { s.lanes.get l with queue := (s.lanes.get l).queue.map (onNumber n f) } := by
  cases l <;> rfl

theorem updateRecord_head (n : Nat) (f : LoafRecord → LoafRecord) (h : Head) (s : State) :
    (s.updateRecord n f).heads.get h = { s.heads.get h with record := (s.heads.get h).record.map (onNumber n f) } := by
  cases h <;> rfl

end Sys2Proof.Machine
end

