-- ==== Sys2Proof/Laws/Requests.lean ====
section
/-! SUPPORT. Lemmas about the taking of requests: the codes that read back as what was coded, the places of the Link Port,
and what a request's effect and reply make of its command. -/

namespace Sys2Proof.Machine

/-! ### Codes read back -/

theorem laneOf_code (l : Lane) : laneOf (Lane.code l) = some l := by cases l <;> decide

theorem headOf_code (h : Head) : headOf (Head.code h) = some h := by cases h <;> decide

theorem sourceOf_code (x : Source) : sourceOf (Source.code x) = some x := by cases x <;> decide

theorem crumbModeOf_code (m : CrumbMode) : crumbModeOf (CrumbMode.code m) = some m := by cases m <;> decide

theorem boolOf_code (b : Bool) : boolOf (boolCode b) = some b := by cases b <;> decide

theorem productOrNoneOf_code (x : Option ProductIx) : productOrNoneOf (productCode x) = some x := by
  cases x with
  | none => decide
  | some p => revert p; decide

theorem productOf_of_toNat {i : Byte} {p : ProductIx} (h : i.toNat = p.val) : productOf i = some p := by
  simp [productOf, finOf, h]

theorem productOf_eq_none {i : Byte} (h : 15 < i.toNat) : productOf i = none := by
  simp [productOf, finOf]; omega

theorem laneOf_eq_none {i : Byte} (h : 1 < i.toNat) : laneOf i = none := by
  have h0 : i ≠ 0 := by rintro rfl; simp at h
  have h1 : i ≠ 1 := by rintro rfl; simp at h
  unfold laneOf; rw [if_neg h0, if_neg h1]

/-! ### The places of the port (R174) -/

theorem arrive_of_empty {s : State} {f : Frame} {take : State → Served} (h : s.link.handled = none) :
    s.arrive f take = State.conclude f (take s) := by simp [State.arrive, h]

theorem arrive_of_handled {s : State} {f : Frame} {take : State → Served} (h : s.link.handled ≠ none)
    (w : s.link.waiting = none) : s.arrive f take = { s with link := { s.link with waiting := some f } } := by
  obtain ⟨x, hx⟩ := Option.ne_none_iff_exists'.mp h
  simp [State.arrive, hx, w]

theorem arrive_of_full {s : State} {f : Frame} {take : State → Served} (h : s.link.handled ≠ none)
    (w : s.link.waiting ≠ none) : s.arrive f take = { s with link := { s.link with overrun := true } } := by
  obtain ⟨x, hx⟩ := Option.ne_none_iff_exists'.mp h
  obtain ⟨y, hy⟩ := Option.ne_none_iff_exists'.mp w
  simp [State.arrive, hx, hy]

/-! ### A request's effect and reply -/

/-- A command that is the arrival of its frame is carried out where its owner serves it. -/
theorem accepts_of_served {i : Instr} {s t : State} {data : List Byte} (take : State → Served)
    (he : exec i s = .next (s.arrive (requestFrame i) take)) (h : s.link.handled = none) (hd : take s = served t data) :
    Accepts i s t data := by
  simp [Accepts, he, arrive_of_empty h, State.conclude, hd, served]

/-- A command that is the arrival of its frame is refused where its owner refuses it. -/
theorem rejects_of_refuse {i : Instr} {s : State} {code : ResultCode} {data : List Byte} (take : State → Served)
    (he : exec i s = .next (s.arrive (requestFrame i) take)) (h : s.link.handled = none) (hd : take s = refuse s code data) :
    Rejects i s code data := by
  simp [Rejects, he, arrive_of_empty h, State.conclude, hd, refuse]

end Sys2Proof.Machine
end

