-- ==== Sys2Proof/Tests/Slice0.lean ====
section
/-! SUPPORT. The tests of the model: ill-formed commands, the check values, frames written out from the body table of 11.5,
single steps of the manual's worked sequences with the results the manual states, and one witness for each statement with
hypotheses. -/

namespace Sys2Proof.Tests

open Sys2Proof Sys2Proof.Machine

/-! ### Ill-formed commands -/

theorem test_illFormed_dayCodes : (Instr.writeDayCodes 0 (List.replicate 62 ⟨0, 0x30, 0x30, 0x30⟩)).wellFormed = false := by decide
theorem test_illFormed_laneSettings : (Instr.laneSettings 0 0 (List.replicate 50 ⟨1, 0⟩)).wellFormed = false := by decide
theorem test_illFormed_headSettings : (Instr.headSettings 0 1 (List.replicate 50 ⟨1, 0⟩)).wellFormed = false := by decide
theorem test_illFormed_crumbSettings : (Instr.crumbSettings 0 0 (List.replicate 50 ⟨1, 0⟩)).wellFormed = false := by decide
theorem test_illFormed_leadingEdge : (Instr.leadingEdge .a 0 0).wellFormed = false := by decide
theorem test_illFormed_beamRaise : (Instr.highestBeamRaise .b 0 0).wellFormed = false := by decide
theorem test_illFormed_bladeLine : (Instr.bladeLineArrival .a 0).wellFormed = false := by decide
theorem test_illFormed_pastBlade : (Instr.trailingEdgePastBlade .a 65536).wellFormed = false := by decide
theorem test_illFormed_rejectGate : (Instr.rejectGateArrival .b 0).wellFormed = false := by decide
theorem test_illFormed_routerGate : (Instr.routerGateArrival .b 65536).wellFormed = false := by decide
theorem test_illFormed_requestArrival : (Instr.gaugeRequestArrival .a 0).wellFormed = false := by decide

/-! ### Check values (R122) -/

/-- R122: the check value of the nine characters 1 to 9. -/
theorem test_crc_checkValue : crc16 [0x31, 0x32, 0x33, 0x34, 0x35, 0x36, 0x37, 0x38, 0x39] = 0x29B1 := by decide +kernel
/-- R122: one byte of 0. -/
theorem test_crc_zeroByte : crc16 [0x00] = 0xE1F0 := by decide

/-! ### Frames of each family, written out from section 11.5 and R182 -/

theorem test_decode_identify : decodeRequest ⟨0x01, 0x10, []⟩ = .ok (.identify 0x10) := by decide
theorem test_decode_stop : decodeRequest ⟨0x11, 0x22, [0x01]⟩ = .ok (.stop 0x22 1) := by decide
theorem test_decode_assign : decodeRequest ⟨0x1B, 0x07, [0x01, 0xFF]⟩ = .ok (.assignProduct 0x07 1 0xFF) := by decide
theorem test_decode_laneSettings :
    decodeRequest ⟨0x20, 0x01, [0x00, 0x01, 0x06, 0x00, 0x00, 0x00, 0x32]⟩ = .ok (.laneSettings 0x01 0 [⟨6, 50⟩]) := by decide
theorem test_decode_readLoaf : decodeRequest ⟨0x23, 0x02, [0x01, 0x2C]⟩ = .ok (.readLoaf 0x02 300) := by decide
theorem test_decode_trialPlan :
    decodeRequest ⟨0x28, 0x10, [0x00, 0x0B, 0x3A, 0x04, 0x4C, 0x03]⟩ = .ok (.trialPlan 0x10 0 2874 1100 3) := by decide
theorem test_decode_wearRate : decodeRequest ⟨0x2C, 0x00, [0x01, 0x01, 0x00]⟩ = .ok (.setWearRate 0x00 1 256) := by decide
theorem test_decode_connect :
    decodeRequest ⟨0x38, 0x00, [0x01, 0x03, 0x02, 0x00]⟩ = .ok (.connect 0x00 ⟨1, 3⟩ (some ⟨2, 0⟩)) := by decide
theorem test_decode_setSignature :
    decodeRequest ⟨0x42, 0x05, [0x03, 0x01, 0x4C, 0x2A]⟩ = .ok (.setSignature 0x05 3 1 0x4C2A) := by decide
theorem test_decode_purgeStart : decodeRequest ⟨0x4A, 0x09, [0x01]⟩ = .ok (.purgeStart 0x09 1) := by decide
theorem test_decode_unknownKind : decodeRequest ⟨0x06, 0x00, []⟩ = .error .unknownKind := by decide
theorem test_decode_badLength : decodeRequest ⟨0x11, 0x00, []⟩ = .error .badLength := by decide

/-! ### States built for the tests -/

/-- The state a command leaves. -/
def after (c : Instr) (s : State) : State :=
  match exec c s with
  | .next t => t
  | .fault f => nomatch f
  | .refused _ => s

/-- Product 3 of the worked cases, with an expected signature or none. -/
def productThree (signature : Option Half) : ProductEntry := ⟨301, 125, 110, 140, 150, 8, 40, 20, false, 4, signature⟩

/-- A line in a state, with product 3 defined, running on lane A; lane A's gap is measured from 100,000. -/
def line (x : LineState) : State :=
  { State.reset with
    products := State.reset.products.set 3 (some (productThree none))
    assign := ⟨⟨some 3, none⟩, ⟨none, none⟩⟩
    line := { Line.initial with state := x }
    lanes := State.reset.lanes.set .a
      { LaneState.initial 0 with position := 100420, previous := some 100000, geometry := ⟨3000, 6000, 9000, 300, 150, 50⟩ } }

/-- A record of product 3 on a lane, with its lead at 100,420 and nothing planned yet. -/
def loaf (n : Nat) (l : Lane) : LoafRecord :=
  { number := n, lane := l, product := 3, lead := 100420, length := 2874, height := 1100, gapBefore := 420,
    flags := ⟨false, false, false, false, false⟩, stage := .gauged, plan := none, cutsDone := 0, disposition := none,
    marked := false, hits := Vector.replicate 4 false, head := none, tie := none, passed := ⟨false, false, false, false⟩ }

/-- A plan with the given cuts, 800 crumb units each. -/
def planOf (cuts : List Nat) : Plan := ⟨.even, cuts.length - 1, 14000, 12800, 150, cuts, 800, 0, false, false⟩

/-- A loaf with a plan, in a stage. -/
def planned (n : Nat) (l : Lane) (x : Stage) : LoafRecord := { loaf n l with stage := x, plan := some (planOf [150, 200, 250, 300, 350, 400]) }

/-- The state with these records in lane A's queue, and their product admitted as often. -/
def holding (rs : List LoafRecord) (s : State) : State :=
  { s.modLane .a fun q => { q with queue := rs } with
    totals := { s.totals with products := s.totals.products.set 3 { ProductTotals.zero with admitted := rs.length } } }

/-- Head 1 in a step with a record, its timer running. -/
def atHead (x : HeadStep) (r : LoafRecord) (s : State) : State :=
  { s.modHead .one fun h => { h with step := x, record := some { r with stage := .atHead, head := some .one }, timer := some 100 } with
    router := { s.router with idleOrder := [.two] } }

/-! ### Single steps of the worked sequences, with the results the manual states -/

/-- Section 3.4: an EVEN plan. -/
def evenInputs : PlanInputs := ⟨2874, 1100, 125, 110, 140, 150, 8, 40, 20, false, 40000, 6⟩
theorem test_plan_even : evenInputs.plan =
    ⟨.even, 19, 34681, 31696, 150,
      [150, 285, 421, 556, 692, 827, 963, 1098, 1234, 1369, 1505, 1640, 1776, 1911, 2047, 2182, 2318, 2453, 2589, 2724],
      1002, 937, false, false⟩ := by decide

/-- Section 3.5: a HEEL_SHORT plan. -/
def shortInputs : PlanInputs := ⟨390, 1100, 125, 110, 140, 150, 8, 40, 20, false, 40000, 6⟩
theorem test_plan_heelShort : shortInputs.plan = ⟨.heelShort, 1, 31145, 28160, 118, [150, 272], 1002, 937, false, false⟩ := by decide

/-- Section 3.6: a NO_SPAN plan with the wear clamped. -/
def noSpanInputs : PlanInputs := ⟨130, 600, 120, 100, 140, 20, 10, 30, 30, true, 2000000, 10⟩
theorem test_plan_noSpan : noSpanInputs.plan = ⟨.noSpan, 0, 0, 0, 130, [], 0, 5120, true, false⟩ := by decide

/-- Section 2.7, step 2: the trailing edge that admits loaf 41. -/
def spanOpen : State :=
  { (line .running).modLane .a fun q => { q with window := .span 100420 21 (some 3) } with lastLoaf := 40 }
theorem test_trailingEdge_admits :
    let r := ((after (.trailingEdge .a 2874) spanOpen).lanes.a.queue).head?
    r.map (fun x => (x.number, x.length, x.height, x.gapBefore, x.flags.closeGap)) = some (41, 2874, 1100, 420, false) ∧
    (after (.trailingEdge .a 2874) spanOpen).totals.products[3].admitted = 1 := by decide
/-- Section 2.7, step 7: a span of 90 is debris. -/
theorem test_trailingEdge_debris :
    (after (.trailingEdge .a 90) spanOpen).totals.lanes.a.debris = 1 ∧ (after (.trailingEdge .a 90) spanOpen).lanes.a.queue = [] := by
  decide
/-- Section 2.7, step 9: a height above 2000 is clamped, and a gap of 180 is a close gap. -/
theorem test_trailingEdge_closeGap :
    let s := spanOpen.modLane .a fun q => { q with position := 103650, previous := some 103470, window := .span 103650 43 (some 3) }
    ((after (.trailingEdge .a 2610) s).lanes.a.queue).head?.map (fun x => (x.height, x.gapBefore, x.flags.closeGap)) =
      some (2000, 180, true) := by decide

/-- Section 2.8: records 60 to 63 of lane A, with 62 at its router gate. -/
def fullZone : State :=
  { holding [{ loaf 60 .a with stage := .waiting }, { loaf 61 .a with stage := .waiting },
      { planned 62 .a .sliced with passed := ⟨true, true, true, false⟩ }, { loaf 63 .a with stage := .slicing }] (line .running) with
    router := ⟨⟨.b, .b⟩, ⟨none, none⟩, [.one, .two], [(60, .a), (61, .a)]⟩ }
/-- Section 2.8, step 1: the zone is full, the belt stops. -/
theorem test_routerGate_gateHeld :
    (after (.routerGateArrival .a 62) fullZone).lanes.a.gateHeld = some 62 ∧
    (after (.routerGateArrival .a 62) fullZone).conveyorRuns .a = false := by decide
/-- Section 2.8, step 2: CONNECT gives head 1 to lane A; 60 is released and 62 is promoted. -/
theorem test_connect_releases :
    let s := { fullZone with lanes := fullZone.lanes.set .a { fullZone.lanes.a with gateHeld := some 62 } }
    let t := after (.connect 0 ⟨1, 1⟩ none) s
    (t.lanes.a.queue.map LoafRecord.number, t.lanes.a.gateHeld, t.router.waitingOrder) =
      ([61, 62, 63], none, [(61, .a), (62, .a)]) := by decide

/-- Section 4.6: loaf 70 with six cuts, S_b 12,000 and a crumb load of 100,000. -/
def thinRun (b : Blade) (pending : Option Cut) (next : Nat) : State :=
  let s := holding [planned 70 .a .slicing] (line .running)
  { s with
    slicers := s.slicers.set .a { Slicer.initial true with
      blade := b, pending := pending, schedule := [⟨70, next⟩], strokes := 12000, timer := some 40 }
    crumb := s.crumb.set .a { Crumb.initial with load := 100000 } }
def cutOf (k : Nat) : Cut := ⟨70, k, 3, 800⟩
/-- Section 4.6, step 2: a cut due at a busy blade is made pending. -/
theorem test_cutDue_pending :
    let t := after (.cutDue .a) (thinRun (.stroking (cutOf 0)) none 1)
    (t.slicers.a.pending, t.slicers.a.schedule, t.totals.lanes.a.lateCuts) = (some (cutOf 1), [⟨70, 2⟩], 1) := by decide
/-- Section 4.6, step 3: a completion counts the stroke and starts the pending cut. -/
theorem test_strokeCompletion_counts :
    let t := after (.strokeCompletion .a) (thinRun (.stroking (cutOf 0)) (some (cutOf 1)) 2)
    (t.slicers.a.strokes, t.crumb.a.load, t.slicers.a.blade, t.totals.products[3].slices) =
      (12001, 100800, .stroking (cutOf 1), 1) := by decide
/-- Section 4.6, step 5: a cut due with another pending abandons the rest of the loaf and keeps the pending cut. -/
theorem test_cutDue_miscut :
    let t := after (.cutDue .a) (thinRun (.stroking (cutOf 1)) (some (cutOf 2)) 3)
    (t.slicers.a.pending, t.slicers.a.schedule, t.lanes.a.queue.map (fun r => (r.flags.miscut, r.disposition))) =
      (some (cutOf 2), [], [(true, some .miscut)]) := by decide
/-- Section 4.7, step 1: a guard opens in mid-stroke. -/
theorem test_guardOpens_abandons :
    let t := after (.guardOpens 1) (thinRun (.stroking (cutOf 4)) none 5)
    (t.line.state, t.slicers.a.blade, t.slicers.a.strokes, t.slicers.a.schedule) = (.halted, .homing false, 12000, []) := by decide

/-- Section 5.9: entry 2 arms on CLOSE_GAP, entry 3 stops on HEEL_LONG or HEEL_SHORT within a window of 3. -/
def chained (w : Option Nat) : State :=
  let e := { WatchEntry.initial with enable := true }
  { (line .running) with watch := { Watch.initial with
      entries := (Watch.initial.entries.set 2 { e with needCloseGap := true }).set 3
        { e with outcomes := ⟨false, true, true, false, false, false⟩, chained := true, armWindow := 3,
                 actions := ⟨false, false, true, false, false⟩ }
      chains := Watch.initial.chains.set 1 w } }
def judged (closeGap : Bool) (o : PlanOutcome) : LoafRecord :=
  { loaf 83 .a with flags := ⟨closeGap, false, false, false, false⟩, plan := some { planOf [] with outcome := o } }
/-- Section 5.9, loaf 83: fires and arms again. -/
theorem test_chain_firesAndArms :
    let t := (holding [judged true .heelLong] (chained (some 1))).evaluate 83
    (t.watch.chains[1], t.watch.entries[3].fireCount, t.line.state, t.watch.entries[2].fireCount) = (some 3, 1, .draining, 0) := by decide
/-- Section 5.9, loaf 86: the window runs out. -/
theorem test_chain_runsOut :
    ((holding [judged false .even] (chained (some 1))).evaluate 83).watch.chains[1] = none := by decide
/-- Section 5.9, loaf 87: a match while disarmed fires nothing. -/
theorem test_chain_disarmed :
    let t := (holding [judged false .heelShort] (chained none)).evaluate 83
    (t.watch.chains[1], t.watch.entries[3].fireCount) = (none, 0) := by decide

/-- Section 6.7, step 2: discharge-clear at head 1 with loaves 51 and 52 waiting and BOTH pending. -/
def merging : State :=
  let s := atHead .discharging { loaf 50 .a with tie := some .good }
    (holding [{ loaf 51 .a with stage := .waiting }, { loaf 52 .a with stage := .waiting }] (line .running))
  { s with router := { s.router with idleOrder := [], pending := ⟨some .both, none⟩, waitingOrder := [(51, .a), (52, .a)] }
           tiers := s.tiers.set .one { Tier.initial with magazine := 10, loaded := 10 } }
theorem test_dischargeClear_merges :
    let t := after (.dischargeClear .one .rises) merging
    (t.heads.one.step, t.heads.one.record.map LoafRecord.number, t.heads.one.timer) = (.opening, some 51, some 400) ∧
    (t.router.active.one, t.router.waitingOrder, t.totals.products[3].bagged) = (.both, [(52, .a)], 1) := by decide
/-- Section 6.7, step 3: the first missed bag. -/
theorem test_openingTimeout_feedsAgain :
    let t := after (.openingTimeout .one) (atHead .opening (loaf 51 .a) (line .running))
    (t.heads.one.step, t.heads.one.misses, t.heads.one.timer, t.totals.heads.one.bagMisses) = (.opening, 1, some 400, 1) := by decide

/-- Section 7.11: tier 1 tying loaf 106 with a running signature. -/
def tying (t : Tier) (signature : Half) (expected : Option Half) : State :=
  let s := atHead .tying (loaf 106 .a) (line .running)
  { s with products := s.products.set 3 (some (productThree expected))
           tiers := s.tiers.set .one { t with magazine := 46, loaded := 52, used := 6, lastProduct := some 3
                                              tie := some ⟨106, 3, 400, signature, false⟩ } }
/-- Section 7.11, step 9: a bound learn takes the signature and counts GOOD. -/
theorem test_tieDone_learns :
    let t := after (.tieDone .one .rises) (tying { Tier.initial with warmUp := 0, learn := .bound 3 } 0x91E5 none)
    (t.expectedSignature 3, t.tiers.one.learn, t.totals.heads.one.good, t.heads.one.step) = (some 0x91E5, .none, 1, .discharging) := by
  decide
/-- Section 7.11, step 12: the third mismatch in a row raises TIE_FAULT and the line drains. -/
theorem test_tieDone_thirdMismatch :
    let t := after (.tieDone .one .rises) (tying { Tier.initial with warmUp := 0, streak := 2 } 0x9185 (some 0x91E5))
    (t.tiers.one.streak, t.line.state, t.line.latched, t.heads.one.record.map LoafRecord.disposition) =
      (0, .draining, some (.tieFault .one), some (some .untied)) := by decide
/-- R119's form with section 7.11's tie start: shift 4 prints D behind the day code of shelf class 4. -/
theorem test_clipCode :
    let s := { (line .running) with
      dayCodes := State.reset.dayCodes.set 4 ⟨0x4B, 0x34, 0x52⟩, totals := { Totals.initial with shift := 4 } }
    s.clipCode 3 = ⟨⟨0x4B, 0x34, 0x52⟩, 0x44, 0x41⟩ := by decide

/-- Section 8.6: lane A in AUTO with CL 400,006 less one cut, lane B purging with the grant. -/
def forced : State :=
  let s := thinRun (.stroking ⟨70, 0, 3, 1002⟩) none 1
  { s with
    crumb := ⟨{ Crumb.initial with mode := .auto, step := .watching, load := 399006 },
      { Crumb.initial with mode := .auto, step := .purging, phase := some 900 }⟩
    air := ⟨some .b, none⟩ }
/-- Section 8.6, step 1: the load reaches T_high; the request waits behind lane B's grant. -/
theorem test_forcedStart :
    let t := after (.strokeCompletion .a) forced
    (t.crumb.a.step, t.crumb.a.load, t.air, t.crumb.a.phase) = (.gapWait, 400008, ⟨some .b, some .a⟩, some 10000) := by decide
/-- Section 8.6, step 5: lane B's settle expiry grants the waiting lane, which is not quiet. -/
theorem test_settleExpiry_grants :
    let s := { forced with
      crumb := ⟨{ Crumb.initial with mode := .auto, step := .gapWait, load := 402012, phase := some 5000 },
        { Crumb.initial with mode := .auto, step := .settling, load := 300000, phase := some 0 }⟩
      air := ⟨some .b, some .a⟩ }
    let t := after (.settleExpiry .b) s
    (t.crumb.b.step, t.crumb.b.load, t.crumb.b.count, t.air, t.crumb.a.step) = (.watching, 0, 1, ⟨some .a, none⟩, .gapWait) := by decide

/-- Section 9.5: DRAINING with TIE_FAULT at head 2 present and latched; head 1 holds a loaf. -/
def draining (x : LineState) : State :=
  let s := atHead .tying (loaf 9 .a) (line x)
  { s with line := { s.line with causes := { EventCauses.none with tieFault := ⟨false, true⟩ }, latched := some (.tieFault .two) }
           router := { s.router with active := ⟨.none, .none⟩ } }
/-- Section 9.5, step 2: GUARD_OPEN replaces TIE_FAULT in the latch. -/
theorem test_guardOpens_latches :
    let t := after (.guardOpens 1) (draining .draining)
    (t.line.state, t.line.latched) = (.halted, some (.guardOpen 1)) := by decide
/-- Section 9.5, step 6: RESUME; the line drains on with the window open. -/
theorem test_resume_drainsOn :
    let t := after (.resume 0) (draining .halted)
    (t.line.state, t.line.window, t.line.latched, t.heads.one.timer) = (.draining, some 2000, none, some 600) := by decide

/-- Section 10.5, step 1 in small: a close with one record held, in shift 4. -/
theorem test_closeShift_carries :
    let s := holding [loaf 9 .a] (line .running)
    let t := after (.closeShift 0) { s with totals := { s.totals with shift := 4 } }
    (t.totals.shift, t.totals.products[3].admitted, t.totals.products[3].carriedIn, t.totals.snapshot.map (fun x => x.carriedOut[3])) =
      (5, 0, 1, some 1) := by decide

/-- Section 11.4: a handled frame, a waiting READ NOTICES for 8, and a Notice Queue with 31 notices. -/
def crowded (n : Nat) (waiting : Option Frame) : State :=
  { (line .running) with
    link := { LinkPort.initial with handled := some ⟨⟨0x28, 0x10, []⟩, some ⟨0xA8, 0x10, []⟩⟩, waiting := waiting }
    notices := { Notices.initial with queue := List.replicate n (.captureFull 1) } }
/-- Section 11.4, step 3: a frame at two occupied places is discarded. -/
theorem test_overrun :
    (after (.readLineStatus 0x12) (crowded 31 (some ⟨0x02, 0x11, [8]⟩))).link.overrun = true := by decide
/-- Section 11.4, step 5: a notice at a full queue is lost. -/
theorem test_noticeLost :
    let t := (crowded 32 none).notify (.captureFull 2)
    (t.notices.queue.length, t.notices.lost) = (32, true) := by decide
/-- Section 11.4, step 7: the reply is sent and the waiting READ NOTICES is taken. -/
theorem test_replySent_takesWaiting :
    let t := after .replySent (crowded 32 (some ⟨0x02, 0x11, [8]⟩))
    (t.notices.queue.length, t.notices.lost, t.link.waiting, t.link.handled.map (fun h => h.request.tag)) =
      (24, false, none, some 0x11) := by decide

/-! ### Edges, prints and replies -/

/-- R100: bag-open asserted already completes nothing until it has cleared and become asserted again. -/
theorem test_bagOpen_clearsFirst :
    let s := atHead .opening (loaf 51 .a) (line .running)
    let held := { s with inputs := { s.inputs with heads := s.inputs.heads.set .one { s.inputs.heads.one with bagOpen := true } } }
    (after (.bagOpen .one .rises) held).heads.one.step = .opening ∧
    (after (.bagOpen .one .rises) (after (.bagOpen .one .falls) held)).heads.one.step = .loading := by decide

/-- R117 step 5: two ties with the same clip code print it twice. -/
theorem test_gatherDone_prints :
    let s := { atHead .gathering (loaf 51 .a) (line .running) with
      tiers := ⟨{ Tier.initial with magazine := 46, loaded := 46, lastCode := some ⟨⟨0x30, 0x30, 0x30⟩, 0x41, 0x41⟩ }, Tier.initial⟩ }
    s.printOutput .one (after (.gatherDone .one .rises) s) = [⟨⟨0x30, 0x30, 0x30⟩, 0x41, 0x41⟩] := by decide

/-- R129: the step lines stand as last seen, and only a tick samples them. -/
theorem test_tierEncoderTick_still :
    let s := tying { Tier.initial with warmUp := 0 } 0x91E5 none
    let t := after (.tierEncoderTick .one (.still 5)) s
    (t.inputs.tiers.one.lines, t.tiers.one.tie.map Tie.signature, t.tiers.one.tie.map Tie.ticks) = (5, some 0x91E5, some 400) := by decide

/-- R172: the bytes of FLUSH NOTICES's reply, tag 7, from a running line with three notices held; the check is R122's over
05 83 07 00 01 03. -/
theorem test_flushNotices_sent :
    (after (.flushNotices 7) { line .running with notices := { Notices.initial with queue := List.replicate 3 (.captureFull 1) } }).transmitOutput
      = [0xC3, 0x05, 0x83, 0x07, 0x00, 0x01, 0x03, 0xD3, 0x6C] := by decide +kernel

/-- R136, R146: a stroke timeout that leaves the granted lane quiet begins its purge before the jam aborts it. -/
theorem test_strokeTimeout_aborts :
    let s := thinRun (.stroking (cutOf 5)) none 6
    let t := after (.strokeTimeout .a) { s with
      slicers := s.slicers.set .a { s.slicers.a with schedule := [] }
      crumb := s.crumb.set .a { Crumb.initial with mode := .auto, step := .gapWait, load := 402012, phase := some 5000 }
      air := ⟨some .a, none⟩ }
    (t.crumb.a.step, t.notices.queue.contains (.purgeAborted .a .purging 402012 false)) = (.watching, true) := by decide

/-- R61: blade-home asserted already has not become so. -/
theorem test_bladeHomeSeen_asserted :
    let s := { thinRun (.stroking (cutOf 0)) none 1 with inputs := { Inputs.initial with bladeHome := ⟨true, false⟩ } }
    after (.bladeHomeSeen .a) s = s := by decide

/-- R40: a READ QUEUE while the belt runs under a clear curtain reports the position as it stands, 100,670; on a halted line
the position stands at 100,420. -/
theorem test_readQueue_betweenEvents :
    let reads := fun (x : LineState) => (after (.readQueue 1 0 0) (after (.voidClose .a 250) (line x))).link.handled.bind Handled.reply
    (reads .running).map (fun f => (f.body.drop 2).take 4) = some [0x00, 0x01, 0x89, 0x3E] ∧
    (reads .halted).map (fun f => (f.body.drop 2).take 4) = some [0x00, 0x01, 0x88, 0x44] := by decide

/-! ### Witnesses: states and operands that meet the hypotheses of a statement -/

theorem witness_IdleStepIsOneMillisecond : (draining .draining).pending = [] := rfl

/-- Lane A waits for the air while lane B purges, on a running line with a loaf under the blade. -/
def busy : State :=
  { forced with
    crumb := ⟨{ Crumb.initial with mode := .auto, step := .gapWait, load := 402012, phase := some 5000 },
      { Crumb.initial with mode := .auto, step := .purging, load := 300000, phase := some 900 }⟩
    air := ⟨some .b, some .a⟩
    pending := [.strokeCompletion .a] }

/-- The line halted on an emergency stop, with the stop about to be released. -/
def stopHeld : State :=
  { draining .halted with inputs := { Inputs.initial with eStop := true }, pending := [.eStopReleased] }

theorem witness_EveryStepKeepsCausesRest :
    stopHeld.immediateCausePresent = true ∧ stopHeld.CausesRest ∧ ∃ t, step stopHeld = .next t :=
  ⟨by decide, fun _ => by decide, _, rfl⟩

theorem witness_EveryStepKeepsTheAirOrdered : busy.AirOrdered ∧ ∃ t, step busy = .next t := by
  refine ⟨⟨?_, ?_, ?_, ?_⟩, _, rfl⟩ <;> intro l <;> cases l <;> decide

theorem witness_EveryStepKeepsProductsDefined : busy.ProductsDefined ∧ ∃ t, step busy = .next t := by
  refine ⟨⟨?_, ?_, ?_, by decide⟩, _, rfl⟩ <;> intro l <;> cases l <;> decide

theorem witness_EveryStepKeepsTheBooks : busy.BooksKept ∧ ∃ t, step busy = .next t := by
  refine ⟨⟨by decide, ?_, by decide, ?_, ?_, fun x hx => by cases hx⟩, _, rfl⟩
  · intro l; cases l <;> decide
  · intro h; cases h <;> decide
  · unfold State.Balanced; decide

theorem witness_EveryStepKeepsFiguresInRange : busy.FiguresInRange ∧ ∃ t, step busy = .next t := by
  refine ⟨⟨by decide, by decide, by decide, by decide, by decide, by decide, ?_, ?_, ?_, ?_, ?_, by decide⟩, _, rfl⟩
  · intro l; cases l <;> (unfold Geometry.InRange; decide)
  · intro l; cases l <;> (unfold Slicer.InRange; decide)
  · intro l; cases l <;> (unfold Crumb.InRange; decide)
  · intro h; cases h <;> (unfold Tier.InRange; decide)
  · intro h; cases h <;> decide

theorem witness_PositionAndProductsHaveTheirWriters :
    (Instr.leadingEdge .a 5 1 ≠ .powerOn ∧ (line .halted).conveyorRuns .a = false) ∧
    (let s := { fullZone with lanes := fullZone.lanes.set .a { fullZone.lanes.a with gateHeld := some 62 } }
     Instr.cutDue .a ≠ .powerOn ∧ s.line.state = .running ∧ s.conveyorRuns .a = false) := by decide

theorem witness_RequestFramesDecode :
    (Instr.writeDayCodes 1 (List.replicate 61 ⟨0, 0x30, 0x30, 0x30⟩)).wellFormed = true ∧
    (encode (.writeDayCodes 1 (List.replicate 61 ⟨0, 0x30, 0x30, 0x30⟩))).isSome = true ∧
    (Instr.laneSettings 1 0 (List.replicate 49 ⟨1, 0⟩)).wellFormed = true ∧
    (encode (.laneSettings 1 0 (List.replicate 49 ⟨1, 0⟩))).isSome = true := by decide

theorem witness_DecodedFramesEncode :
    let f : Frame := ⟨0x28, 0x10, [0x00, 0x0B, 0x3A, 0x04, 0x4C, 0x03]⟩
    f.body.length ≤ 248 ∧ decodeRequest f = .ok (.trialPlan 0x10 0 2874 1100 3) := by decide

theorem witness_KindAndLengthAreCheckedFirst :
    bodyLengths ⟨0x06, 0, []⟩ = none ∧
    (bodyLengths ⟨0x38, 0, [1, 3, 2]⟩ = some [2, 4] ∧ 3 ∉ [2, 4]) ∧
    (bodyLengths ⟨0x20, 0, [0, 1, 6, 0, 0, 0, 50]⟩ = some [7] ∧ 7 ∈ [7]) := by decide

theorem witness_RequestsArriveAsFrames :
    (Instr.purgeStart 9 1).wellFormed = true ∧ encode (.purgeStart 9 1) = some ⟨0x4A, 9, [1]⟩ ∧ busy.link.handled = none ∧
    ((crowded 3 none).link.handled ≠ none ∧ (crowded 3 none).link.waiting = none) ∧
    ((crowded 3 (some ⟨0x10, 0, []⟩)).link.handled ≠ none ∧ (crowded 3 (some ⟨0x10, 0, []⟩)).link.waiting ≠ none) := by decide

theorem witness_FrameBytesReachThePort :
    let f : Frame := ⟨0x11, 0x22, [1]⟩
    f.body.length ≤ 248 ∧ busy.link.receiver = .hunting ∧ (0 : BitVec 16) ≠ frameCheck f ∧
    (⟨0x06, 0, List.replicate 248 0⟩ : Frame).body.length ≤ 248 := by decide +kernel

/-- A running line with the receiver in a state. -/
def listening (r : Receiver) : State := { line .running with link := { LinkPort.initial with receiver := r, interByte := some 3 } }

theorem witness_PortEvents_bytes :
    ((listening .hunting).link.receiver = .hunting ∧ (0xC2 : Byte) ≠ 0xC3) ∧
    ((listening .length).link.receiver = .length ∧ (1 : Byte).toNat < 2 ∧ 250 < (251 : Byte).toNat) ∧
    ((listening .length).link.receiver = .length ∧ 2 ≤ (2 : Byte).toNat ∧ (250 : Byte).toNat ≤ 250) ∧
    ((listening (.content 2 [1, 2])).link.receiver = .content 2 [1, 2] ∧ [(1 : Byte), 2].length + 1 < 2 + 2) := by decide

theorem witness_PortEvents_frames :
    (let f : Frame := ⟨0x10, 0x05, []⟩
     (listening (.content 2 [0x10, 0x05, hiByte (frameCheck f)])).link.receiver =
       .content (f.body.length + 2) (f.kind :: f.tag :: (f.body ++ [hiByte (frameCheck f)])) ∧
     (listening (.content 2 [0x10, 0x05, 0])).link.receiver = .content (f.body.length + 2) (f.kind :: f.tag :: (f.body ++ [hiByte 0])) ∧
     (0 : BitVec 16) ≠ frameCheck f) ∧
    ((crowded 1 none).link.handled = some ⟨⟨0x28, 0x10, []⟩, some ⟨0xA8, 0x10, []⟩⟩ ∧ (crowded 1 none).link.waiting = none) ∧
    (crowded 1 (some ⟨0x10, 0, []⟩)).link.waiting = some ⟨0x10, 0, []⟩ ∧
    (line .running).link.handled = none ∧
    (let s := { line .running with link := { LinkPort.initial with handled := some ⟨⟨0x28, 0x10, []⟩, none⟩ } }
     s.link.handled = some ⟨⟨0x28, 0x10, []⟩, none⟩) := by decide +kernel

theorem witness_RefusedRequestsChangeNothing :
    (takeFrame ⟨0x12, 0, []⟩ (draining .draining)).reply.map Prod.fst = some .wrongState ∧ ResultCode.wrongState ≠ .ok := by decide

theorem witness_RefusedRequestsChangeNothing_lane : busy.link.handled = none ∧ 1 < (2 : Byte).toNat ∧ 1 < (255 : Byte).toNat := by decide

theorem witness_NoticesPlacedReadAndReported_place :
    (let s := { crowded 3 none with notices := { Notices.initial with enabled := 0xBF } }
     s.notices.enabled.getLsbD (Notice.captureFull 1).classBit = false) ∧
    ((crowded 31 none).notices.enabled.getLsbD (Notice.captureFull 1).classBit = true ∧ (crowded 31 none).notices.queue.length < 32) ∧
    ((crowded 32 none).notices.enabled.getLsbD (Notice.captureFull 1).classBit = true ∧ 32 ≤ (crowded 32 none).notices.queue.length) := by
  decide

theorem witness_NoticesPlacedReadAndReported_requests :
    busy.link.handled = none ∧ (1 ≤ (1 : Byte).toNat ∧ (8 : Byte).toNat ≤ 8) ∧ 8 < (9 : Byte).toNat ∧ reportModeOf 2 = some .once ∧
    2 < (3 : Byte).toNat ∧ busy.notices.reports = .off ∧
    { busy.notices with reports := .every }.reports = .every ∧ { busy.notices with reports := .once }.reports = .once := by decide

theorem witness_IdentityAndGeometryReplies : busy.link.handled = none ∧ (1 : Byte) = Lane.code .b ∧ 1 < (2 : Byte).toNat := by decide

/-- `busy` with the grant given to lane A, which is not quiet. -/
def granted : State := { busy with
  crumb := ⟨busy.crumb.a, { busy.crumb.b with step := .watching, phase := none }⟩, air := ⟨some .a, none⟩ }

theorem witness_EventsEndSettled :
    (((State.finish granted none granted).crumb.get .a).step = .gapWait ∧ (State.finish granted none granted).air.holder = some .a) ∧
    ((line .draining).line.state = .draining ∧ (line .draining).lanes.a.queue = [] ∧ (line .draining).lanes.b.queue = [] ∧
      (line .draining).lanes.a.window = .clear ∧ (line .draining).lanes.b.window = .clear ∧
      (line .draining).heads.one.record = none ∧ (line .draining).heads.two.record = none) ∧
    (draining .draining).heads.one.record ≠ none := by decide

/-- Lane A holds one record, with its entry in the cut schedule or none. -/
def oneRecord (r : LoafRecord) (entries : List ScheduleEntry) : State :=
  { holding [r] (line .running) with slicers := State.reset.slicers.set .a { Slicer.initial true with schedule := entries } }

/-- Lane A in AUTO, WATCHING, with a crumb load. -/
def autoLoad (load : Nat) (s : State) : State :=
  { s with crumb := s.crumb.set .a { Crumb.initial with mode := .auto, step := .watching, load := load } }

theorem witness_PurgeStartsAndTheAirArbiter :
    (let s := autoLoad 400000 (holding [loaf 9 .a] (line .running))
     (s.crumb.get .a).mode = .auto ∧ (s.crumb.get .a).step = .watching ∧ s.line.state = .running ∧ (s.crumb.get .a).holdOff = none ∧
       (s.crumb.get .a).tHigh ≤ (s.crumb.get .a).load) ∧
    (let s := autoLoad 200000 (holding [planned 9 .a .sliced] (line .draining))
     (s.crumb.get .a).mode = .auto ∧ (s.crumb.get .a).step = .watching ∧ s.line.state = .draining ∧ (s.crumb.get .a).holdOff = none ∧
       (s.crumb.get .a).tLow ≤ (s.crumb.get .a).load ∧ (∀ r ∈ (s.lanes.get .a).queue, r.stage = .sliced) ∧ (s.lanes.get .a).window = .clear) ∧
    (let s := autoLoad 199999 (line .running)
     ¬(s.crumb.get .a).tHigh ≤ (s.crumb.get .a).load ∧ ¬(s.crumb.get .a).tLow ≤ (s.crumb.get .a).load) ∧
    ((⟨some .b, some .a⟩ : Air).holder ≠ some .a ∧ (⟨some .b, some .a⟩ : Air).waiting = some .a) := by decide

theorem witness_PurgeStartsAndTheAirArbiter_change :
    let blade : List Stage := [.gauged, .planWait, .planned, .slicing]
    (let before := oneRecord (planned 41 .a .slicing) []
     let s := oneRecord (planned 41 .a .sliced) []
     ∃ r ∈ (before.lanes.get .a).queue, r.stage ∈ blade ∧
       ∀ x ∈ (s.lanes.get .a).queue, x.number = r.number → x.stage ∉ blade) ∧
    ((spanOpen.lanes.get .a).window ≠ .clear ∧ ((line .running).lanes.get .a).window = .clear) ∧
    ((line .running).lanes.get .a).queue = [] ∧
    (let u := { granted with lanes := (line .running).lanes }
     (u.crumb.get .a).step = .gapWait ∧ u.air.holder = some .a ∧ (∀ r ∈ (u.lanes.get .a).queue, r.stage ∉ blade) ∧
       (u.lanes.get .a).window = .clear) := by decide

/-- A WRITE PRODUCT body at the ends of its ranges. -/
def edgeBody : ProductBody := ⟨0xFFFF, 40, 40, 400, 1000, 30, 60, 255, 1, 7⟩

theorem witness_ProductRequests_accepted :
    busy.link.handled = none ∧ (15 : Byte).toNat = (15 : ProductIx).val ∧ ProductFieldsAllowed edgeBody ∧
    edgeBody.wholeOk = boolCode true ∧ edgeBody.shelfClass.toNat = (7 : Fin 8).val ∧ busy.inUse 15 = false ∧
    ({ busy with products := busy.products.set 15 busy.products[3] }.products[15] ≠ none ∧
      { busy with products := busy.products.set 15 busy.products[3] }.inUse 15 = false) := by
  refine ⟨rfl, rfl, ?_, rfl, rfl, by decide, by decide, by decide⟩
  unfold ProductFieldsAllowed; decide

theorem witness_ProductRequests_refused :
    15 < (16 : Byte).toNat ∧ ¬ProductFieldsAllowed { edgeBody with tMin := 39 } ∧ busy.inUse 3 = true ∧ busy.products[3] ≠ none ∧
    busy.products[15] = none := by
  refine ⟨by decide, ?_, by decide, by decide, by decide⟩
  unfold ProductFieldsAllowed; decide

/-- R13's condition on a list of day code pairs, as AssignmentsAndDayCodes spells it. -/
def dayPairsPass (pairs : List DayPair) : Bool :=
  let character := fun (c : Byte) => decide ((0x41 ≤ c.toNat ∧ c.toNat ≤ 0x5A) ∨ (0x30 ≤ c.toNat ∧ c.toNat ≤ 0x39))
  decide (pairs.length ≤ 8 ∧ (∀ p ∈ pairs, p.index.toNat ≤ 7 ∧ character p.c1 ∧ character p.c2 ∧ character p.c3) ∧
    (pairs.map DayPair.index).Nodup)

theorem witness_AssignmentsAndDayCodes :
    (busy.link.handled = none ∧ (0 : Byte) = Lane.code .a ∧ (3 : Byte) = productCode (some 3) ∧ busy.products[3] ≠ none ∧
      busy.line.state ≠ .stopped ∧ (line .stopped).line.state = .stopped ∧ (0xFF : Byte) = productCode none) ∧
    (15 < (16 : Byte).toNat ∧ (16 : Byte) ≠ 0xFF ∧ busy.products[15] = none) ∧
    (dayPairsPass [] ∧ dayPairsPass [⟨0, 0x30, 0x39, 0x41⟩, ⟨7, 0x5A, 0x30, 0x30⟩] ∧ ¬dayPairsPass [⟨8, 0x30, 0x30, 0x30⟩] ∧
      ¬dayPairsPass [⟨0, 0x3A, 0x30, 0x30⟩] ∧ ¬dayPairsPass [⟨0, 0x30, 0x40, 0x30⟩] ∧ ¬dayPairsPass [⟨0, 0x30, 0x30, 0x5B⟩] ∧
      ¬dayPairsPass [⟨0, 0x30, 0x30, 0x30⟩, ⟨0, 0x31, 0x31, 0x31⟩]) := by
  decide

/-- R16's condition on a list of lane settings against a stopped line's geometry, as LaneSettingsTaken spells it. -/
def lanePairsPass (pairs : List Setting) : Bool :=
  let g := ((line .stopped).lanes.get .a).geometry
  let allowed := fun (p : Setting) => decide (
    (p.item = 1 ∧ 500 ≤ p.value.toNat ∧ p.value.toNat ≤ 20000) ∨ (p.item = 2 ∧ 501 ≤ p.value.toNat ∧ p.value.toNat ≤ 30000) ∨
    (p.item = 3 ∧ 502 ≤ p.value.toNat ∧ p.value.toNat ≤ 40000) ∨ (p.item = 4 ∧ p.value.toNat ≤ 2000) ∨
    (p.item = 5 ∧ 10 ≤ p.value.toNat ∧ p.value.toNat ≤ 500) ∨ (p.item = 6 ∧ 10 ≤ p.value.toNat ∧ p.value.toNat ≤ 60))
  decide (1 ≤ pairs.length ∧ pairs.length ≤ 12 ∧ (∀ p ∈ pairs, allowed p) ∧
    lastFor 1 g.dBlade pairs < lastFor 2 g.dReject pairs ∧ lastFor 2 g.dReject pairs < lastFor 3 g.dRouter pairs)

theorem witness_LaneSettingsTaken :
    (busy.link.handled = none ∧ (0 : Byte) = Lane.code .a ∧ busy.line.state ≠ .stopped ∧ (line .stopped).line.state = .stopped) ∧
    (lanePairsPass [⟨1, 500⟩] ∧ lanePairsPass [⟨1, 500⟩, ⟨2, 501⟩, ⟨3, 502⟩] ∧ lanePairsPass [⟨1, 20000⟩, ⟨2, 30000⟩, ⟨3, 40000⟩] ∧
      lanePairsPass [⟨1, 6000⟩, ⟨1, 5999⟩] ∧ lanePairsPass [⟨4, 0⟩, ⟨4, 2000⟩, ⟨5, 10⟩, ⟨5, 500⟩, ⟨6, 10⟩, ⟨6, 60⟩]) ∧
    (¬lanePairsPass [] ∧ ¬lanePairsPass [⟨1, 499⟩] ∧ ¬lanePairsPass [⟨1, 6000⟩] ∧ ¬lanePairsPass [⟨7, 10⟩]) := by decide

/-- Lane A's gauge window in a state. -/
def gauge (w : Window) (s : State) : State := s.modLane .a fun q => { q with window := w }

theorem witness_BeamsBlockedByTheGauge :
    (1 : BitVec 48) ≠ 0 ∧ (busy.lanes.get .a).window = .clear ∧
    ((gauge (.span 5 21 (some 3)) busy).lanes.get .a).window = .span 5 21 (some 3) ∧ ((gauge .void busy).lanes.get .a).window = .void ∧
    (⟨none, some (some 3)⟩ : Assignment).pending = some (some 3) := by decide

/-- R18: the highest index of a blocked beam, at both ends of the curtain. -/
theorem test_highestBeam : highestBeam 1 = 0 ∧ highestBeam 0b10110 = 4 ∧ highestBeam (1 <<< 47) = 47 := by decide

/-- R169: a first index of 13 gives products 13, 14 and 15. -/
theorem test_fourFrom : fourFrom 13 = [13, 14, 15] := by decide

/-- Lane A with 24 records and a span open. -/
def fullQueue : State := gauge (.span 100000 21 (some 3)) (holding (List.replicate 24 (loaf 9 .a)) (line .running))

theorem witness_SpansAreClassified :
    (busy.lanes.get .a).window = .clear ∧ ((gauge .void busy).lanes.get .a).window = .void ∧
    ((spanOpen.lanes.get .a).window = .span 100420 21 (some 3) ∧ (149 : Quad).toNat < (spanOpen.lanes.get .a).geometry.debrisLen ∧
      (spanOpen.lanes.get .a).geometry.debrisLen ≤ (150 : Quad).toNat ∧ (spanOpen.lanes.get .a).queue.length < 24) ∧
    ((fullQueue.lanes.get .a).window = .span 100000 21 (some 3) ∧ 24 ≤ (fullQueue.lanes.get .a).queue.length) := by decide

/-- The trailing edge of a loaf is at lane A's gauge. -/
def closing (span : Nat) : State := spanOpen.modLane .a fun q => { q with position := 100420 + BitVec.ofNat 32 span }

theorem books_closing (span : Nat) : (closing span).BooksKept := by
  refine ⟨by simp [closing, spanOpen, line, State.held, State.modLane, State.reset, State.powerOn, PerLane.set, PerLane.get, LaneState.initial, HeadState.initial], ?_, ?_, ?_, ?_, fun x hx => by cases hx⟩
  · intro l; cases l <;> exact Nat.zero_le _
  · show [Head.one, Head.two].Nodup; decide
  · intro h _; cases h <;> rfl
  · intro p; revert p; unfold State.Balanced; show ∀ p : Fin 16, _; intro p; fin_cases p <;> rfl

/-- The same with the gates of lane A far beyond the longest length. -/
def closingFar (span : Nat) : State :=
  (closing span).modLane .a fun q => { q with geometry := ⟨3000, 25000, 30000, 300, 150, 50⟩ }

theorem books_closingFar (span : Nat) : (closingFar span).BooksKept := by
  obtain ⟨a, b, c, d, e, f⟩ := books_closing span
  refine ⟨a, fun l => ?_, c, d, fun p => ?_, f⟩
  · cases l <;> exact Nat.zero_le _
  · exact e p

/-- A span in each of the four reaches of R27 step 5: past no point, the blade line, the trailing edge's point above 16383,
and the gates with the trailing edge's point before, between and beyond them. -/
theorem witness_AdmissionFormsTheRecord_two :
    (let q := (closingFar 19383).lanes.get .a
     q.position - 100420 = BitVec.ofNat 32 19383 ∧ q.geometry.ordered = true ∧ q.geometry.dRouter ≤ 40000 ∧
       1 ≤ q.geometry.dBlade ∧ 19383 < q.geometry.dReject ∧ q.geometry.dBlade + min 19383 16383 ≤ 19383) ∧
    (∀ span ∈ [6000, 9000, 16383],
      let q := (closing span).lanes.get .a
      q.position - 100420 = BitVec.ofNat 32 span ∧ q.geometry.dReject ≤ span ∧
        (closing span).totals.products[3].rejLatePlan < 4294967295) ∧
    (let r := { planned 41 .a .planned with passed := ⟨true, false, false, false⟩, lead := 95000 }
     (oneRecord r []).queued .a 41 = some r ∧ (oneRecord r []).conveyorRuns .a = true ∧
       atOrBeyond ((oneRecord r []).lanes.get .a).position (r.lead + 3000) = true ∧ (oneRecord r []).queued .a 42 = none) := by
  decide

theorem witness_AdmissionFormsTheRecord :
    (∀ span ∈ [2999, 3000],
      ((closing span).lanes.get .a).position - 100420 = BitVec.ofNat 32 span ∧ ((closing span).lanes.get .a).geometry.ordered = true ∧
      ((closing span).lanes.get .a).geometry.dRouter ≤ 40000 ∧ 1 ≤ ((closing span).lanes.get .a).geometry.dBlade) ∧
    (2999 < ((closing 2999).lanes.get .a).geometry.dBlade ∧ (closing 2999).totals.products[3].admitted < 4294967295) ∧
    ((closing 3000).BooksKept ∧ ((closing 3000).lanes.get .a).geometry.dBlade ≤ 3000 ∧
      3000 < ((closing 3000).lanes.get .a).geometry.dReject ∧ (∀ r ∈ (closing 3000).held, r.number ≠ nextNumber (closing 3000).lastLoaf)) := by
  refine ⟨by decide, by decide, books_closing _, by decide, by decide, by decide⟩

theorem witness_TheBladeLineAndTheTrailingEdge :
    (let r := planned 41 .a .planned
     (oneRecord r []).queued .a 41 = some r ∧ (oneRecord r []).conveyorRuns .a = true ∧ r.passed.bladeLine = false ∧ r.plan ≠ none) ∧
    (let r := { planned 41 .a .planned with passed := ⟨true, false, false, false⟩ }
     (oneRecord r []).queued .a 41 = some r ∧ r.passed.bladeLine = true ∧ r.passed.trailing = false ∧ r.stage = .planned ∧
       ((oneRecord r []).slicers.get .a).schedule = [] ∧ ((oneRecord r []).slicers.get .a).blade = .home ∧
       ((oneRecord r [⟨41, 0⟩]).slicers.get .a).schedule = [⟨41, 0⟩]) ∧
    (let r := loaf 41 .a
     (oneRecord r []).queued .a 41 = some r ∧ (oneRecord r []).conveyorRuns .a = true ∧ r.passed.bladeLine = false ∧ r.plan = none) := by
  decide

theorem witness_RejectGateDiverts :
    let r := { planned 41 .a .sliced with passed := ⟨true, true, false, false⟩ }
    let d := { r with disposition := some .miscut }
    (oneRecord r []).queued .a 41 = some r ∧ (oneRecord r []).conveyorRuns .a = true ∧ r.passed.bladeLine = true ∧
    r.passed.rejectGate = false ∧ r.disposition = none ∧ (oneRecord d []).queued .a 41 = some d ∧
    (oneRecord d []).totals.products[d.product].rejected .miscut < 4294967295 := by decide

/-- A record at its router gate. -/
def atRouter : LoafRecord := { planned 62 .a .sliced with passed := ⟨true, true, true, false⟩ }

theorem books_fullZone : fullZone.BooksKept ∧ (oneRecord atRouter []).BooksKept := by
  constructor <;> refine ⟨by decide, ?_, by decide, ?_, ?_, fun x hx => by cases hx⟩
  all_goals first
    | (intro l; cases l <;> decide)
    | (unfold State.Balanced; decide)

theorem witness_RouterGatePlacesTheRecord :
    (fullZone.BooksKept ∧ fullZone.queued .a 62 = some atRouter ∧ fullZone.conveyorRuns .a = true ∧
      2 ≤ (fullZone.lanes.get .a).queue.countP fun x => decide (x.stage = .waiting)) ∧
    ((oneRecord atRouter []).BooksKept ∧ (oneRecord atRouter []).queued .a 62 = some atRouter ∧ atRouter.passed.rejectGate = true ∧
      atRouter.passed.routerGate = false ∧ atRouter.stage ≠ .waiting ∧
      ((oneRecord atRouter []).lanes.get .a).queue.countP (fun x => decide (x.stage = .waiting)) < 2) :=
  ⟨⟨books_fullZone.1, by decide, by decide, by decide⟩, books_fullZone.2, by decide, by decide, by decide, by decide, by decide⟩

/-- The recipe of section 3.4 with the thickness held to 120..125 and no wear. -/
def narrow : PlanInputs := { evenInputs with tMin := 120, tMax := 125, strokes := 0 }

theorem witness_SliceCountPitchAndClamp_count :
    (40 ≤ narrow.tNom ∧ 1 ≤ narrow.nMax) ∧
    (256 + (256 * narrow.tNom + narrow.kSub) / 2) / (256 * narrow.tNom + narrow.kSub) = 0 ∧
    { narrow with nMax := 1 }.nMax < (46080 * 3 + (256 * narrow.tNom + narrow.kSub) / 2) / (256 * narrow.tNom + narrow.kSub) ∧
    (let n := narrow.nominalCount 46080
     256 * (narrow.tMax : Int) < ((46080 / n : Nat) : Int) - (narrow.kSub : Int) ∧ n < narrow.nMax) ∧
    (let n := narrow.nominalCount 53760
     ¬256 * (narrow.tMax : Int) < ((53760 / n : Nat) : Int) - (narrow.kSub : Int) ∧
       ((53760 / n : Nat) : Int) - (narrow.kSub : Int) < 256 * (narrow.tMin : Int) ∧ 1 < n) ∧
    (let n := evenInputs.nominalCount 658944
     ¬256 * (evenInputs.tMax : Int) < ((658944 / n : Nat) : Int) - (evenInputs.kSub : Int) ∧
       ¬((658944 / n : Nat) : Int) - (evenInputs.kSub : Int) < 256 * (evenInputs.tMin : Int)) := by decide

theorem witness_SliceCountPitchAndClamp_clamp :
    narrow.tMin ≤ narrow.tMax ∧
    256 * (narrow.tMax : Int) < ((34049 : Nat) : Int) - (narrow.kSub : Int) ∧
    ((32767 : Nat) : Int) - (narrow.kSub : Int) < 256 * (narrow.tMin : Int) ∧
    (256 * (narrow.tMin : Int) ≤ ((32768 : Nat) : Int) - (narrow.kSub : Int) ∧
      ((34048 : Nat) : Int) - (narrow.kSub : Int) ≤ 256 * (narrow.tMax : Int)) ∧
    2 * evenInputs.heel < evenInputs.length ∧ (256 * 150 + 19 * 34681 + 128) / 256 ≤ evenInputs.length ∧
    2 * noSpanInputs.heel < noSpanInputs.length ∧ noSpanInputs.length < (256 * 20 + 1 * 33280 + 128) / 256 := by decide

theorem witness_PlansWithCuts :
    40 ≤ shortInputs.tMin ∧ shortInputs.tMin ≤ shortInputs.tNom ∧ shortInputs.tNom ≤ shortInputs.tMax ∧ 1 ≤ shortInputs.nMax ∧
    evenInputs.plan.outcome = .even ∧ shortInputs.plan.outcome = .heelShort ∧
    { evenInputs with nMax := 1 }.plan.outcome = .heelLong := by decide

theorem witness_PlansWithoutCutsAndWear :
    40 ≤ noSpanInputs.tMin ∧ noSpanInputs.tMin ≤ noSpanInputs.tNom ∧ noSpanInputs.tNom ≤ noSpanInputs.tMax ∧
    1 ≤ noSpanInputs.nMax ∧ { noSpanInputs with length := 40 }.length ≤ 2 * noSpanInputs.heel ∧
    noSpanInputs.plan.outcome = .noSpan ∧ noSpanInputs.plan.cuts = [] ∧ evenInputs.plan.outcome = .even ∧ evenInputs.plan.cuts ≠ [] ∧
    shortInputs.plan.outcome = .heelShort := by decide

/-- A planner with a number of trials queued, with a plan in progress or none. -/
def planning (n : Nat) (current : Option CurrentPlan) (s : State) : State :=
  { s with planner := { Planner.initial with queue := List.replicate n (.trial .a 2874 1100 3), current := current } }

theorem witness_PlanRequestsArrive_trial :
    let c : CurrentPlan := ⟨.gauge .a 41, evenInputs, false⟩
    let allowed := fun (lane product : Byte) (length height : Half) =>
      decide (lane.toNat ≤ 1 ∧ 1 ≤ length.toNat ∧ length.toNat ≤ 16383 ∧ height.toNat ≤ 2000 ∧ product.toNat ≤ 15)
    (line .running).link.handled = none ∧ (allowed 0 0 1 0 ∧ allowed 1 15 16383 2000) ∧
    (¬allowed 2 3 1 0 ∧ ¬allowed 0 3 0 0 ∧ ¬allowed 0 3 16384 0 ∧ ¬allowed 0 3 1 2001 ∧ ¬allowed 0 16 1 0) ∧
    (1 : Byte) = Lane.code .b ∧ (3 : Byte).toNat = (3 : ProductIx).val ∧ (15 : Byte).toNat = (15 : ProductIx).val ∧
    (line .running).products[3] ≠ none ∧ (line .running).products[15] = none ∧
    (planning 3 (some c) (line .running)).planner.queue.length < 4 ∧
    (4 ≤ (planning 4 (some c) (line .running)).planner.queue.length ∧ (planning 4 (some c) (line .running)).products[3] ≠ none) := by
  decide

theorem witness_PlanRequestsArrive_start :
    let c : CurrentPlan := ⟨.gauge .a 41, evenInputs, false⟩
    let r := loaf 41 .a
    let s := { oneRecord r [] with planner := { Planner.initial with queue := [.gauge .a 41, .trial .b 390 1100 3] } }
    (planning 3 (some c) (line .running)).planner.current ≠ none ∧ (planning 0 none (line .running)).planner.queue = [] ∧
    (s.planner.current = none ∧ s.planner.queue = .gauge .a 41 :: [.trial .b 390 1100 3] ∧ s.queued .a 41 = some r ∧
      s.products[r.product] = some (productThree none)) ∧
    ((planning 1 none s).planner.current = none ∧ (planning 1 none s).planner.queue = .trial .a 2874 1100 3 :: [] ∧
      (planning 1 none s).products[3] = some (productThree none)) := by decide

/-- Loaf 41's gauge request is on its way to the planner. -/
def onItsWay (withdrawn : Bool) (n : Nat) (current : Option CurrentPlan) : State :=
  let s := planning n current (oneRecord (loaf 41 .a) [])
  { s with planner := { s.planner with issued := [⟨.b, 41, false⟩, ⟨.a, 41, withdrawn⟩, ⟨.a, 42, false⟩] } }

theorem witness_PlanRequestsArrive_arrival :
    let c : CurrentPlan := ⟨.trial .a 2874 1100 3, evenInputs, false⟩
    (onItsWay true 0 none).planner.issued = [⟨.b, 41, false⟩] ++ ⟨.a, 41, true⟩ :: [⟨.a, 42, false⟩] ∧
    (∀ x ∈ [(⟨.b, 41, false⟩ : IssuedRequest)], ¬(x.lane = .a ∧ x.loaf = 41)) ∧
    (onItsWay false 3 (some c)).queued .a 41 = some (loaf 41 .a) ∧
    ((onItsWay false 3 (some c)).planner.queue.length < 4 ∧ (onItsWay false 3 (some c)).planner.current ≠ none) ∧
    ((onItsWay false 0 none).planner.queue = [] ∧ (onItsWay false 0 none).planner.current = none) ∧
    4 ≤ (onItsWay false 4 (some c)).planner.queue.length := by decide

theorem witness_PlansComplete :
    (let c : CurrentPlan := ⟨.gauge .a 41, { noSpanInputs with wholeOk := false }, true⟩
     (planning 1 (some c) busy).planner.current = some c ∧ c.request = .gauge .a 41 ∧ c.withdrawn = true ∧
       c.inputs.plan.wearClamped = true ∧ ((planning 1 (some c) busy).slicers.get .a).wearLimit = false ∧
       (planning 1 (some c) busy).planner.queue ≠ []) ∧
    (let c : CurrentPlan := ⟨.gauge .a 99, evenInputs, false⟩
     (planning 0 (some c) busy).planner.current = some c ∧ (planning 0 (some c) busy).queued .a 99 = none) ∧
    (let c := fun (i : PlanInputs) => (⟨.gauge .a 41, i, false⟩ : CurrentPlan)
     let s := fun (i : PlanInputs) => planning 1 (some (c i)) (oneRecord (loaf 41 .a) [⟨40, 3⟩])
     let i := { noSpanInputs with wholeOk := false }
     (s i).planner.current = some (c i) ∧ (c i).withdrawn = false ∧ (s i).queued .a 41 ≠ none ∧ i.plan.outcome = .noSpan ∧ i.plan.cuts = [] ∧
       (s evenInputs).planner.current = some (c evenInputs) ∧ (s evenInputs).queued .a 41 ≠ none ∧ evenInputs.plan.outcome ≠ .noSpan ∧
       evenInputs.plan.cuts ≠ []) ∧
    (let c : CurrentPlan := ⟨.trial .a 2874 1100 3, evenInputs, false⟩
     let s := { planning 1 (some c) (line .running) with
       link := { LinkPort.initial with handled := some ⟨⟨0x28, 0x10, []⟩, none⟩ } }
     s.planner.current = some c ∧ c.request = .trial .a 2874 1100 3 ∧ s.link.handled = some ⟨⟨0x28, 0x10, []⟩, none⟩ ∧
       (⟨⟨0x28, 0x10, []⟩, none⟩ : Handled).reply = none) := by decide

theorem witness_ReportsAsBytes :
    (busy.products[15] = none ∧ busy.products[3] = some (productThree none)) ∧
    (let c : CurrentPlan := ⟨.gauge .a 41, evenInputs, false⟩
     (planning 1 (some c) busy).planner.current = some c ∧ (planning 1 none busy).planner.current = none) ∧
    busy.router.idleOrder.length ≤ 2 ∧ busy.router.waitingOrder.length ≤ 4 := by decide

theorem witness_SlicerRequestsCarriedOut :
    busy.link.handled = none ∧ (0 : Byte) = Lane.code .a ∧ (line .halted).line.state = .halted ∧ (line .stopped).line.state = .stopped ∧
    busy.line.state = .running ∧ (line .draining).line.state = .draining := by decide

theorem witness_CutsFallDue :
    let r := planned 70 .a .slicing
    let p := planOf [150, 200, 250, 300, 350, 400]
    let s := thinRun .home none 0
    let t := thinRun (.stroking (cutOf 4)) none 5
    ((s.slicers.get .a).schedule = [⟨70, 0⟩] ∧ s.queued .a 70 = some r ∧ r.plan = some p ∧ p.cuts[0]? = some 150 ∧
      s.conveyorRuns .a = true ∧ (s.slicers.get .a).blade = .home) ∧
    ((t.slicers.get .a).schedule = [⟨70, 5⟩] ∧ t.queued .a 70 = some r ∧ p.cuts[5]? = some 400 ∧
      (t.slicers.get .a).blade = .stroking (cutOf 4) ∧ (t.slicers.get .a).pending = none) ∧
    (let s := fun (b : Blade) (c : Cut) => ((thinRun b (some c) 5).slicers.get .a)
     let other : Cut := ⟨99, 0, 3, 800⟩
     ((s (.homing true) (cutOf 4)).blade = .homing true ∧ (s (.homing true) (cutOf 4)).pending.map Cut.loaf = some 70) ∧
       ((s (.stroking (cutOf 3)) other).blade = .stroking (cutOf 3) ∧ (cutOf 3).loaf = 70 ∧ (s (.stroking (cutOf 3)) other).pending = some other) ∧
       ((s (.stroking other) other).blade = .stroking other ∧ (s (.stroking other) other).pending = some other ∧ other.loaf ≠ 70)) := by decide

theorem witness_BladeHomeChanges :
    (((thinRun (.stroking (cutOf 0)) none 1).slicers.get .a).blade = .stroking (cutOf 0) ∧
      (thinRun (.stroking (cutOf 0)) none 1).queued .a (cutOf 0).loaf = some (planned 70 .a .slicing) ∧
      ((thinRun (.stroking (cutOf 0)) none 1).slicers.get .a).pending.map Cut.loaf ≠ some (cutOf 0).loaf) ∧
    (((thinRun (.homing true) none 1).slicers.get .a).blade = .homing true ∧ ((thinRun (.homing true) none 1).slicers.get .a).pending = none) ∧
    ((thinRun (.homing true) (some (cutOf 0)) 1).slicers.get .a).pending = some (cutOf 0) ∧
    ((thinRun (.homing false) none 1).slicers.get .a).blade = .homing false ∧
    (((thinRun .home none 1).slicers.get .a).blade = .home ∧ (thinRun .home none 1).line.state = .running ∧
      (line .stopped).line.state = .stopped ∧ ((thinRun (.homing false) none 1).slicers.get .a).blade ≠ .home) ∧
    ((thinRun (.homing true) none 1).inputs.bladeHome.get .a = false ∧
      { line .running with inputs := { Inputs.initial with bladeHome := ⟨true, true⟩ } }.inputs.bladeHome.get .a = true) := by decide

theorem witness_SlicersTimeOut :
    let s := thinRun (.stroking (cutOf 0)) (some (cutOf 1)) 2
    let t := thinRun (.homing true) none 1
    ((s.slicers.get .a).blade = .stroking (cutOf 0) ∧ (s.slicers.get .a).timer ≠ none ∧ 70 ∈ (s.slicers.get .a).owners ∧
      s.queued .a 70 = some (planned 70 .a .slicing) ∧ s.moving = true ∧ s.line.window = none) ∧
    ((t.slicers.get .a).blade = .homing true ∧ (t.slicers.get .a).timer ≠ none ∧
      { t with line := { t.line with window := some 1 } }.line.window ≠ none ∧
      { t with line := { t.line with state := .halted } }.moving = false) := by decide

/-- A WRITE WATCH body with every test off. -/
def watchBody : WatchBody := ⟨1, 3, 15, 2, 0, 0, 0, 0, 0, 0, 3, 63, 1, 0, 255, 31⟩

/-- R77's condition on a WRITE WATCH body, as WatchRequestsCarriedOut spells it. -/
def watchAllowed (f : WatchBody) (i : Fin 4) : Bool :=
  decide (f.enable.toNat ≤ 1 ∧ f.productValue.toNat ≤ 15 ∧ f.productMask.toNat ≤ 15 ∧ f.laneSelect.toNat ≤ 2 ∧
    f.lengthMode.toNat ≤ 3 ∧ f.lengthLow.toNat ≤ 16383 ∧ f.lengthHigh.toNat ≤ 16383) &&
  decide (f.heightMode.toNat ≤ 3 ∧ f.heightLow.toNat ≤ 2000 ∧ f.heightHigh.toNat ≤ 2000 ∧
    f.requiredFlags.toNat ≤ 3 ∧ f.outcomes.toNat ≤ 63 ∧ f.combine.toNat ≤ 1 ∧ f.chained.toNat ≤ 1) &&
  decide (1 ≤ f.armWindow.toNat ∧ f.actions.toNat ≤ 31 ∧ (2 ≤ f.lengthMode.toNat → f.lengthLow.toNat ≤ f.lengthHigh.toNat) ∧
    (2 ≤ f.heightMode.toNat → f.heightLow.toNat ≤ f.heightHigh.toNat) ∧ (f.chained = 1 → i = 1 ∨ i = 3))

/-- A WRITE WATCH body with both ranges tested, at the ends of their ranges, and chained. -/
def testedBody : WatchBody :=
  { watchBody with lengthMode := 2, lengthLow := 16383, lengthHigh := 16383, heightMode := 3, heightHigh := 2000, chained := 1 }

theorem witness_WatchRequestsCarriedOut :
    (busy.link.handled = none ∧ (3 : Byte).toNat = (3 : Fin 4).val ∧ 3 < (4 : Byte).toNat) ∧
    (watchAllowed watchBody 0 ∧ watchBody.laneSelect = LaneSelect.code .either ∧ watchBody.lengthMode = TestMode.code .off ∧
      watchBody.heightMode = TestMode.code .off ∧ watchBody.combine = Combine.code .any) ∧
    (watchAllowed testedBody 3 ∧ testedBody.lengthMode = TestMode.code .inside ∧ testedBody.heightMode = TestMode.code .outside) ∧
    (¬watchAllowed testedBody 2 ∧ ¬watchAllowed { watchBody with armWindow := 0 } 0 ∧ ¬watchAllowed { watchBody with productMask := 16 } 0 ∧
      ¬watchAllowed { testedBody with lengthHigh := 16382 } 3 ∧ ¬watchAllowed { watchBody with actions := 32 } 0) ∧
    (15 : Byte).toNat ≤ 15 ∧ 15 < (16 : Byte).toNat := by
  decide

theorem witness_EvaluationsFireAndCapture_chain :
    let s := fun (r : LoafRecord) (w : Option Nat) => holding [r] (chained w)
    let e := (s (judged true .even) none).watch.entries
    (s (judged true .even) none).findRecord 83 = some (judged true .even) ∧ e[3].chained = true ∧ e[1].chained = false ∧
    e[2].matchesLoaf (judged true .even) = true ∧ e[3].matchesLoaf (judged true .even) = false ∧
    (e[2].matchesLoaf (judged false .heelShort) = false ∧ e[3].matchesLoaf (judged false .heelShort) = true) ∧
    (e[2].matchesLoaf (judged false .even) = false ∧ e[3].matchesLoaf (judged false .even) = false) ∧
    (s (judged false .even) (some 1)).watch.chains[1] = some 1 ∧ (s (judged false .even) none).watch.chains[1] = none ∧
    ((judged true .even).plan = some { planOf [] with outcome := .even } ∧ { judged true .even with plan := none }.plan = none ∧
      (s { judged true .even with plan := none } none).findRecord 83 = some { judged true .even with plan := none }) := by decide

/-- A captured summary. -/
def summary : Summary :=
  ⟨83, .a, 3, 2874, 1100, 420, ⟨false, false, false, false, false⟩, .even, 19, 31696, none, false, Vector.replicate 4 false⟩

theorem witness_EvaluationsFireAndCapture_capture :
    let log := fun (n : Nat) (on : Bool) => { busy with watch := { busy.watch with capture := List.replicate n summary, recording := on } }
    (log 0 false).watch.recording = false ∧ (log 14 true).watch.recording = true ∧ (log 14 true).watch.capture.length < 15 ∧
    (log 15 true).watch.capture.length = 15 ∧ 16 ≤ (log 16 true).watch.capture.length := by decide

/-- R112's condition on a list of head settings, as RouterAndHeadRequests spells it. -/
def headPairsPass (pairs : List Setting) : Bool :=
  decide (1 ≤ pairs.length ∧ pairs.length ≤ 12 ∧ ∀ p ∈ pairs,
    (1 ≤ p.item.toNat ∧ p.item.toNat ≤ 5 ∧ 100 ≤ p.value.toNat ∧ p.value.toNat ≤ 2000) ∨
    (p.item = 6 ∧ 0x41 ≤ p.value.toNat ∧ p.value.toNat ≤ 0x5A))

theorem witness_RouterAndHeadRequests :
    (busy.link.handled = none ∧ (1 : Byte) = Head.code .one ∧ (3 : Byte) = Source.code .both ∧ (0 : Byte) = Source.code .none) ∧
    ((draining .running).heads.get .one).step ≠ .idle ∧ (busy.heads.get .one).step = .idle ∧ (busy.tiers.get .one).magazine = 0 ∧
    (merging.tiers.get .one).magazine ≠ 0 ∧ Head.two ≠ .one ∧
    (let s := atHead .opening (loaf 9 .a) (draining .running)
     let t := { s with heads := s.heads.set .two (s.heads.get .one) }
     (t.heads.get .one).step ≠ .idle ∧ (t.heads.get .two).step ≠ .idle) ∧
    (headPairsPass [⟨1, 100⟩, ⟨5, 2000⟩, ⟨6, 0x41⟩, ⟨6, 0x5A⟩] ∧ ¬headPairsPass [] ∧ ¬headPairsPass [⟨1, 99⟩] ∧ ¬headPairsPass [⟨5, 2001⟩] ∧
      ¬headPairsPass [⟨6, 0x40⟩] ∧ ¬headPairsPass [⟨6, 0x5B⟩] ∧ ¬headPairsPass [⟨7, 100⟩]) := by decide

theorem witness_RouterAndHeadRequests_two :
    let s := atHead .opening (loaf 9 .a) (draining .running)
    let named := fun (q : SourcePair) => decide (q.head = 1 ∨ q.head = 2)
    (s.link.handled = none ∧ (s.heads.get .one).step ≠ .idle ∧ (s.heads.get .two).step = .idle) ∧
    ((busy.heads.get .one).step = .idle ∧ (busy.heads.get .two).step = .idle) ∧
    (named ⟨0, 1⟩ = false ∧ named ⟨3, 1⟩ = false ∧ named ⟨0xFF, 1⟩ = false ∧ named ⟨1, 4⟩ = true ∧ named ⟨2, 3⟩ = true ∧
      ¬(⟨1, 4⟩ : SourcePair).source.toNat ≤ 3 ∧ (⟨2, 3⟩ : SourcePair).source.toNat ≤ 3 ∧
      (⟨1, 0⟩ : SourcePair).head = (⟨1, 3⟩ : SourcePair).head) := by decide

theorem witness_HeadCompletionsTaken :
    (line .running).line.state ≠ .halted ∧
    (∀ x ∈ [HeadStep.opening, .loading, .gathering],
      ((atHead x (loaf 9 .a) (line .running)).heads.get .one).step = x ∧ ((atHead x (loaf 9 .a) (line .running)).heads.get .one).record ≠ none) ∧
    ((atHead .gathering (loaf 9 .a) (line .running)).tiers.get .one).magazine = 0 ∧
    ({ atHead .gathering (loaf 9 .a) (line .running) with
      tiers := ⟨{ Tier.initial with magazine := 1 }, Tier.initial⟩ }.tiers.get .one).magazine ≠ 0 ∧
    (line .halted).line.state = .halted ∧ ((atHead .tying (loaf 9 .a) (line .running)).heads.get .one).step ≠ .opening ∧
    (let last := (atHead .opening (loaf 9 .a) (line .running)).inputs.heads.get .one
     last.bagOpen = false ∧ last.loafIn = false ∧ last.gatherDone = false) ∧
    { Inputs.initial with heads := ⟨⟨true, true, true, true⟩, ⟨false, false, false, false⟩⟩ }.heads.one.bagOpen = true := by decide

theorem witness_HeadTimersRunOut :
    let s := fun (x : HeadStep) => atHead x (loaf 9 .a) (line .running)
    (((s .opening).heads.get .one).step = .opening ∧ ((s .opening).heads.get .one).timer ≠ none ∧
      ((s .opening).heads.get .one).misses = 0) ∧
    (((s .opening).modHead .one fun h => { h with misses := 1 }).heads.get .one).misses ≠ 0 ∧
    (((s .discharging).heads.get .one).step = .discharging ∧ ((s .discharging).heads.get .one).timer ≠ none ∧
      (s .discharging).line.window = none) ∧
    { (s .tying) with line := { Line.initial with state := .running, window := some 0 } }.line.window ≠ none := by decide

theorem witness_DischargeCountsTheLoaf :
    ((merging.heads.get .one).step = .discharging ∧ (merging.heads.get .one).record.isSome = true ∧ merging.line.state ≠ .halted ∧
      merging.router.pending.get .one = some .both ∧ (merging.tiers.get .one).magazine ≠ 0) ∧
    (let s := { merging with tiers := merging.tiers.set .one Tier.initial }
     (s.heads.get .one).step = .discharging ∧ s.router.pending.get .one = some .both ∧ (s.tiers.get .one).magazine = 0) ∧
    (merging.totals.products[3].bagged < 4294967295 ∧ merging.totals.products[3].baggedWhole < 4294967295 ∧
      merging.totals.products[3].baggedUnchecked < 4294967295 ∧ merging.totals.products[3] = { ProductTotals.zero with admitted := 2 }) ∧
    ((merging.heads.get .one).record.map LoafRecord.disposition = some none) ∧
    ((atHead .discharging { loaf 50 .a with disposition := some .untied } (line .running)).heads.get .one).record.map LoafRecord.disposition =
      some (some .untied) ∧
    ((line .halted).line.state = .halted ∧ ((line .running).heads.get .one).step ≠ .discharging) ∧
    (merging.inputs.heads.get .one).dischargeClear = false ∧
    { Inputs.initial with heads := ⟨⟨true, true, true, true⟩, ⟨false, false, false, false⟩⟩ }.heads.one.dischargeClear = true := by decide

theorem witness_HeadsTakeTheEarliestRecord :
    let s := { fullZone with router := { fullZone.router with active := ⟨.a, .none⟩ } }
    let g := { s with lanes := s.lanes.set .a { s.lanes.a with gateHeld := some 62 } }
    ((line .halted).moving = false ∧ s.moving = true ∧ s.router.idleOrder = [.one, .two] ∧
      (atHead .tying (loaf 9 .a) s).moving = true ∧ (atHead .tying (loaf 9 .a) s).router.idleOrder = [.two]) ∧
    (∀ w ∈ fullZone.router.waitingOrder, (fullZone.router.active.get .one).admits w.2 = false) ∧
    (s.router.waitingOrder = [] ++ (60, .a) :: [(61, .a)] ∧ (s.router.active.get .one).admits .a = true ∧
      s.queued .a 60 = some { loaf 60 .a with stage := .waiting } ∧ (s.lanes.get .a).gateHeld = none) ∧
    ((g.lanes.get .a).gateHeld = some 62 ∧ 62 ≠ 60 ∧ g.queued .a 60 = some { loaf 60 .a with stage := .waiting }) := by decide

theorem witness_TierRequestsCarriedOut :
    (busy.link.handled = none ∧ (1 : Byte) = Head.code .one ∧ (busy.tiers.get .one).learn = .none) ∧
    ((tying { Tier.initial with learn := .bound 3 } 0 none).tiers.get .one).learn = .bound 3 ∧
    (3 : Byte).toNat = (3 : ProductIx).val ∧ busy.products[3] = some (productThree none) ∧ busy.tiers.one.learn ≠ .bound 3 ∧
    busy.tiers.two.learn ≠ .bound 3 ∧ busy.products[15] = none := by decide

theorem witness_TierRequestsCarriedOut_refused :
    busy.link.handled = none ∧ (∀ b ∈ [(0 : Byte), 3, 0xFE], b ≠ 1 ∧ b ≠ 2 ∧ b ≠ 0xFF) ∧ ((0xFF : Byte) ≠ 1 ∧ (0xFF : Byte) ≠ 2) ∧
    1 < (2 : Byte).toNat ∧ (1 : Half) ≠ 0 ∧ 15 < (16 : Byte).toNat := by decide

theorem witness_TiesStart :
    let s := fun (m : Nat) => { line .running with tiers := ⟨{ Tier.initial with magazine := m }, Tier.initial⟩ }
    ((s 2).products[(loaf 9 .a).product] = some (productThree none) ∧ (s 2).line.state = .running) ∧
    (2 ≤ ((s 2).tiers.get .one).magazine ∧ ((s 2).tiers.get .one).magazine ≠ 51) ∧ ((s 51).tiers.get .one).magazine = 51 ∧
    (((s 1).tiers.get .one).magazine = 1 ∧ (s 1).router.active.get .one ≠ .none) ∧
    { s 1 with router := { Router.initial with active := ⟨.none, .none⟩ } }.router.active.get .one = .none := by decide

/-- Tier 1's cycle-complete stands asserted. -/
def cycled (s : State) : State :=
  { s with inputs := { s.inputs with tiers := s.inputs.tiers.set .one { s.inputs.tiers.one with cycleComplete := true } } }

theorem witness_TiesComplete :
    let learning := tying { Tier.initial with warmUp := 0, learn := .bound 3 } 0x91E5 none
    let third := tying { Tier.initial with warmUp := 0, streak := 2 } 0x9185 (some 0x91E5)
    (busy.tiers.get .one).tie = none ∧
    ((learning.tiers.get .one).tie = some ⟨106, 3, 400, 0x91E5, false⟩ ∧ learning.line.state ≠ .halted ∧
      (learning.inputs.tiers.get .one).cycleComplete = false ∧
      (learning.tiers.get .one).check = true ∧ (learning.tiers.get .one).warmUp = 0 ∧ (learning.tiers.get .one).learn = .bound 3) ∧
    (2 ≤ (third.tiers.get .one).streak ∧ (third.tiers.get .one).tie = some ⟨106, 3, 400, 0x9185, false⟩ ∧
      (third.products[3]).bind ProductEntry.signature = some 0x91E5 ∧ third.line.state ≠ .stopped ∧ third.drained = false ∧
      (third.heads.get .one).record.map LoafRecord.number = some 106 ∧ (third.heads.get .one).step = .tying) ∧
    (cycled learning).inputs.tiers.one.cycleComplete = true := by decide

/-- R132's condition on a list of crumb settings, as CrumbRequestsCarriedOut spells it. -/
def crumbPairsPass (pairs : List Setting) : Bool :=
  decide (1 ≤ pairs.length ∧ pairs.length ≤ 12 ∧ ∀ p ∈ pairs,
    ((p.item = 1 ∨ p.item = 2) ∧ 1 ≤ p.value.toNat ∧ p.value.toNat ≤ 16777215) ∨
    (p.item = 3 ∧ 200 ≤ p.value.toNat ∧ p.value.toNat ≤ 5000) ∨ (p.item = 4 ∧ 100 ≤ p.value.toNat ∧ p.value.toNat ≤ 3000))

theorem witness_CrumbRequestsCarriedOut :
    (busy.link.handled = none ∧ (0 : Byte) = Lane.code .a ∧ (busy.crumb.get .a).step ≠ .disabled ∧ (busy.crumb.get .a).step ≠ .watching) ∧
    (crumbPairsPass [⟨1, 1⟩, ⟨2, 16777215⟩, ⟨3, 200⟩, ⟨3, 5000⟩, ⟨4, 100⟩, ⟨4, 3000⟩] ∧ ¬crumbPairsPass [] ∧ ¬crumbPairsPass [⟨1, 0⟩] ∧
      ¬crumbPairsPass [⟨2, 16777216⟩] ∧ ¬crumbPairsPass [⟨3, 199⟩] ∧ ¬crumbPairsPass [⟨4, 3001⟩]) ∧
    ((line .halted).crumb.get .a).step = .disabled ∧ (line .halted).moving = false ∧ ((line .halted).crumb.get .a).mode ≠ .manual := by
  decide

/-- Lane A's controller at rest in a mode. -/
def resting (m : CrumbMode) (x : LineState) : State :=
  { line x with crumb := State.reset.crumb.set .a { Crumb.initial with mode := m, step := .watching } }

theorem witness_PurgeRequestsTaken :
    ((line .running).link.handled = none ∧ ((line .running).crumb.get .a).mode = .disabled) ∧
    (((resting .commanded .running).crumb.get .a).mode = .commanded ∧ ((resting .commanded .running).crumb.get .a).step = .watching ∧
      (resting .commanded .running).inputs.eStop = false ∧ (∀ g : Fin 4, (resting .commanded .running).inputs.guards[g] = false) ∧
      (resting .commanded .halted).line.state = .halted ∧ (busy.crumb.get .a).step = .gapWait) ∧
    (((resting .manual .stopped).crumb.get .a).mode = .manual ∧ (resting .manual .stopped).moving = false ∧
      ((resting .manual .stopped).lanes.get .a).queue = [] ∧ (resting .manual .stopped).air.holder = none ∧
      (resting .manual .running).moving = true ∧ { resting .manual .stopped with air := ⟨some .b, none⟩ }.air.holder = some (otherLane .a)) ∧
    (((resting .auto .running).crumb.get .a).mode = .auto ∧ ((resting .auto .running).crumb.get .a).single = false ∧
      (resting .auto .running).moving = true ∧ (resting .auto .stopped).moving = false) ∧
    (let c := { (resting .commanded .running).crumb.get .a with step := .purging }
     c.mode = .commanded ∧ c.step = .purging) := by decide

theorem witness_CrumbRequestsCarriedOut_refused :
    3 < (4 : Byte).toNat ∧ ((resting .auto .running).crumb.get .a).step = .watching ∧ (resting .auto .running).moving = true ∧
    (resting .auto .running).link.handled = none := by decide

theorem witness_PurgeRequestsTaken_manual :
    let s := holding [loaf 9 .a] (resting .manual .stopped)
    let c := { (resting .manual .stopped).crumb.get .a with step := .settling }
    (s.link.handled = none ∧ (s.crumb.get .a).mode = .manual ∧ (s.crumb.get .a).step = .watching ∧ s.moving = false ∧
      (∃ r ∈ (s.lanes.get .a).queue, r.stage = .gauged)) ∧
    (c.mode = .manual ∧ c.step = .settling) := by decide

theorem witness_PurgeTimersRunOut :
    ((busy.crumb.get .a).step = .gapWait ∧ (busy.crumb.get .a).phase ≠ none) ∧
    ((busy.crumb.get .b).step = .purging ∧ (busy.crumb.get .b).phase ≠ none) ∧
    (let s := { busy with crumb := busy.crumb.set .b { busy.crumb.b with step := .settling, phase := some 0, holdOff := some 0 } }
     (s.crumb.get .b).step = .settling ∧ (s.crumb.get .b).phase ≠ none ∧ (s.crumb.get .b).holdOff ≠ none) := by decide

theorem witness_RaisingAStopCause :
    (Cause.immediate .commandHalt = true ∧ busy.moving = true ∧ (line .stopped).moving = false) ∧
    (Cause.immediate .commandStop = false ∧ busy.line.state = .running ∧ busy.drained = false ∧ (line .halted).line.state ≠ .running) ∧
    (line .stopped).line.state = .stopped ∧ (line .halted).line.state = .halted ∧ (line .draining).line.state = .draining ∧
    ((line .running).line.state = .running ∧ (line .running).drained = true) ∧
    (busy.notices.enabled.getLsbD 0 = true ∧ busy.notices.queue.length < 32) := by decide

theorem witness_RaisingAStopCause_air : Cause.immediate .eStop = true ∧ busy.AirOrdered :=
  ⟨rfl, witness_EveryStepKeepsTheAirOrdered.1⟩

/-- A line at rest that may start: no cause present, no head without clips, product 3 on lane A. -/
def ready : State :=
  { line .stopped with tiers := ⟨{ Tier.initial with magazine := 1, loaded := 1 }, { Tier.initial with magazine := 1, loaded := 1 }⟩ }

theorem witness_StartRunsTheLine :
    (ready.link.handled = none ∧ ready.line.state = .stopped ∧ ready.immediateCausePresent = false ∧ ready.clipEmptyPresent = false ∧
      (ready.assign.get .a).active ≠ none) ∧
    ((line .running).line.state ≠ .stopped ∧ (line .stopped).clipEmptyPresent = true) ∧
    ((ready.slicers.get .a).blade = .homing false ∧ ready.inputs.bladeHome.get .a = false ∧ (ready.slicers.get .a).pending = none) ∧
    ({ ready with inputs := { ready.inputs with bladeHome := ⟨true, true⟩ } }.inputs.bladeHome.get .a = true) ∧
    ({ ready with slicers := ⟨Slicer.initial true, Slicer.initial true⟩ }.slicers.get .a).blade = .home ∧
    Head.one ∉ (draining .stopped).router.idleOrder := by decide

theorem witness_ResumeRestartsTheLine :
    let s := draining .halted
    (s.link.handled = none ∧ s.line.state = .halted ∧ s.inputs.eStop = false ∧ (∀ g : Fin 4, s.inputs.guards[g] = false) ∧
      s.line.causes.repeatFault = false) ∧
    ((s.heads.get .one).step = .tying ∧ (s.heads.get .two).step = .idle ∧ Head.one ∉ s.router.idleOrder ∧ s.drained = false ∧
      s.pendingCausePresent = true) ∧
    (stopHeld.inputs.eStop = true ∧ (line .running).line.state ≠ .halted) ∧
    ((atHead .bagOut (loaf 9 .a) s).heads.get .one).step = .bagOut ∧
    ((s.slicers.get .a).blade = .homing false ∧ s.inputs.bladeHome.get .a = false) := by decide

/-- Head 1 in a step with the completions of every state asserted, or none of them. -/
def completed (x : HeadStep) (asserted : Bool) (magazine : Nat) : State :=
  let s := atHead x (loaf 9 .a) (line .halted)
  { s with
    inputs := { s.inputs with heads := s.inputs.heads.set .one ⟨asserted, asserted, asserted, asserted⟩ }
    tiers := s.tiers.set .one { Tier.initial with magazine := magazine }
    router := { s.router with pending := ⟨some .both, none⟩ } }

theorem witness_ResumeRestartsTheLine_two :
    ((completed .gathering true 0).inputs.heads.get .one).gatherDone = true ∧ ((completed .gathering true 0).tiers.get .one).magazine = 0 ∧
    ((completed .gathering true 7).tiers.get .one).magazine ≠ 0 ∧ ((completed .gathering true 7).heads.get .one).record ≠ none ∧
    ((completed .discharging true 0).inputs.heads.get .one).dischargeClear = true ∧
    ((completed .discharging true 0).heads.get .one).record.map LoafRecord.disposition = some none ∧
    (completed .discharging true 0).totals.products[3] = ProductTotals.zero ∧
    ((completed .opening false 0).inputs.heads.get .one).bagOpen = false ∧
    (merging.line.state ≠ .halted ∧ (merging.heads.get .one).step = .discharging ∧ (merging.inputs.heads.get .one).dischargeClear = false) ∧
    ((line .running).drained = true ∧ busy.drained = false ∧ busy.line.state = .running ∧ (draining .running).pendingCausePresent = true) ∧
    (busy.slicers.get .a).pending = none := by decide

theorem witness_ClearEmptiesTheLine :
    (busy.link.handled = none ∧ busy.moving = true) ∧
    (let s := { busy with line := { Line.initial with state := .halted } }
     s.moving = false ∧ s.AirOrdered ∧ s.held ≠ [] ∧
       (∀ p : ProductIx, s.totals.products[p].cleared + s.held.length ≤ 4294967295)) :=
  ⟨by decide, by decide, witness_EveryStepKeepsTheAirOrdered.1, by decide, by decide⟩

theorem witness_LineRequestsAndSafetyInputs :
    busy.link.handled = none ∧ (2 : Byte) ≠ 0 ∧ (2 : Byte) ≠ 1 ∧ busy.inputs.eStop = false ∧ busy.inputs.guards[(3 : Fin 4)] = false := by
  decide

theorem witness_ShiftsCloseAndReadsReport :
    (busy.link.handled = none ∧
      { ProductTotals.zero with admitted := 4294967295 }.admitted = 4294967295) ∧
    ((0 : Byte) = Lane.code .a ∧ (23 : Byte).toNat ≤ 23 ∧ busy.findRecord (70 : Half).toNat = some (planned 70 .a .slicing) ∧ (70 : Half) ≠ 0 ∧
      busy.findRecord (71 : Half).toNat = none ∧ (13 : Byte).toNat = (13 : ProductIx).val) ∧
    (busy.totals.snapshot = none ∧ (busy.closeShift false).totals.snapshot.isSome = true) := by decide

/-- The state with one figure of a product at its limit. -/
def filled (p : ProductIx) (f : ProductTotals → ProductTotals) (s : State) : State := s.modProductTotals p f

theorem witness_ShiftsCloseAndReadsReport_removal :
    (let r := { planned 41 .a .sliced with passed := ⟨true, true, false, false⟩, disposition := some .miscut }
     let s := filled 3 (fun t => { t with rejMiscut := 4294967295 }) (oneRecord r [])
     r.product = 3 ∧ r ∈ s.held ∧ s.totals.products[3].rejMiscut = 4294967295 ∧ s.queued .a 41 = some r ∧ s.conveyorRuns .a = true ∧
       r.passed.bladeLine = true ∧ r.passed.rejectGate = false) ∧
    (let r := { loaf 9 .a with tie := some .unchecked, stage := .atHead, head := some .one }
     let s := filled 3 (fun t => { t with cleared := 4294967295, baggedUnchecked := 4294967295, bagged := 4294967295 })
       (atHead .discharging r (draining .running))
     r.product = 3 ∧ r ∈ s.held ∧ s.totals.products[3].cleared = 4294967295 ∧ s.totals.products[3].baggedUnchecked = 4294967295 ∧
       s.totals.products[3].bagged = 4294967295 ∧ r.disposition = none ∧ (s.heads.get .one).step = .discharging ∧
       (s.heads.get .one).record = some r ∧ s.line.state ≠ .halted ∧ (s.inputs.heads.get .one).dischargeClear = false ∧
       s.router.pending.get .one = none ∧ (s.tiers.get .one).magazine = 0 ∧
       ({ s with router := { s.router with pending := ⟨some .both, none⟩ } }.router.pending.get .one) = some .both) := by decide

theorem witness_ShiftsCloseAndReadsReport_refused :
    23 < (24 : Byte).toNat ∧ 1 < (2 : Byte).toNat ∧ 15 < (16 : Byte).toNat ∧ (16 : Byte) ≠ 0xFF ∧ (15 : Byte).toNat ≤ 15 ∧
    busy.totals.snapshot = none := by decide

end Sys2Proof.Tests
end

