-- ==== Sys2Proof/Proofs/SlicePlanning.lean ====
section
/-! The plan arithmetic of section 3.2, rule by rule: the nominal count (R51), its single adjustment (R52), the thickness
clamp (R53) and the whole plan of a loaf with a span (R54, R55). The adjustment, the clamp and the plan have one lemma per
case; the model compares the pitch with T + K, the rules compare the thickness P - K with T, and two lemmas pass between them. -/

namespace Sys2Proof.Machine

/-! ### The nominal count (R51) -/

/-- A quotient rounded half up lies within half a divisor of the exact one; an odd divisor's half is rounded down, which
leaves the 1 above. -/
theorem half_up_quotient_bounds (a d : Nat) (hd : 0 < d) :
    2 * ((a + d / 2) / d) * d ≤ 2 * a + d ∧ 2 * a < 2 * ((a + d / 2) / d) * d + d + 1 := by
  have lower : (a + d / 2) / d * d ≤ a + d / 2 := Nat.div_mul_le_self _ _
  have upper : a + d / 2 < (a + d / 2) / d * d + d := Nat.lt_div_mul_add hd
  rw [mul_assoc]
  omega

theorem nominalPitch_ge (i : PlanInputs) (h : 40 ≤ i.tNom) : 10240 ≤ 256 * i.tNom + i.kSub := by omega

/-- The clamp with the rounded quotient named `n`, so that its cases are linear arithmetic. -/
theorem nominalCount_eq_clamp {i : PlanInputs} {sSub n : Nat}
    (hn : (sSub + (256 * i.tNom + i.kSub) / 2) / (256 * i.tNom + i.kSub) = n) :
    i.nominalCount sSub = max 1 (min n i.nMax) := by
  rw [← hn]; rfl

/-! ### Thickness and pitch -/

theorem limit_lt_thickness_iff (limit pitch kerf : Nat) :
    256 * (limit : Int) < (pitch : Int) - (kerf : Int) ↔ 256 * limit + kerf < pitch := by omega

theorem thickness_lt_limit_iff (limit pitch kerf : Nat) :
    (pitch : Int) - (kerf : Int) < 256 * (limit : Int) ↔ pitch < 256 * limit + kerf := by omega

/-! ### The single adjustment (R52) -/

theorem adjustedCount_of_thick {i : PlanInputs} {sSub : Nat}
    (h : 256 * i.tMax + i.kSub < sSub / i.nominalCount sSub ∧ i.nominalCount sSub < i.nMax) :
    i.adjustedCount sSub = i.nominalCount sSub + 1 := if_pos h

theorem adjustedCount_of_thin {i : PlanInputs} {sSub : Nat}
    (hthick : ¬(256 * i.tMax + i.kSub < sSub / i.nominalCount sSub ∧ i.nominalCount sSub < i.nMax))
    (h : sSub / i.nominalCount sSub < 256 * i.tMin + i.kSub ∧ 1 < i.nominalCount sSub) :
    i.adjustedCount sSub = i.nominalCount sSub - 1 := (if_neg hthick).trans (if_pos h)

theorem adjustedCount_of_kept {i : PlanInputs} {sSub : Nat}
    (hthick : ¬(256 * i.tMax + i.kSub < sSub / i.nominalCount sSub ∧ i.nominalCount sSub < i.nMax))
    (hthin : ¬(sSub / i.nominalCount sSub < 256 * i.tMin + i.kSub ∧ 1 < i.nominalCount sSub)) :
    i.adjustedCount sSub = i.nominalCount sSub := (if_neg hthick).trans (if_neg hthin)

/-! ### The thickness clamp (R53) -/

theorem clampedPitch_of_thick {i : PlanInputs} {p : Nat} (h : 256 * i.tMax + i.kSub < p) :
    i.clampedPitch p = (256 * i.tMax + i.kSub, .heelLong) := if_pos h

theorem clampedPitch_of_thin {i : PlanInputs} {p : Nat} (hle : i.tMin ≤ i.tMax) (h : p < 256 * i.tMin + i.kSub) :
    i.clampedPitch p = (256 * i.tMin + i.kSub, .heelShort) :=
  have hthick : ¬256 * i.tMax + i.kSub < p := by omega
  (if_neg hthick).trans (if_pos h)

theorem clampedPitch_of_even {i : PlanInputs} {p : Nat} (hthick : ¬256 * i.tMax + i.kSub < p)
    (hthin : ¬p < 256 * i.tMin + i.kSub) : i.clampedPitch p = (p, .even) := (if_neg hthick).trans (if_neg hthin)

/-! ### The plan of a loaf with a span (R54, R55) -/

section
variable {i : PlanInputs} {n : Nat} {c : Nat × PlanOutcome} (hspan : 2 * i.heel < i.length)
  (hn : i.adjustedCount (256 * (i.length - 2 * i.heel)) = n)
  (hc : i.clampedPitch (256 * (i.length - 2 * i.heel) / n) = c)
include hspan hn hc

theorem plan_of_lastCut_on_loaf (hlast : i.lastCut n c.1 ≤ i.length) :
    i.plan = ⟨c.2, n, c.1, c.1 - i.kSub, i.length - i.lastCut n c.1, i.cutList n c.1,
      min i.rawCrumb Limits.crumbPerCutMax, i.wearTerm, i.wearClamped, decide (Limits.crumbPerCutMax < i.rawCrumb)⟩ := by
  subst hn hc
  exact (if_neg (Nat.not_le.mpr hspan)).trans (if_neg (Nat.not_lt.mpr hlast))

theorem plan_of_lastCut_beyond_loaf (hlast : i.length < i.lastCut n c.1) :
    i.plan = planWithoutCuts .noSpan i.length i.wearTerm i.wearClamped := by
  subst hn hc
  exact (if_neg (Nat.not_le.mpr hspan)).trans (if_pos hlast)

end

/-! ### The statement of section 3.2 -/

/-- Settles O32, rule by rule: R51's rounding and clamp, R52's three rows, R53's three cases, and the plan they give. -/
theorem sliceCountPitchAndClamp : Obligations.SliceCountPitchAndClamp := by
  unfold Obligations.SliceCountPitchAndClamp
  refine ⟨?nominal, ?adjusted, ?clamped, ?plan⟩
  case nominal =>
    intro i sSub htNom hnMax pn n0
    have hpn : 10240 ≤ pn := nominalPitch_ge i htNom
    have hcount : i.nominalCount sSub = max 1 (min n0 i.nMax) := nominalCount_eq_clamp rfl
    exact ⟨hpn, half_up_quotient_bounds sSub pn (by omega), fun hzero => by omega, fun habove => by omega,
      fun hpos hwithin => by omega⟩
  case adjusted =>
    intro i sSub _ n0 t0
    simp only [n0, t0, limit_lt_thickness_iff, thickness_lt_limit_iff]
    exact ⟨fun hthick hroom => adjustedCount_of_thick ⟨hthick, hroom⟩,
      fun hnotThick hthin hmany => adjustedCount_of_thin hnotThick ⟨hthin, hmany⟩, adjustedCount_of_kept⟩
  case clamped =>
    intro i pitch hle t
    simp only [t, ← not_lt, limit_lt_thickness_iff, thickness_lt_limit_iff]
    exact ⟨clampedPitch_of_thick, clampedPitch_of_thin hle, fun hnotThin hnotThick => clampedPitch_of_even hnotThick hnotThin⟩
  case plan =>
    intro i hspan sSub n c last
    constructor
    · intro hlast
      rw [plan_of_lastCut_on_loaf hspan (n := n) (c := c) rfl rfl hlast]
      exact ⟨rfl, rfl, rfl, rfl⟩
    · intro hlast
      rw [plan_of_lastCut_beyond_loaf hspan (n := n) (c := c) rfl rfl hlast]
      rfl

end Sys2Proof.Machine
end

