-- ==== Sys2Proof/Proofs/WatchMatching.lean ====
section
/-! Matching of section 5.3, rule by rule: what the gate asks (R80), the list each test contributes (R81, R82), and the
combination of that list (R83). The model computes each test as an option and the rule speaks of the tests made, so every
test is described by the list its option gives. -/

namespace Sys2Proof.Machine

/-! ### The gate (R80) -/

/-- R80's two readings of the mask: the masked difference is 0, and the two agree in every place the mask selects. -/
theorem xor_and_eq_zero_iff {w : Nat} (x v m : BitVec w) :
    (x ^^^ v) &&& m = 0 ↔ ∀ k, k < w → m.getLsbD k = true → x.getLsbD k = v.getLsbD k := by
  constructor
  · intro h k _ hm
    have hk : ((x ^^^ v) &&& m).getLsbD k = false := by rw [h]; exact BitVec.getLsbD_zero
    simpa [hm] using hk
  · intro h
    apply BitVec.eq_of_getLsbD_eq
    intro k hk
    cases hm : m.getLsbD k with
    | false => simp [hm]
    | true => simp [hm, h k hk hm]

theorem gate_iff (e : WatchEntry) (r : LoafRecord) :
    e.gate r = true ↔
      (∀ k, k < 4 → e.productMask.getLsbD k = true →
        (BitVec.ofNat 4 r.product.val).getLsbD k = e.productValue.getLsbD k) ∧
      (e.laneSelect = .either ∨ (e.laneSelect = .a ∧ r.lane = .a) ∨ (e.laneSelect = .b ∧ r.lane = .b)) := by
  rw [WatchEntry.gate, Bool.and_eq_true, decide_eq_true_iff, xor_and_eq_zero_iff]
  cases e.laneSelect <;> simp

/-! ### The tests made (R81, R82) -/

theorem tests_eq_append (e : WatchEntry) (r : LoafRecord) :
    e.tests r = (e.lengthMode.test e.lengthLow e.lengthHigh r.length).toList ++
      (e.heightMode.test e.heightLow e.heightHigh r.height).toList ++
      (e.flagTest r.flags).toList ++ (e.outcomeTest r.plan).toList := by
  have filterMap_cons_toList (o : Option Bool) (l : List (Option Bool)) :
      (o :: l).filterMap id = o.toList ++ l.filterMap id := by cases o <;> rfl
  simp only [WatchEntry.tests, filterMap_cons_toList, List.filterMap_nil, List.append_nil, List.append_assoc]

theorem flagTest_toList (e : WatchEntry) (f : LoafFlags) :
    (e.flagTest f).toList =
      if e.needCloseGap = false ∧ e.needOverlong = false then []
      else [(!e.needCloseGap || f.closeGap) && (!e.needOverlong || f.overlong)] := by
  unfold WatchEntry.flagTest
  cases e.needCloseGap <;> cases e.needOverlong <;> rfl

theorem outcomeSet_isEmpty_iff (o : OutcomeSet) :
    o.isEmpty = true ↔ o = ⟨false, false, false, false, false, false⟩ := by
  cases o
  simp [OutcomeSet.isEmpty, and_assoc]

theorem outcomeTest_toList (e : WatchEntry) (p : Option Plan) :
    (e.outcomeTest p).toList =
      if e.outcomes = ⟨false, false, false, false, false, false⟩ then []
      else [p.any fun x => e.outcomes.has x.outcome] := by
  unfold WatchEntry.outcomeTest
  simp only [outcomeSet_isEmpty_iff]
  split
  · rfl
  · cases p <;> rfl

/-! ### The combination (R83) -/

theorem combined_iff (e : WatchEntry) (r : LoafRecord) :
    e.combined r = true ↔
      (e.combine = .all ∧ ∀ b ∈ e.tests r, b = true) ∨
      (e.combine = .any ∧ (e.tests r = [] ∨ true ∈ e.tests r)) := by
  unfold WatchEntry.combined
  cases e.combine <;> simp

theorem matchesLoaf_iff (e : WatchEntry) (r : LoafRecord) :
    e.matchesLoaf r = true ↔ e.enable = true ∧ e.gate r = true ∧ e.combined r = true := by
  simp [WatchEntry.matchesLoaf, and_assoc]

/-! ### The statement of section 5.3 -/

/-- Settles O42: the statement's list of tests made is the model's, test by test; the gate and the combination are then
those of R80 and R83. -/
theorem entriesMatch : Obligations.EntriesMatch := by
  unfold Obligations.EntriesMatch
  intro e r range flags outcome made
  have range_eq (m : TestMode) (low high v : Nat) : (m.test low high v).toList = range m low high v := by
    cases m with
    | off => rfl
    | below => rfl
    | inside => exact congrArg (fun b => [b]) (Bool.decide_and _ _).symm
    | outside => exact congrArg (fun b => [b]) (Bool.decide_or _ _).symm
  have tests_eq : e.tests r = made := by
    rw [tests_eq_append, range_eq, range_eq, flagTest_toList, outcomeTest_toList]
  rw [matchesLoaf_iff, gate_iff, combined_iff, tests_eq, and_assoc]

end Sys2Proof.Machine
end

