-- ==== Sys2Proof/Proofs/IdentityAndGeometry.lean ====
section
/-! The Link Port's identity (R181) and the read of a lane's geometry (R17): a lane byte is resolved once, by a lemma per
case, and each reply is then the one its owner serves or refuses. -/

namespace Sys2Proof.Machine

/-! ### The lane a request names -/

theorem onLane_code (l : Lane) (s : State) (f : Lane → Served) : onLane (Lane.code l) s f = f l := by
  simp [onLane, laneOf_code]

theorem onLane_of_one_lt {b : Byte} (h : 1 < b.toNat) (s : State) (f : Lane → Served) :
    onLane b s f = refuse s .badValue := by
  simp [onLane, laneOf_eq_none h]

/-! ### The six settings (R15) -/

theorem geometry_bytes_eq_asList (g : Geometry) : g.bytes = (g.asList.map (beBytes 2)).flatten := by
  simp [Geometry.bytes, Geometry.asList]

/-! ### The owners' replies (R17, R181) -/

theorem doReadLaneSettings_code (l : Lane) (s : State) :
    doReadLaneSettings (Lane.code l) s =
      served s (((s.lanes.get l).geometry.asList.map (beBytes 2)).flatten) := by
  rw [doReadLaneSettings, onLane_code, geometry_bytes_eq_asList]

theorem doReadLaneSettings_of_one_lt {lane : Byte} (h : 1 < lane.toNat) (s : State) :
    doReadLaneSettings lane s = refuse s .badValue :=
  onLane_of_one_lt h s _

/-- Settles O20: with the port's first place free the arrival is the owner's reply, which leaves the state it was given. -/
theorem identityAndGeometryReplies : Obligations.IdentityAndGeometryReplies := by
  unfold Obligations.IdentityAndGeometryReplies
  refine ⟨fun tag s hfree => ⟨rfl, ?identify⟩, fun tag lane s hfree => ⟨?readLane, ?badLane⟩⟩
  case identify => exact accepts_of_served doIdentify rfl hfree rfl
  case readLane =>
    rintro l rfl
    exact accepts_of_served (doReadLaneSettings (Lane.code l)) rfl hfree (doReadLaneSettings_code l s)
  case badLane =>
    intro hlane
    exact rejects_of_refuse (doReadLaneSettings lane) rfl hfree (doReadLaneSettings_of_one_lt hlane s)

end Sys2Proof.Machine
end

section
/-! The five properties that every step keeps (O5 to O9), as one relation between a state and the state an operation makes
of it: an operation keeps them all, so a command made of such operations does. Each property reads a few fields of the
state; an operation that leaves those fields alone keeps the property. -/

namespace Sys2Proof.Machine

/-- The second state has the grant in order, the named products DEFINED and the figures in range if the first one has. -/
structure KeepsCore (s t : State) : Prop where
  air : s.AirOrdered → t.AirOrdered
  products : s.ProductsDefined → t.ProductsDefined
  figures : s.FiguresInRange → t.FiguresInRange

/-- The second state has each of the four properties that do not speak of the line. A raise makes its cause present before
it stops the line, so within it these four alone are kept. -/
structure KeepsBlocks (s t : State) : Prop extends KeepsCore s t where
  books : s.BooksKept → t.BooksKept

/-- The second state has each of the five properties that the first one has. -/
structure Keeps (s t : State) : Prop extends KeepsBlocks s t where
  rest : s.CausesRest → t.CausesRest

theorem KeepsCore.refl (s : State) : KeepsCore s s := ⟨id, id, id⟩

theorem KeepsCore.trans {s t u : State} (h : KeepsCore s t) (k : KeepsCore t u) : KeepsCore s u :=
  ⟨k.air ∘ h.air, k.products ∘ h.products, k.figures ∘ h.figures⟩

theorem KeepsCore.foldl {α : Type} {f : State → α → State} (h : ∀ s a, KeepsCore s (f s a)) :
    ∀ (l : List α) (s : State), KeepsCore s (l.foldl f s)
  | [], s => .refl s
  | a :: l, s => (h s a).trans (KeepsCore.foldl h l (f s a))

theorem KeepsBlocks.refl (s : State) : KeepsBlocks s s := ⟨.refl s, id⟩

theorem KeepsBlocks.trans {s t u : State} (h : KeepsBlocks s t) (k : KeepsBlocks t u) : KeepsBlocks s u :=
  ⟨h.toKeepsCore.trans k.toKeepsCore, k.books ∘ h.books⟩

theorem Keeps.refl (s : State) : Keeps s s := ⟨.refl s, id⟩

theorem Keeps.trans {s t u : State} (h : Keeps s t) (k : Keeps t u) : Keeps s u :=
  ⟨h.toKeepsBlocks.trans k.toKeepsBlocks, k.rest ∘ h.rest⟩

theorem Keeps.foldl {α : Type} {f : State → α → State} (h : ∀ s a, Keeps s (f s a)) :
    ∀ (l : List α) (s : State), Keeps s (l.foldl f s)
  | [], s => .refl s
  | a :: l, s => (h s a).trans (Keeps.foldl h l (f s a))

theorem Keeps.ite {s t u : State} {c : Prop} [Decidable c] (h : c → Keeps s t) (k : ¬ c → Keeps s u) :
    Keeps s (if c then t else u) := by
  split
  · exact h ‹_›
  · exact k ‹_›

/-! ### What each property reads -/

/-- What `CausesRest` reads. -/
def State.restView (s : State) : Bool × Vector Bool 4 × EventCauses × LineState :=
  (s.inputs.eStop, s.inputs.guards, s.line.causes, s.line.state)

/-- What `AirOrdered` reads. -/
def State.airView (s : State) : CrumbStep × CrumbStep × Air := (s.crumb.a.step, s.crumb.b.step, s.air)

/-- A record by its loaf number and product. -/
def LoafRecord.id (r : LoafRecord) : Nat × ProductIx := (r.number, r.product)

/-- The loaf number and product of every held record, place by place. -/
def State.places (s : State) : List (Nat × ProductIx) × List (Nat × ProductIx) × Option (Nat × ProductIx) × Option (Nat × ProductIx) :=
  (s.lanes.a.queue.map LoafRecord.id, s.lanes.b.queue.map LoafRecord.id, s.heads.one.record.map LoafRecord.id,
    s.heads.two.record.map LoafRecord.id)

/-- The held records by loaf number and product. -/
def State.ids (s : State) : List (Nat × ProductIx) := s.held.map LoafRecord.id

theorem ids_eq_places (s : State) : s.ids = s.places.1 ++ s.places.2.1 ++ s.places.2.2.1.toList ++ s.places.2.2.2.toList := by
  simp [State.ids, State.held, State.places, Option.toList_map]

theorem ids_of_places {s t : State} (h : t.places = s.places) : t.ids = s.ids := by
  rw [ids_eq_places, ids_eq_places, h]

/-- What `ProductsDefined` reads beside the product entries and the held records. -/
def State.namedView (s : State) : PerLane Assignment × Option ProductIx × Option ProductIx :=
  (s.assign, s.lanes.a.window.product, s.lanes.b.window.product)

/-- What `BooksKept` reads beside the held records. -/
def State.booksView (s : State) : List Head × Vector ProductTotals 16 × Option Snapshot :=
  (s.router.idleOrder, s.totals.products, s.totals.snapshot)

/-- The figures of the lanes, heads and stations that `FiguresInRange` reads. -/
def State.stationFigures (s : State) : PerLane Geometry × PerLane (Nat × Nat) × PerHead Nat :=
  (⟨s.lanes.a.geometry, s.lanes.b.geometry⟩, ⟨(s.slicers.a.strokes, s.slicers.a.wearRate), (s.slicers.b.strokes, s.slicers.b.wearRate)⟩,
    ⟨s.heads.one.misses, s.heads.two.misses⟩)

/-- The figures of the notice queue, the planner, the loaf counter, the shift, the watch, the controllers and the tiers that
`FiguresInRange` reads. -/
def State.blockFigures (s : State) : Nat × Nat × Nat × Nat × Watch × PerLane Crumb × PerHead Tier :=
  (s.notices.queue.length, s.planner.queue.length, s.lastLoaf, s.totals.shift, s.watch, s.crumb, s.tiers)

/-! ### The properties in terms of what they read -/

theorem forall_lane {P : Lane → Prop} : (∀ l, P l) ↔ P .a ∧ P .b :=
  ⟨fun h => ⟨h .a, h .b⟩, fun h l => by cases l; exacts [h.1, h.2]⟩

theorem forall_head {P : Head → Prop} : (∀ h, P h) ↔ P .one ∧ P .two :=
  ⟨fun h => ⟨h .one, h .two⟩, fun h l => by cases l; exacts [h.1, h.2]⟩

theorem causesRest_of_view {s t : State} (h : t.restView = s.restView) : s.CausesRest → t.CausesRest := by
  simp only [State.restView, Prod.mk.injEq] at h
  obtain ⟨hstop, hguards, hcauses, hstate⟩ := h
  simp only [State.CausesRest, State.immediateCausePresent, State.eStopPresent, State.guardOpenPresent, State.moving, hstop, hguards,
    hcauses, hstate, imp_self]

theorem airOrdered_of_view {s t : State} (h : t.airView = s.airView) : s.AirOrdered → t.AirOrdered := by
  simp only [State.airView, Prod.mk.injEq] at h
  obtain ⟨ha, hb, hair⟩ := h
  have hstep : ∀ l, (t.crumb.get l).step = (s.crumb.get l).step := forall_lane.mpr ⟨ha, hb⟩
  simp only [State.AirOrdered, hstep, hair, imp_self]

/-- The held records' products in terms of their ids. -/
theorem forall_held_product {s : State} {P : ProductIx → Prop} : (∀ r ∈ s.held, P r.product) ↔ ∀ x ∈ s.ids, P x.2 := by
  simp [State.ids, LoafRecord.id]

theorem productsDefined_of_view {s t : State} (hp : ∀ p : ProductIx, s.products[p].isSome = true → t.products[p].isSome = true)
    (hn : t.namedView = s.namedView) (hi : t.ids ⊆ s.ids) : s.ProductsDefined → t.ProductsDefined := by
  simp only [State.namedView, Prod.mk.injEq] at hn
  obtain ⟨hassign, ha, hb⟩ := hn
  have hwin : ∀ l, (t.lanes.get l).window.product = (s.lanes.get l).window.product := forall_lane.mpr ⟨ha, hb⟩
  rintro ⟨hact, hpend, hspan, hheld⟩
  rw [forall_held_product (P := fun p => s.products[p].isSome = true)] at hheld
  refine ⟨fun l p h => hp p (hact l p (hassign ▸ h)), fun l p h => hp p (hpend l p (hassign ▸ h)),
    fun l p h => hp p (hspan l p (hwin l ▸ h)), ?_⟩
  rw [forall_held_product (P := fun p => t.products[p].isSome = true)]
  exact fun x hx => hp x.2 (hheld x (hi hx))

/-! ### The books -/

/-- R165: the loaves a product's figures have taken in. -/
def ProductTotals.ins (t : ProductTotals) : Nat := t.admitted + t.carriedIn

/-- R165: the loaves a product's figures have given out. -/
def ProductTotals.outs (t : ProductTotals) : Nat :=
  t.bagged + (t.rejWatch + t.rejNoPlan + t.rejLatePlan + t.rejNoSpan + t.rejMiscut + t.rejUntied) + t.cleared

/-- The loaf numbers of a list of ids. -/
abbrev numbersOf (ids : List (Nat × ProductIx)) : List Nat := ids.map Prod.fst

/-- The loaves of a product among a list of ids. -/
def countOf (p : ProductIx) (ids : List (Nat × ProductIx)) : Nat := ids.countP (fun x => decide (x.2 = p))

theorem held_numbers (s : State) : s.held.map LoafRecord.number = numbersOf s.ids := by
  simp [numbersOf, State.ids, LoafRecord.id, Function.comp_def]

theorem inFlight_eq_countOf (p : ProductIx) (s : State) : s.inFlight p = countOf p s.ids := by
  simp [State.inFlight, countOf, State.ids, List.countP_map, Function.comp_def, LoafRecord.id]; rfl

theorem balanced_iff (p : ProductIx) (s : State) :
    s.Balanced p ↔ s.totals.products[p].ins = s.totals.products[p].outs + s.inFlight p := Iff.rfl

/-- Every balance but the in-flight figure itself: R167's closed shift. -/
def Totals.snapshotKept (t : Totals) : Prop := ∀ x, t.snapshot = some x → ∀ p, x.Balanced p

theorem booksKept_iff (s : State) : s.BooksKept ↔
    (numbersOf s.ids).Nodup ∧ (∀ l, (s.lanes.get l).queue.length ≤ 24) ∧ s.router.idleOrder.Nodup ∧
    (∀ h, h ∈ s.router.idleOrder → (s.heads.get h).record = none) ∧ (∀ p, s.Balanced p) ∧ s.totals.snapshotKept := by
  rw [State.BooksKept, held_numbers]; rfl

theorem queue_length_of_places {s t : State} (h : t.places = s.places) (l : Lane) :
    (t.lanes.get l).queue.length = (s.lanes.get l).queue.length := by
  simp only [State.places, Prod.mk.injEq] at h
  obtain ⟨ha, hb, -, -⟩ := h
  cases l
  · simpa [PerLane.get] using congrArg List.length ha
  · simpa [PerLane.get] using congrArg List.length hb

theorem head_empty_of_places {s t : State} (h : t.places = s.places) (k : Head) :
    (t.heads.get k).record = none ↔ (s.heads.get k).record = none := by
  simp only [State.places, Prod.mk.injEq] at h
  obtain ⟨-, -, h1, h2⟩ := h
  have hkey : ∀ {x y : Option LoafRecord}, x.map LoafRecord.id = y.map LoafRecord.id → (x = none ↔ y = none) := by
    intro x y hxy
    cases x <;> cases y <;> simp_all
  cases k
  · exact hkey h1
  · exact hkey h2

theorem booksKept_of_view {s t : State} (h : t.places = s.places) (hb : t.booksView = s.booksView) : s.BooksKept → t.BooksKept := by
  simp only [State.booksView, Prod.mk.injEq] at hb
  obtain ⟨hidle, hprod, hsnap⟩ := hb
  have hids := ids_of_places h
  simp only [booksKept_iff, balanced_iff, inFlight_eq_countOf, Totals.snapshotKept, hids, hidle, hprod, hsnap, queue_length_of_places h,
    head_empty_of_places h, imp_self]

/-! ### The figures -/

theorem figuresInRange_of_view {s t : State} (hs : t.stationFigures = s.stationFigures) (hb : t.blockFigures = s.blockFigures) :
    s.FiguresInRange → t.FiguresInRange := by
  simp only [State.stationFigures, State.blockFigures, Prod.mk.injEq, PerLane.mk.injEq, PerHead.mk.injEq] at hs hb
  obtain ⟨⟨hga, hgb⟩, ⟨⟨hsa, hwa⟩, hsb, hwb⟩, hm1, hm2⟩ := hs
  obtain ⟨hn, hp, hl, hsh, hw, hc, ht⟩ := hb
  simp only [State.FiguresInRange, forall_lane, forall_head, PerLane.get, PerHead.get, Slicer.InRange, hga, hgb, hsa, hwa, hsb, hwb,
    hm1, hm2, hn, hp, hl, hsh, hw, hc, ht, imp_self]

/-- `FiguresInRange` with a name for each of its ranges. -/
structure FiguresKept (s : State) : Prop where
  notices : s.notices.queue.length ≤ 32
  capture : s.watch.capture.length ≤ 16
  planner : s.planner.queue.length ≤ 4
  lastLoaf : s.lastLoaf ≤ 65535
  shiftPos : 1 ≤ s.totals.shift
  shiftMax : s.totals.shift ≤ 65535
  geometry : ∀ l, (s.lanes.get l).geometry.InRange
  slicers : ∀ l, (s.slicers.get l).InRange
  crumb : ∀ l, (s.crumb.get l).InRange
  tiers : ∀ h, (s.tiers.get h).InRange
  misses : ∀ h, (s.heads.get h).misses ≤ 2
  chains : ∀ p : Fin 2, s.watch.pairChained p = false → s.watch.chains[p] = none

theorem figuresKept_iff (s : State) : FiguresKept s ↔ s.FiguresInRange :=
  ⟨fun ⟨h1, h2, h3, h4, h5, h6, h7, h8, h9, h10, h11, h12⟩ => ⟨h1, h2, h3, h4, h5, h6, h7, h8, h9, h10, h11, h12⟩,
    fun ⟨h1, h2, h3, h4, h5, h6, h7, h8, h9, h10, h11, h12⟩ => ⟨h1, h2, h3, h4, h5, h6, h7, h8, h9, h10, h11, h12⟩⟩

theorem figures_imp {s t : State} (h : FiguresKept s → FiguresKept t) : s.FiguresInRange → t.FiguresInRange :=
  fun hs => (figuresKept_iff t).mp (h ((figuresKept_iff s).mpr hs))

theorem productsDefined_of_same {s t : State} (hp : t.products = s.products := by rfl) (hn : t.namedView = s.namedView := by rfl)
    (hi : t.places = s.places := by rfl) : s.ProductsDefined → t.ProductsDefined :=
  productsDefined_of_view (fun p => by rw [hp]; exact id) hn fun x hx => by rwa [ids_of_places hi] at hx

/-- An operation that leaves alone what the properties read, but for the line. -/
theorem KeepsBlocks.of_views {s t : State} (ha : t.airView = s.airView := by rfl)
    (hn : t.namedView = s.namedView := by rfl) (hp : t.products = s.products := by rfl) (hi : t.places = s.places := by rfl)
    (hb : t.booksView = s.booksView := by rfl) (hs : t.stationFigures = s.stationFigures := by rfl)
    (hf : t.blockFigures = s.blockFigures := by rfl) : KeepsBlocks s t :=
  ⟨⟨airOrdered_of_view ha, productsDefined_of_same hp hn hi, figuresInRange_of_view hs hf⟩, booksKept_of_view hi hb⟩

/-- An operation that leaves alone what the properties read. -/
theorem Keeps.of_views {s t : State} (hr : t.restView = s.restView := by rfl) (ha : t.airView = s.airView := by rfl)
    (hn : t.namedView = s.namedView := by rfl) (hp : t.products = s.products := by rfl) (hi : t.places = s.places := by rfl)
    (hb : t.booksView = s.booksView := by rfl) (hs : t.stationFigures = s.stationFigures := by rfl)
    (hf : t.blockFigures = s.blockFigures := by rfl) : Keeps s t :=
  ⟨.of_views ha hn hp hi hb hs hf, causesRest_of_view hr⟩

/-- An operation that leaves alone what the properties read but some figures, which it keeps in range. -/
theorem Keeps.of_figures {s t : State} (hf : FiguresKept s → FiguresKept t) (hr : t.restView = s.restView := by rfl)
    (ha : t.airView = s.airView := by rfl) (hn : t.namedView = s.namedView := by rfl) (hp : t.products = s.products := by rfl)
    (hi : t.places = s.places := by rfl) (hb : t.booksView = s.booksView := by rfl) : Keeps s t :=
  ⟨⟨⟨airOrdered_of_view ha, productsDefined_of_same hp hn hi, figures_imp hf⟩, booksKept_of_view hi hb⟩, causesRest_of_view hr⟩

end Sys2Proof.Machine
end

section
/-! The operations on one field of the state, and what each has to show to keep the five properties. -/

namespace Sys2Proof.Machine

section
variable (l : Lane) (h : Head) (s : State)

theorem PerLane.forall_set {α : Type} {p : PerLane α} {l : Lane} {x : α} {P : α → Prop} (hp : ∀ k, P (p.get k)) (hx : P x) :
    ∀ k, P ((p.set l x).get k) := by
  intro k
  by_cases hk : k = l
  · rw [hk, PerLane.get_set]; exact hx
  · rw [PerLane.get_set_ne p x hk]; exact hp k

theorem PerHead.forall_set {α : Type} {p : PerHead α} {h : Head} {x : α} {P : α → Prop} (hp : ∀ k, P (p.get k)) (hx : P x) :
    ∀ k, P ((p.set h x).get k) := by
  intro k
  by_cases hk : k = h
  · rw [hk, PerHead.get_set]; exact hx
  · rw [PerHead.get_set_ne p x hk]; exact hp k

theorem place_length (n : Notice) (q : Notices) (hq : q.queue.length ≤ 32) : (q.place n).queue.length ≤ 32 := by
  obtain ⟨-, h⟩ | ⟨-, hl, h⟩ | ⟨-, -, h⟩ := place_cases n q
  · rwa [h]
  · rw [h]; simp; omega
  · rwa [h]

/-- A notice queue of another length, within its 32 places, changes none of the other properties. -/
theorem keeps_notices {q : Notices} (hq : s.notices.queue.length ≤ 32 → q.queue.length ≤ 32) : Keeps s { s with notices := q } :=
  .of_figures fun k => { k with notices := hq k.notices }

theorem keeps_notify (n : Notice) : Keeps s (s.notify n) := keeps_notices s (place_length n s.notices)

theorem keeps_planner {p : Planner} (hp : s.planner.queue.length ≤ 4 → p.queue.length ≤ 4) : Keeps s { s with planner := p } :=
  .of_figures fun k => { k with planner := hp k.planner }

theorem keeps_watch {w : Watch} (hc : s.watch.capture.length ≤ 16 → w.capture.length ≤ 16)
    (hp : (∀ p : Fin 2, s.watch.pairChained p = false → s.watch.chains[p] = none) →
      ∀ p : Fin 2, w.pairChained p = false → w.chains[p] = none) : Keeps s { s with watch := w } :=
  .of_figures fun k => { k with capture := hc k.capture, chains := hp k.chains }

theorem keeps_modSlicer {f : Slicer → Slicer} (hf : (s.slicers.get l).InRange → (f (s.slicers.get l)).InRange) :
    Keeps s (s.modSlicer l f) :=
  .of_figures fun k => { k with slicers := PerLane.forall_set k.slicers (hf (k.slicers l)) }

theorem keeps_modTier {f : Tier → Tier} (hf : (s.tiers.get h).InRange → (f (s.tiers.get h)).InRange) : Keeps s (s.modTier h f) :=
  .of_figures fun k => { k with tiers := PerHead.forall_set k.tiers (hf (k.tiers h)) }

theorem airView_modCrumb {f : Crumb → Crumb} (hstep : (f (s.crumb.get l)).step = (s.crumb.get l).step) :
    (s.modCrumb l f).airView = s.airView := by
  cases l <;> simpa [State.airView, PerLane.set, PerLane.get] using hstep

theorem keeps_modCrumb {f : Crumb → Crumb} (hstep : (f (s.crumb.get l)).step = (s.crumb.get l).step)
    (hf : (s.crumb.get l).InRange → (f (s.crumb.get l)).InRange) : Keeps s (s.modCrumb l f) :=
  .of_figures (fun k => { k with crumb := PerLane.forall_set k.crumb (hf (k.crumb l)) }) (ha := airView_modCrumb l s hstep)

theorem modLane_places {f : LaneState → LaneState} (hq : (f (s.lanes.get l)).queue = (s.lanes.get l).queue := by rfl) :
    (s.modLane l f).places = s.places := by
  cases l <;> simp_all [State.places, PerLane.set, PerLane.get]

/-- Writing of a lane what the properties do not read. -/
theorem keeps_modLane {f : LaneState → LaneState} (hq : ∀ q, (f q).queue = q.queue := by intro q; rfl)
    (hg : ∀ q, (f q).geometry = q.geometry := by intro q; rfl) (hw : ∀ q, (f q).window = q.window := by intro q; rfl) :
    Keeps s (s.modLane l f) := by
  cases l <;>
    exact .of_views (hn := by simp [State.namedView, PerLane.set, PerLane.get, hw])
      (hi := modLane_places _ s (hq _)) (hs := by simp [State.stationFigures, PerLane.set, PerLane.get, hg])

/-- Writing of a head what the properties do not read but its miss count. -/
theorem keeps_modHead {f : HeadState → HeadState} (hr : (f (s.heads.get h)).record = (s.heads.get h).record)
    (hm : (s.heads.get h).misses ≤ 2 → (f (s.heads.get h)).misses ≤ 2) : Keeps s (s.modHead h f) := by
  refine .of_figures (fun k => { k with misses := PerHead.forall_set (P := fun x : HeadState => x.misses ≤ 2) k.misses (hm (k.misses h)) }) (hi := ?_)
  cases h <;> simp_all [State.places, State.modHead, PerHead.set, PerHead.get]

/-- A record's fields but its loaf number and its product. -/
theorem updateRecord_places {n : Nat} {f : LoafRecord → LoafRecord} (hf : ∀ r, (f r).id = r.id) :
    (s.updateRecord n f).places = s.places := by
  have hid : ∀ r, (onNumber n f r).id = r.id := fun r => by unfold onNumber; split <;> simp [hf]
  simp [State.places, State.updateRecord, Option.map_map, Function.comp_def, hid]

theorem keeps_updateRecord {n : Nat} {f : LoafRecord → LoafRecord} (hf : ∀ r, (f r).id = r.id) : Keeps s (s.updateRecord n f) :=
  .of_views (hi := updateRecord_places s hf)

end

end Sys2Proof.Machine
end

section
/-! Crumb clearing and the line: the operations of the Crumb Controllers and the Air Arbiter keep the grant in order (R140),
and a raise leaves no immediate cause on a moving line (R149). -/

namespace Sys2Proof.Machine

/-! ### The grant, said of one lane and the other -/

theorem lane_eq_or (k l : Lane) : k = l ∨ k = otherLane l := by cases k <;> cases l <;> simp [otherLane]

@[simp] theorem goTo_step (x : CrumbStep) (c : Crumb) : (c.goTo x).step = x := by
  unfold Crumb.goTo; split
  · assumption
  · rfl

theorem goTo_inRange (x : CrumbStep) {c : Crumb} (h : c.InRange) : (c.goTo x).InRange := by
  unfold Crumb.goTo; split <;> exact h

@[simp] theorem rest_inCycle (c : Crumb) : c.rest.inCycle = false := by
  unfold Crumb.rest; split <;> rfl

/-- `AirOrdered` said of a lane and the other lane. -/
theorem airOrdered_iff (l : Lane) (s : State) : s.AirOrdered ↔
    (s.air.waiting = some l → s.air.holder = some (otherLane l) ∧ (s.crumb.get l).step = .gapWait) ∧
    (s.air.waiting = some (otherLane l) → s.air.holder = some l ∧ (s.crumb.get (otherLane l)).step = .gapWait) ∧
    (s.air.holder = some l → (s.crumb.get l).step.inCycle = true) ∧
    (s.air.holder = some (otherLane l) → (s.crumb.get (otherLane l)).step.inCycle = true) ∧
    ((s.crumb.get l).step = .purging ∨ (s.crumb.get l).step = .settling → s.air.holder = some l) ∧
    ((s.crumb.get (otherLane l)).step = .purging ∨ (s.crumb.get (otherLane l)).step = .settling → s.air.holder = some (otherLane l)) ∧
    ((s.crumb.get l).step = .gapWait → s.air.holder = some l ∨ s.air.waiting = some l) ∧
    ((s.crumb.get (otherLane l)).step = .gapWait → s.air.holder = some (otherLane l) ∨ s.air.waiting = some (otherLane l)) := by
  unfold State.AirOrdered
  cases l <;> simp only [forall_lane, otherLane] <;> tauto

section
variable {l : Lane} {s t : State} (ho : (t.crumb.get (otherLane l)).step = (s.crumb.get (otherLane l)).step)
include ho

/-- A lane that enters GAP_WAIT with its request to the arbiter (R135). -/
theorem airOrdered_of_request (hair : t.air = s.air.request l) (hl : (t.crumb.get l).step = .gapWait) :
    s.AirOrdered → t.AirOrdered := by
  rw [airOrdered_iff l, airOrdered_iff l, hair, hl, ho]
  have hlane := lane_eq_or
  have hne := otherLane_ne l
  unfold Air.request
  cases hh : s.air.holder with
  | none => grind [CrumbStep.inCycle]
  | some k => obtain rfl | rfl := lane_eq_or k l <;> grind [CrumbStep.inCycle]

/-- A lane that leaves its purge with its release to the arbiter (R137, R139, R141, R144). -/
theorem airOrdered_of_release (hair : t.air = s.air.release l) (hl : (t.crumb.get l).step.inCycle = false) :
    s.AirOrdered → t.AirOrdered := by
  rw [airOrdered_iff l, airOrdered_iff l, hair, ho]
  have hlane := lane_eq_or
  have hne := otherLane_ne l
  unfold Air.release
  grind [CrumbStep.inCycle]

/-- The grant holder that goes on to PURGING or SETTLING (R136, R138). -/
theorem airOrdered_of_hold (hair : t.air = s.air) (hl : (t.crumb.get l).step = .purging ∨ (t.crumb.get l).step = .settling)
    (hheld : s.AirOrdered → s.air.holder = some l) : s.AirOrdered → t.AirOrdered := by
  intro h
  have hheld := hheld h
  revert h
  rw [airOrdered_iff l, airOrdered_iff l, hair, ho]
  have hne := otherLane_ne l
  grind [CrumbStep.inCycle]

/-- A lane out of its purge cycle that stays out of it (R133). -/
theorem airOrdered_of_rest (hair : t.air = s.air) (hs : (s.crumb.get l).step.inCycle = false)
    (hl : (t.crumb.get l).step.inCycle = false) : s.AirOrdered → t.AirOrdered := by
  rw [airOrdered_iff l, airOrdered_iff l, hair, ho]
  have hne := otherLane_ne l
  grind [CrumbStep.inCycle]

end

/-! ### Crumb clearing -/

section
variable (l : Lane) (s : State)

/-- A controller's new state with the arbiter's: the grant has to stay in order, the figures in range. -/
theorem keeps_crumb_air {f : Crumb → Crumb} {a : Air}
    (hair : s.AirOrdered → { s.modCrumb l f with air := a }.AirOrdered)
    (hf : (s.crumb.get l).InRange → (f (s.crumb.get l)).InRange) : Keeps s { s.modCrumb l f with air := a } :=
  ⟨⟨⟨hair, productsDefined_of_same, figures_imp fun k => { k with crumb := PerLane.forall_set k.crumb (hf (k.crumb l)) }⟩,
    booksKept_of_view rfl rfl⟩, causesRest_of_view rfl⟩

theorem step_other (p : PerLane Crumb) (c : Crumb) : ((p.set l c).get (otherLane l)).step = (p.get (otherLane l)).step :=
  congrArg Crumb.step (PerLane.get_set_ne _ _ (otherLane_ne l))

theorem keeps_enterGapWait : Keeps s (s.enterGapWait l) :=
  keeps_crumb_air l s (airOrdered_of_request (step_other l _ _) rfl (by simp)) fun h => goTo_inRange _ h

theorem keeps_resetCrumb : Keeps s (s.resetCrumb l) :=
  keeps_crumb_air l s (airOrdered_of_release (step_other l _ _) rfl (by simp)) fun h => goTo_inRange _ h

theorem keeps_withdrawPurge : Keeps s (s.withdrawPurge l) :=
  keeps_crumb_air l s (airOrdered_of_release (step_other l _ _) rfl (by simp [CrumbStep.inCycle])) fun h =>
    goTo_inRange _ h

theorem keeps_startTest : Keeps s (s.startTest l) := by
  obtain h | ⟨h, -⟩ := startTest_cases l s
  · rw [h]; exact .refl s
  · rw [h]; exact keeps_enterGapWait l s

theorem keeps_settlePurge (how : PurgeEnd) (hstep : (s.crumb.get l).step = .purging) : Keeps s (s.settlePurge l how) :=
  keeps_crumb_air l s (a := s.air) (f := fun c => { c.goTo .settling with phase := some c.settleTime, ended := how })
    (airOrdered_of_hold (step_other l _ _) rfl (by simp) fun h => h.2.2.1 l (.inl hstep)) fun h => goTo_inRange _ h

theorem keeps_beginPurge : Keeps s (s.beginPurge l) := by
  obtain h | ⟨h, -, hheld, -⟩ := beginPurge_cases l s
  · rw [h]; exact .refl s
  · rw [h]
    exact keeps_crumb_air l s (a := s.air) (f := fun c => { c.goTo .purging with phase := some c.purgeTime })
      (airOrdered_of_hold (step_other l _ _) rfl (by simp) fun _ => hheld) fun h => goTo_inRange _ h

theorem keeps_abortPurge (byClear : Bool) : Keeps s (s.abortPurge byClear l) := by
  obtain ⟨-, h⟩ | ⟨-, h⟩ := abortPurge_cases byClear l s
  · rw [h]; exact .refl s
  · rw [h]; exact (keeps_resetCrumb l s).trans (keeps_notify _ _)

end

/-! ### The line -/

section
variable (s : State)

theorem keepsBlocks_line (x : Line) : KeepsBlocks s { s with line := x } := .of_views

theorem causesRest_of_less {s t : State} (hm : t.moving = true → s.moving = true)
    (hi : t.immediateCausePresent = true → s.immediateCausePresent = true) : s.CausesRest → t.CausesRest := by
  intro h ht
  by_contra hmt
  simp [h (hi ht)] at hm
  simp_all

theorem keeps_line {x : Line} (hm : { s with line := x }.moving = true → s.moving = true)
    (hi : { s with line := x }.immediateCausePresent = true → s.immediateCausePresent = true) : Keeps s { s with line := x } :=
  ⟨keepsBlocks_line s x, causesRest_of_less hm hi⟩

theorem moving_setLine (st : LineState) : (s.setLine st).moving = (decide (st = .running) || decide (st = .draining)) := by
  cases st <;> rfl

theorem immediate_setLine (st : LineState) : (s.setLine st).immediateCausePresent = s.immediateCausePresent := rfl

theorem keepsBlocks_setLine (st : LineState) : KeepsBlocks s (s.setLine st) :=
  (keepsBlocks_line s _).trans (keeps_notify _ _).toKeepsBlocks

theorem keeps_setLine {st : LineState} (h : s.CausesRest → s.immediateCausePresent = true → (s.setLine st).moving = false) :
    Keeps s (s.setLine st) :=
  ⟨keepsBlocks_setLine s st, h⟩

theorem keeps_drainTest : Keeps s s.drainTest := by
  unfold State.drainTest
  split
  · refine ⟨(keepsBlocks_setLine s .stopped).trans (keepsBlocks_line _ _), fun _ _ => rfl⟩
  · exact .refl s

theorem keeps_enterDraining (h : s.moving = true) : Keeps s s.enterDraining :=
  (keeps_setLine s fun hr hi => absurd (hr hi) (by simp [h])).trans (keeps_drainTest _)

end

/-! ### Stations -/

section
variable (l : Lane) (s : State)

theorem keeps_modSlicer_same {f : Slicer → Slicer} (hs : ∀ x, (f x).strokes = x.strokes := by intro x; rfl)
    (hw : ∀ x, (f x).wearRate = x.wearRate := by intro x; rfl) : Keeps s (s.modSlicer l f) :=
  keeps_modSlicer l s fun h => by unfold Slicer.InRange at *; rwa [hs, hw]

theorem reject_id (reason : Reason) (r : LoafRecord) : (r.reject reason).id = r.id := rfl
theorem becomeSliced_id (r : LoafRecord) : r.becomeSliced.id = r.id := by unfold LoafRecord.becomeSliced; split <;> rfl
theorem becomeSlicing_id (r : LoafRecord) : r.becomeSlicing.id = r.id := by unfold LoafRecord.becomeSlicing; split <;> rfl
theorem planned_id (p : Plan) (reason : Option Reason) (r : LoafRecord) : (r.planned p reason).id = r.id := by
  unfold LoafRecord.planned; cases reason <;> rfl

theorem keeps_trySliced (n : Nat) : Keeps s (s.trySliced l n) := by
  obtain h | ⟨-, h⟩ := trySliced_cases l n s
  · rw [h]; exact .refl s
  · rw [h]; exact keeps_updateRecord s becomeSliced_id

theorem keeps_abandonLoaf (n : Nat) : Keeps s (s.abandonLoaf l n) :=
  ((keeps_modSlicer_same l s (f := Slicer.unschedule n)).trans (keeps_updateRecord _ (f := LoafRecord.miscut) fun _ => rfl)).trans
    (keeps_trySliced l _ n)

theorem keeps_startStroke (c : Cut) : Keeps s (s.startStroke l c) :=
  (keeps_modSlicer_same l s).trans (keeps_updateRecord _ becomeSlicing_id)

theorem keeps_freeBlade : Keeps s (s.freeBlade l) := by
  obtain ⟨-, h⟩ | ⟨c, -, h⟩ := freeBlade_cases l s
  · rw [h]; exact keeps_modSlicer_same l s
  · rw [h]; exact (keeps_modSlicer_same l s).trans (keeps_startStroke l _ c)

theorem keeps_startHoming : Keeps s (s.startHoming l) := by
  unfold State.startHoming
  split
  · exact .ite (fun _ => keeps_freeBlade l s) fun _ => keeps_modSlicer_same l s
  · exact .refl s
  · exact .refl s

theorem keeps_abandonStroke : Keeps s (s.abandonStroke l) :=
  (keeps_modSlicer_same l s).trans (.foldl (fun t n => keeps_abandonLoaf l t n) _ _)

end

/-! ### The raise of a stop cause -/

section
variable (s : State)

theorem halted_record (x : HeadState) : x.halted.record = x.record := by unfold HeadState.halted; split <;> rfl
theorem halted_misses (x : HeadState) : x.halted.misses = x.misses := by unfold HeadState.halted; split <;> rfl

/-- R109, R127: the heads and tiers take the halt. -/
theorem keeps_halted : Keeps s { s with heads := ⟨s.heads.one.halted, s.heads.two.halted⟩, tiers := ⟨s.tiers.one.halted, s.tiers.two.halted⟩ } :=
  .of_figures (fun k => { k with
      tiers := forall_head.mpr ⟨k.tiers .one, k.tiers .two⟩
      misses := forall_head.mpr ⟨(halted_misses _).symm ▸ k.misses .one, (halted_misses _).symm ▸ k.misses .two⟩ })
    (hi := by simp [State.places, halted_record])

theorem moving_enterHalted : s.enterHalted.moving = false := by
  have : ∀ t : State, ((t.abandonStroke .a).abandonStroke .b).line = t.line := by simp
  simp only [State.enterHalted, State.moving, this]; rfl

theorem keeps_enterHalted : Keeps s s.enterHalted :=
  ⟨(((((keepsBlocks_setLine s .halted).trans (keepsBlocks_line _ _)).trans (keeps_abandonStroke .a _).toKeepsBlocks).trans
    (keeps_abandonStroke .b _).toKeepsBlocks).trans (keeps_halted _).toKeepsBlocks), fun _ _ => moving_enterHalted s⟩

theorem keeps_stopLine (c : Cause) : Keeps s (s.stopLine c) := by
  obtain ⟨-, -, h⟩ | ⟨-, hrun, h⟩ | h := stopLine_cases c s
  · rw [h]; exact keeps_enterHalted s
  · rw [h]; exact keeps_enterDraining s (by simp [State.moving, hrun])
  · rw [h]; exact .refl s

/-- The state in which a raise changes the line (R149 steps 1 to 3). -/
def State.raised (c : Cause) (s : State) : State :=
  { s.makePresent c with line := { (s.makePresent c).line with latched := latchOf c (s.makePresent c).line.latched } }.notify
    (.stopCause c (s.makePresent c).line.state)

theorem raise_eq (c : Cause) : s.raise c =
    if c.immediate then (((s.raised c).stopLine c).abortPurge false .a).abortPurge false .b else (s.raised c).stopLine c := rfl

theorem makePresent_state (c : Cause) : (s.makePresent c).line.state = s.line.state := by
  unfold State.makePresent; split <;> rfl

theorem moving_raised (c : Cause) : (s.raised c).moving = s.moving := by
  simp [State.raised, State.moving, State.notify, makePresent_state]

/-- R149: a pending cause adds no immediate one. -/
theorem immediate_add {c : Cause} (hc : c.immediate = false) (e : EventCauses) :
    (e.add c).repeatFault = e.repeatFault ∧ (e.add c).slicerJam = e.slicerJam ∧ (e.add c).headJam = e.headJam ∧
      (e.add c).bagEmpty = e.bagEmpty ∧ (e.add c).commandHalt = e.commandHalt := by
  cases c <;> simp_all [EventCauses.add, Cause.immediate]

theorem immediate_raised {c : Cause} (hc : c.immediate = false) : (s.raised c).immediateCausePresent = s.immediateCausePresent := by
  obtain ⟨h1, h2, h3, h4, h5⟩ := immediate_add hc s.line.causes
  simp only [State.raised, State.immediateCausePresent, State.notify, State.makePresent]
  split <;> simp_all [State.eStopPresent, State.guardOpenPresent]

theorem keepsBlocks_raised (c : Cause) : KeepsBlocks s (s.raised c) := by
  have hpresent : KeepsBlocks s (s.makePresent c) := by
    unfold State.makePresent; split
    · exact .refl s
    · exact keepsBlocks_line s _
  exact (hpresent.trans (keepsBlocks_line _ _)).trans (keeps_notify _ _).toKeepsBlocks

theorem keepsBlocks_raise (c : Cause) : KeepsBlocks s (s.raise c) := by
  have hstop := (keepsBlocks_raised s c).trans (keeps_stopLine _ c).toKeepsBlocks
  rw [raise_eq]
  split
  · exact (hstop.trans (keeps_abortPurge .a _ false).toKeepsBlocks).trans (keeps_abortPurge .b _ false).toKeepsBlocks
  · exact hstop

/-- R149: after the raise of an immediate cause the line is at rest. -/
theorem moving_raise_of_immediate {c : Cause} (hc : c.immediate = true) : (s.raise c).moving = false := by
  have habort : ∀ t : State, ((t.abortPurge false .a).abortPurge false .b).moving = t.moving := fun t => by simp [State.moving]
  rw [raise_eq, if_pos hc, habort]
  unfold State.stopLine
  rw [if_pos hc]
  split
  · exact moving_enterHalted _
  · rename_i hrest; simpa using hrest

theorem keeps_raise (c : Cause) : Keeps s (s.raise c) := by
  refine ⟨keepsBlocks_raise s c, fun hr => ?_⟩
  cases hc : c.immediate with
  | true => exact fun _ => moving_raise_of_immediate s hc
  | false =>
    rw [raise_eq, hc]
    refine (keeps_stopLine _ c).rest ?_
    exact causesRest_of_less (by simp [moving_raised]) (by simp [immediate_raised s hc]) hr

theorem keeps_raiseJam (c : Cause) : Keeps s (s.raiseJam c) :=
  .ite (fun _ => (keeps_raise s c).trans (keeps_raise _ _)) fun _ => keeps_raise s c

end

/-! ### The end of an event -/

section
variable (before : State) (asked : Option Lane) (s : State)

theorem keeps_testAtEnd (after : State) (l : Lane) : Keeps s (State.testAtEnd before asked after l s) :=
  .ite (fun _ => keeps_startTest l s) fun _ => .refl s

theorem keeps_purgeTests : Keeps s (State.purgeTests before asked s) :=
  (((keeps_testAtEnd _ _ s s .a).trans (keeps_testAtEnd _ _ _ s .b)).trans (keeps_beginPurge .a _)).trans (keeps_beginPurge .b _)

theorem keeps_settleHold (l : Lane) : Keeps s (s.settleHold l) := by
  unfold State.settleHold
  exact keeps_modLane l s

theorem keeps_finish : Keeps s (State.finish before asked s) :=
  (((keeps_purgeTests before asked s).trans (keeps_drainTest _)).trans (keeps_settleHold _ .a)).trans (keeps_settleHold _ .b)

end

end Sys2Proof.Machine
end

section
/-! The books (R164, R165): a removal is counted before its record leaves, an admission before its record joins, and a release
moves a record from its queue to a head that holds none. -/

namespace Sys2Proof.Machine

/-! ### Counting -/

section
variable (s : State)

theorem modProductTotals_get (p q : ProductIx) (f : ProductTotals → ProductTotals) :
    (s.modProductTotals p f).totals.products[q] = if p = q then f s.totals.products[p] else s.totals.products[q] := by
  simp [State.modProductTotals, Vector.getElem_set, Fin.ext_iff]

theorem keeps_modProductTotals (p : ProductIx) {f : ProductTotals → ProductTotals} (hi : ∀ t, (f t).ins = t.ins := by intro t; rfl)
    (ho : ∀ t, (f t).outs = t.outs := by intro t; rfl) : Keeps s (s.modProductTotals p f) :=
  ⟨⟨⟨airOrdered_of_view rfl, productsDefined_of_same, figuresInRange_of_view rfl rfl⟩, fun h => by
      rw [booksKept_iff] at h ⊢
      obtain ⟨hnum, hlen, hidle, hempty, hbal, hsnap⟩ := h
      refine ⟨hnum, hlen, hidle, hempty, fun q => ?_, hsnap⟩
      have hq := hbal q
      rw [balanced_iff] at hq ⊢
      rw [modProductTotals_get]
      split
      · rename_i hpq; subst hpq; rw [hi, ho]; exact hq
      · exact hq⟩, causesRest_of_view rfl⟩

theorem keeps_modLaneTotals (l : Lane) (f : LaneTotals → LaneTotals) : Keeps s (s.modLaneTotals l f) := .of_views
theorem keeps_modHeadTotals (h : Head) (f : HeadTotals → HeadTotals) : Keeps s (s.modHeadTotals h f) := .of_views

theorem nextShift_range (n : Nat) : 1 ≤ nextShift n ∧ nextShift n ≤ 65535 := by
  unfold nextShift Limits.numberMax; split <;> omega

/-- R166: the new shift starts with the records held carried in, and the closed one carries them out. -/
theorem closeShift_balanced (automatic : Bool) (h : ∀ p, s.Balanced p) :
    (∀ p, (s.closeShift automatic).Balanced p) ∧ (s.closeShift automatic).totals.snapshotKept := by
  constructor
  · intro p
    simp [balanced_iff, State.closeShift, State.notify, ProductTotals.ins, ProductTotals.outs, ProductTotals.zero, State.inFlight, State.held]
  · intro x hx p
    simp only [State.closeShift, State.notify, Option.some.injEq] at hx
    subst hx
    have hp := h p
    simpa [Snapshot.Balanced, State.Balanced] using hp

theorem closeShift_notices (automatic : Bool) : (s.closeShift automatic).notices =
    s.notices.place (.shiftClosed s.totals.shift (nextShift s.totals.shift) s.held.length automatic) := rfl

theorem closeShift_shift (automatic : Bool) : (s.closeShift automatic).totals.shift = nextShift s.totals.shift := rfl

theorem closeShift_figures (automatic : Bool) (k : FiguresKept s) : FiguresKept (s.closeShift automatic) where
  notices := by rw [closeShift_notices]; exact place_length _ _ k.notices
  shiftPos := by rw [closeShift_shift]; exact (nextShift_range _).1
  shiftMax := by rw [closeShift_shift]; exact (nextShift_range _).2
  capture := by simpa using k.capture
  planner := by simpa using k.planner
  lastLoaf := by simpa using k.lastLoaf
  geometry := by simpa using k.geometry
  slicers := by simpa using k.slicers
  crumb := by simpa using k.crumb
  tiers := by simpa using k.tiers
  misses := by simpa using k.misses
  chains := by simpa using k.chains

theorem closeShift_held (automatic : Bool) : (s.closeShift automatic).held = s.held := by simp [State.held]

theorem closeShift_inFlight (automatic : Bool) (p : ProductIx) : (s.closeShift automatic).inFlight p = s.inFlight p := by
  rw [State.inFlight, closeShift_held, State.inFlight]

theorem keeps_closeShift (automatic : Bool) : Keeps s (s.closeShift automatic) where
  rest := causesRest_of_view (by simp [State.restView])
  air := airOrdered_of_view (by simp [State.airView])
  products := productsDefined_of_same (by simp) (by simp [State.namedView]) (by simp [State.places])
  figures := figures_imp (closeShift_figures s automatic)
  books h := by
    rw [booksKept_iff] at h ⊢
    obtain ⟨hnum, hlen, hidle, hempty, hbal, -⟩ := h
    refine ⟨?_, by simpa using hlen, by simpa using hidle, by simpa using hempty, closeShift_balanced s automatic hbal⟩
    rwa [State.ids, closeShift_held]

/-- R164: a count keeps everything but the balance of its own product. -/
theorem countLoaf_figures (p : ProductIx) (lim : ProductTotals → Bool) (bump : ProductTotals → ProductTotals) :
    FiguresKept s → FiguresKept (s.countLoaf p lim bump) := by
  intro k
  obtain ⟨-, h⟩ | ⟨-, h⟩ := countLoaf_cases p lim bump s
  · rw [h]; exact { k with }
  · rw [h]
    generalize hu : s.closeShift true = u
    have k' : FiguresKept u := hu ▸ closeShift_figures s true k
    exact { k' with }

/-- R164: after a count, the figures of each product against its records in flight before it: the count falls in the shift that
stands, and the closed one, if there is one, is balanced. -/
theorem countLoaf_books (p : ProductIx) (lim : ProductTotals → Bool) {bump : ProductTotals → ProductTotals} {i o : Nat}
    (hi : ∀ t, (bump t).ins = t.ins + i) (ho : ∀ t, (bump t).outs = t.outs + o) (hbal : ∀ q, s.Balanced q)
    (hsnap : s.totals.snapshotKept) :
    (∀ q : ProductIx, (s.countLoaf p lim bump).totals.products[q].ins + (if p = q then o else 0) =
      (s.countLoaf p lim bump).totals.products[q].outs + s.inFlight q + (if p = q then i else 0)) ∧
    (s.countLoaf p lim bump).totals.snapshotKept := by
  have hkey : ∀ u : State, (∀ q, u.Balanced q) → (∀ q, u.inFlight q = s.inFlight q) → ∀ q : ProductIx,
      (u.modProductTotals p bump).totals.products[q].ins + (if p = q then o else 0) =
      (u.modProductTotals p bump).totals.products[q].outs + s.inFlight q + (if p = q then i else 0) := by
    intro u hu hf q
    have hq := (balanced_iff q u).mp (hu q)
    rw [hf] at hq
    rw [modProductTotals_get]
    split
    · rename_i hpq; subst hpq; rw [hi, ho]; omega
    · exact hq
  obtain ⟨-, h⟩ | ⟨-, h⟩ := countLoaf_cases p lim bump s
  · rw [h]; exact ⟨hkey s hbal fun _ => rfl, hsnap⟩
  · rw [h]
    obtain ⟨hb, hs⟩ := closeShift_balanced s true hbal
    exact ⟨hkey _ hb (closeShift_inFlight s true), hs⟩

theorem countMarked_ins (m : Bool) (t : ProductTotals) : (t.countMarked m).ins = t.ins := by
  unfold ProductTotals.countMarked; split <;> rfl
theorem countMarked_outs (m : Bool) (t : ProductTotals) : (t.countMarked m).outs = t.outs := by
  unfold ProductTotals.countMarked; split <;> rfl
theorem bumpRejected_ins (t : ProductTotals) (r : Reason) : (t.bumpRejected r).ins = t.ins := by cases r <;> rfl
theorem bumpRejected_outs (t : ProductTotals) (r : Reason) : (t.bumpRejected r).outs = t.outs + 1 := by
  cases r <;> simp only [ProductTotals.bumpRejected, ProductTotals.outs] <;> omega

end

/-! ### A removal -/

/-- R32, R39, R105, R111: how the removal of a record is counted: one loaf of its product more given out. -/
structure CountsOut (r : LoafRecord) (s u : State) : Prop where
  rest : u.restView = s.restView
  air : u.airView = s.airView
  named : u.namedView = s.namedView
  products : u.products = s.products
  lanes : u.lanes = s.lanes
  heads : u.heads = s.heads
  router : u.router = s.router
  figures : FiguresKept s → FiguresKept u
  balance : (∀ q, s.Balanced q) → s.totals.snapshotKept →
    (∀ q : ProductIx, u.totals.products[q].ins + (if r.product = q then 1 else 0) = u.totals.products[q].outs + s.inFlight q) ∧
    u.totals.snapshotKept

theorem countsOut_countLoaf (r : LoafRecord) (s : State) (lim : ProductTotals → Bool) {bump : ProductTotals → ProductTotals}
    (hi : ∀ t, (bump t).ins = t.ins) (ho : ∀ t, (bump t).outs = t.outs + 1) : CountsOut r s (s.countLoaf r.product lim bump) where
  rest := by simp [State.restView]
  air := by simp [State.airView]
  named := by simp [State.namedView]
  products := by simp
  lanes := by simp
  heads := by simp
  router := by simp
  figures := countLoaf_figures s _ _ _
  balance hb hs := by simpa using countLoaf_books s r.product lim (i := 0) hi ho hb hs

theorem countsOut_countRejected (r : LoafRecord) (reason : Reason) (s : State) : CountsOut r s (s.countRejected r reason) :=
  countsOut_countLoaf r s _ (fun t => by rw [countMarked_ins, bumpRejected_ins]) fun t => by rw [countMarked_outs, bumpRejected_outs]

theorem countsOut_countCleared (r : LoafRecord) (s : State) : CountsOut r s (s.countCleared r) :=
  countsOut_countLoaf r s _ (fun t => by rw [countMarked_ins]; rfl) fun t => by
    rw [countMarked_outs]; simp only [ProductTotals.outs]; omega

theorem countsOut_countBagged (r : LoafRecord) (s : State) : CountsOut r s (s.countBagged r) :=
  countsOut_countLoaf r s _ (fun t => by rw [countMarked_ins]; rfl) fun t => by
    rw [countMarked_outs]; simp only [ProductTotals.outs]; omega

/-- The books after a change of the held records that leaves the numbers single and each product's figures against them. -/
theorem booksKept_of_perm {t : State} {ids : List (Nat × ProductIx)} (hperm : t.ids.Perm ids) (hnum : (numbersOf ids).Nodup)
    (hlen : ∀ l, (t.lanes.get l).queue.length ≤ 24) (hidle : t.router.idleOrder.Nodup)
    (hempty : ∀ h, h ∈ t.router.idleOrder → (t.heads.get h).record = none)
    (hbal : ∀ q : ProductIx, t.totals.products[q].ins = t.totals.products[q].outs + countOf q ids) (hsnap : t.totals.snapshotKept) :
    t.BooksKept := by
  rw [booksKept_iff]
  refine ⟨(hperm.map Prod.fst).nodup_iff.mpr hnum, hlen, hidle, hempty, fun q => ?_, hsnap⟩
  rw [balanced_iff, inFlight_eq_countOf, countOf, hperm.countP_eq]
  exact hbal q

theorem countOf_cons (q : ProductIx) (x : Nat × ProductIx) (ids : List (Nat × ProductIx)) :
    countOf q (x :: ids) = countOf q ids + if x.2 = q then 1 else 0 := by
  simp [countOf, List.countP_cons]

/-- The books after a counted removal. -/
theorem booksKept_of_removed {s u t : State} {r : LoafRecord} (hc : CountsOut r s u) (hs : s.BooksKept)
    (hperm : s.ids.Perm (r.id :: t.ids)) (hlen : ∀ l, (t.lanes.get l).queue.length ≤ (s.lanes.get l).queue.length)
    (hidle : t.router.idleOrder.Nodup) (hempty : ∀ h, h ∈ t.router.idleOrder → (t.heads.get h).record = none)
    (htot : t.totals.products = u.totals.products) (hsn : t.totals.snapshot = u.totals.snapshot) : t.BooksKept := by
  rw [booksKept_iff] at hs
  obtain ⟨hnum, hl, -, -, hbal, hsnap⟩ := hs
  obtain ⟨hb, hk⟩ := hc.balance hbal hsnap
  have hnd : (numbersOf (r.id :: t.ids)).Nodup := (hperm.map Prod.fst).nodup_iff.mp hnum
  refine booksKept_of_perm (.refl t.ids) (List.nodup_cons.mp hnd).2 (fun l => (hlen l).trans (hl l)) hidle hempty ?_ ?_
  · intro q
    have hq := hb q
    rw [inFlight_eq_countOf, countOf, hperm.countP_eq, ← countOf, countOf_cons] at hq
    rw [htot]
    by_cases hp : r.product = q <;> simp only [LoafRecord.id, hp, if_true, if_false] at hq <;> omega
  · unfold Totals.snapshotKept; rwa [hsn]

/-! ### A record in its queue -/

theorem queued_mem {s : State} {l : Lane} {n : Nat} {r : LoafRecord} (h : s.queued l n = some r) :
    r ∈ (s.lanes.get l).queue ∧ r.number = n :=
  ⟨List.mem_of_find?_eq_some h, by simpa using List.find?_some h⟩

/-- In a list of single numbers, taking out a record by its number takes out that record. -/
theorem perm_filter_number {q : List LoafRecord} {r : LoafRecord} (hnd : (q.map LoafRecord.number).Nodup) (hr : r ∈ q) :
    q.Perm (r :: q.filter (fun x => x.number != r.number)) := by
  induction q with
  | nil => simp at hr
  | cons x q ih =>
    rw [List.map_cons, List.nodup_cons] at hnd
    rcases List.mem_cons.mp hr with rfl | hmem
    · have : q.filter (fun x => x.number != r.number) = q := by
        rw [List.filter_eq_self]
        intro y hy
        simp only [bne_iff_ne]
        intro hxy
        exact hnd.1 (hxy ▸ List.mem_map_of_mem hy)
      simp [this]
    · have hne : x.number ≠ r.number := fun h => hnd.1 (h ▸ List.mem_map_of_mem hmem)
      simp only [List.filter_cons, bne_iff_ne, ne_eq, hne, not_false_eq_true, ↓reduceIte]
      exact ((ih hnd.2 hmem).cons x).trans (List.Perm.swap ..)

/-- The ids held elsewhere than in a lane's queue. -/
def State.idsBeside (l : Lane) (s : State) : List (Nat × ProductIx) :=
  (s.lanes.get (otherLane l)).queue.map LoafRecord.id ++ s.heads.one.record.toList.map LoafRecord.id ++
    s.heads.two.record.toList.map LoafRecord.id

theorem ids_perm_beside (l : Lane) (s : State) : s.ids.Perm ((s.lanes.get l).queue.map LoafRecord.id ++ s.idsBeside l) := by
  cases l
  · simp [State.ids, State.held, State.idsBeside, PerLane.get, otherLane]
  · simp only [State.ids, State.held, State.idsBeside, PerLane.get, otherLane, List.map_append, List.append_assoc]
    rw [← List.append_assoc, ← List.append_assoc (s.lanes.b.queue.map _)]
    exact List.perm_append_comm.append_right _

theorem queue_numbers_nodup {s : State} (h : s.BooksKept) (l : Lane) : ((s.lanes.get l).queue.map LoafRecord.number).Nodup := by
  have hnd := ((ids_perm_beside l s).map Prod.fst).nodup_iff.mp ((booksKept_iff s).mp h).1
  rw [List.map_append, List.nodup_append] at hnd
  simpa [LoafRecord.id, Function.comp_def] using hnd.1

theorem dequeue_queue (l : Lane) (n : Nat) (s : State) :
    ((s.dequeue l n).lanes.get l).queue = (s.lanes.get l).queue.filter (fun r => r.number != n) := by simp [State.dequeue]

theorem dequeue_beside (l : Lane) (n : Nat) (s : State) : (s.dequeue l n).idsBeside l = s.idsBeside l := by
  simp [State.dequeue, State.idsBeside, PerLane.get_set_ne _ _ (otherLane_ne l)]

/-- A record taken out of its queue: the others are still held. -/
theorem ids_dequeue {s : State} (h : s.BooksKept) {l : Lane} {r : LoafRecord} (hr : r ∈ (s.lanes.get l).queue) :
    s.ids.Perm (r.id :: (s.dequeue l r.number).ids) := by
  refine (ids_perm_beside l s).trans (.trans ?_ ((ids_perm_beside l _).symm.cons _))
  rw [dequeue_queue, dequeue_beside, ← List.cons_append]
  exact ((perm_filter_number (queue_numbers_nodup h l) hr).map LoafRecord.id).append_right _

theorem dequeue_length (l k : Lane) (n : Nat) (s : State) :
    ((s.dequeue l n).lanes.get k).queue.length ≤ (s.lanes.get k).queue.length := by
  by_cases hk : k = l
  · subst hk; rw [dequeue_queue]; exact List.length_filter_le _ _
  · simp [State.dequeue, PerLane.get_set_ne _ _ hk]

end Sys2Proof.Machine
end

section
/-! The Lane Router, the Bag Heads and the Clip Tiers keep the five properties: a release moves a record from its queue to a head
of the idle order, a discharge counts the record before it leaves (R98, R99, R105). -/

namespace Sys2Proof.Machine

/-! ### A head and its record -/

/-- The ids held elsewhere than at a head. -/
def State.idsBesideHead (h : Head) (s : State) : List (Nat × ProductIx) :=
  s.lanes.a.queue.map LoafRecord.id ++ s.lanes.b.queue.map LoafRecord.id ++
    (s.heads.get (match h with | .one => .two | .two => .one)).record.toList.map LoafRecord.id

theorem ids_perm_head (h : Head) (s : State) :
    s.ids.Perm ((s.heads.get h).record.toList.map LoafRecord.id ++ s.idsBesideHead h) := by
  cases h
  · simp only [State.ids, State.held, State.idsBesideHead, PerHead.get, List.map_append]
    rw [← List.append_assoc ((s.heads.one.record.toList).map _)]
    exact List.perm_append_comm.append_right _
  · simp only [State.ids, State.held, State.idsBesideHead, PerHead.get, List.map_append]
    exact List.perm_append_comm

theorem idsBesideHead_modHead (h : Head) (f : HeadState → HeadState) (s : State) :
    (s.modHead h f).idsBesideHead h = s.idsBesideHead h := by cases h <;> rfl

theorem modHead_other {h k : Head} (hk : k ≠ h) (f : HeadState → HeadState) (s : State) :
    (s.modHead h f).heads.get k = s.heads.get k := PerHead.get_set_ne _ _ hk

theorem modHead_same (h : Head) (f : HeadState → HeadState) (s : State) :
    (s.modHead h f).heads.get h = f (s.heads.get h) := PerHead.get_set ..

/-- A record given to a head that holds none. -/
theorem ids_modHead_take {h : Head} {f : HeadState → HeadState} {s : State} {r : LoafRecord} (hs : (s.heads.get h).record = none)
    (hf : (f (s.heads.get h)).record = some r) : (s.modHead h f).ids.Perm (r.id :: s.ids) := by
  have h1 := ids_perm_head h (s.modHead h f)
  have h2 := ids_perm_head h s
  rw [idsBesideHead_modHead, modHead_same, hf] at h1
  rw [hs] at h2
  exact h1.trans (by simpa using h2.symm.cons r.id)

theorem ids_modHead_subset {h : Head} {f : HeadState → HeadState} {s : State} {r : LoafRecord}
    (hf : (f (s.heads.get h)).record = some r) : (s.modHead h f).ids ⊆ r.id :: s.ids := by
  have h1 := ids_perm_head h (s.modHead h f)
  rw [idsBesideHead_modHead, modHead_same, hf] at h1
  intro x hx
  have hx := h1.subset hx
  have hsub : s.idsBesideHead h ⊆ s.ids := fun y hy => (ids_perm_head h s).symm.subset (List.mem_append_right _ hy)
  simp only [Option.toList_some, List.map_cons, List.map_nil, List.cons_append, List.nil_append, List.mem_cons] at hx ⊢
  exact hx.imp_right (@hsub x)

/-- A record taken from its head. -/
theorem ids_modHead_leave {h : Head} {f : HeadState → HeadState} {s : State} {r : LoafRecord} (hs : (s.heads.get h).record = some r)
    (hf : (f (s.heads.get h)).record = none) : s.ids.Perm (r.id :: (s.modHead h f).ids) := by
  have h1 := ids_perm_head h (s.modHead h f)
  have h2 := ids_perm_head h s
  rw [idsBesideHead_modHead, modHead_same, hf] at h1
  rw [hs] at h2
  exact h2.trans (by simpa using h1.symm.cons r.id)

/-! ### Releases (R98, R99) -/

theorem take_record (r : LoafRecord) (x : HeadState) : (x.take r).record = some { r with stage := .atHead } := by
  unfold HeadState.take; dsimp only; split <;> rfl

theorem take_misses (r : LoafRecord) (x : HeadState) : (x.take r).misses = x.misses := by
  unfold HeadState.take; dsimp only; split <;> rfl

section
variable (s : State)

theorem keeps_router {r : Router} (h : r.idleOrder = s.router.idleOrder) : Keeps s { s with router := r } :=
  .of_views (hb := by simp [State.booksView, h])

theorem keeps_promote (l : Lane) : Keeps s (s.promote l) := by
  unfold State.promote
  split
  · exact .refl s
  · rename_i g _
    refine ((keeps_modLane l s (f := fun q => { q with gateHeld := none })).trans ?_)
    exact (keeps_updateRecord _ (n := g) (f := fun r => { r with stage := .waiting }) fun _ => rfl).trans (keeps_router _ rfl)

theorem promote_places (l : Lane) : (s.promote l).places = s.places := by
  unfold State.promote
  split
  · rfl
  · rename_i g _
    exact (updateRecord_places _ (n := g) (f := fun r => { r with stage := .waiting }) fun _ => rfl).trans
      (modLane_places l s (f := fun q => { q with gateHeld := none }))

theorem promote_named (l : Lane) : (s.promote l).namedView = s.namedView := by
  unfold State.promote
  split
  · rfl
  · cases l <;> rfl

/-- The state of a release before the head takes the record. -/
def State.released (h : Head) (n : Nat) (l : Lane) (s : State) : State :=
  ({ s with router := { s.router with waitingOrder := s.router.waitingOrder.filter (fun w => w.1 != n)
                                      idleOrder := s.router.idleOrder.filter (fun x => x != h) } }.dequeue l n).promote l

theorem releaseTo_eq (h : Head) (n : Nat) (l : Lane) : s.releaseTo h n l = s ∨ ∃ r, s.queued l n = some r ∧
    s.releaseTo h n l = (s.released h n l).modHead h (HeadState.take { r with head := some h }) := by
  unfold State.releaseTo
  split
  · exact .inl rfl
  · rename_i r hr; exact .inr ⟨r, hr, rfl⟩

theorem released_places (h : Head) (n : Nat) (l : Lane) : (s.released h n l).places = (s.dequeue l n).places := by
  rw [State.released, promote_places]; rfl

theorem dequeue_ids_subset (l : Lane) (n : Nat) : (s.dequeue l n).ids ⊆ s.ids := by
  intro x hx
  have hx := (ids_perm_beside l _).subset hx
  rw [dequeue_queue, dequeue_beside] at hx
  refine (ids_perm_beside l s).symm.subset ?_
  rw [List.mem_append] at hx ⊢
  exact hx.imp_left fun h => List.map_subset _ (List.filter_subset_self _) h

theorem queued_id_mem {l : Lane} {n : Nat} {r : LoafRecord} (h : s.queued l n = some r) : r.id ∈ s.ids :=
  (ids_perm_beside l s).symm.subset (List.mem_append_left _ (List.mem_map_of_mem (queued_mem h).1))

theorem keepsCore_dequeue (l : Lane) (n : Nat) : KeepsCore s (s.dequeue l n) where
  air := airOrdered_of_view rfl
  products := productsDefined_of_view (fun _ => id) (by cases l <;> rfl) (dequeue_ids_subset s l n)
  figures := figuresInRange_of_view (by cases l <;> rfl) rfl

theorem keepsCore_released (h : Head) (n : Nat) (l : Lane) : KeepsCore s (s.released h n l) := by
  have hr : ∀ r, KeepsCore s { s with router := r } := fun r =>
    ⟨airOrdered_of_view rfl, productsDefined_of_same, figuresInRange_of_view rfl rfl⟩
  exact ((hr _).trans (keepsCore_dequeue _ l n)).trans (keeps_promote _ l).toKeepsCore

theorem keepsCore_releaseTo (h : Head) (n : Nat) (l : Lane) : KeepsCore s (s.releaseTo h n l) := by
  obtain he | ⟨r, hr, he⟩ := releaseTo_eq s h n l
  · rw [he]; exact .refl s
  · have hk := keepsCore_released s h n l
    have hframe : (s.released h n l).namedView = s.namedView ∧ (s.released h n l).products = s.products := by
      refine ⟨?_, by simp [State.released, State.dequeue]⟩
      rw [State.released, promote_named]
      cases l <;> rfl
    rw [he]
    refine ⟨fun ha => airOrdered_of_view rfl (hk.air ha), ?_, fun hf => ?_⟩
    · refine productsDefined_of_view (fun p hp => ?_) hframe.1 ?_
      · simpa [hframe.2] using hp
      · have hsub := ids_modHead_subset (h := h) (s := s.released h n l) (take_record { r with head := some h } _)
        rw [ids_of_places (released_places s h n l)] at hsub
        have hid : r.id ∈ s.ids := queued_id_mem s hr
        exact List.Subset.trans hsub (List.cons_subset.mpr ⟨hid, dequeue_ids_subset s l n⟩)
    · refine figures_imp (fun k => ?_) (hk.figures hf)
      have hm : ((s.released h n l).heads.get h).misses ≤ 2 := k.misses h
      rw [← take_misses { r with head := some h }] at hm
      exact { k with misses := PerHead.forall_set (P := fun x : HeadState => x.misses ≤ 2) k.misses hm }

theorem promote_length (l k : Lane) : ((s.promote l).lanes.get k).queue.length = (s.lanes.get k).queue.length :=
  queue_length_of_places (promote_places s l) k

theorem promote_heads_none (l : Lane) (k : Head) : ((s.promote l).heads.get k).record = none ↔ (s.heads.get k).record = none :=
  head_empty_of_places (promote_places s l) k

theorem promote_booksView (l : Lane) : (s.promote l).booksView = s.booksView := by
  unfold State.promote
  split <;> rfl

theorem released_booksView (h : Head) (n : Nat) (l : Lane) : (s.released h n l).booksView =
    (s.router.idleOrder.filter (fun x => x != h), s.totals.products, s.totals.snapshot) := by
  rw [State.released, promote_booksView]; rfl

/-- R98, R99: a head of the idle order holds no record, so the released one is the only one it holds. -/
theorem books_releaseTo {h : Head} (n : Nat) (l : Lane) (hidle : h ∈ s.router.idleOrder) : s.BooksKept → (s.releaseTo h n l).BooksKept := by
  intro hb
  obtain he | ⟨r, hr, he⟩ := releaseTo_eq s h n l
  · rwa [he]
  obtain ⟨hnum, hlen, hnd, hempty, hbal, hsnap⟩ := (booksKept_iff s).mp hb
  obtain ⟨hmem, rfl⟩ := queued_mem hr
  have hplaces := released_places s h r.number l
  have hview := released_booksView s h r.number l
  simp only [State.booksView, Prod.mk.injEq] at hview
  obtain ⟨hi, hp, hs⟩ := hview
  have hnone : ∀ k, ((s.released h r.number l).heads.get k).record = none ↔ (s.heads.get k).record = none :=
    fun k => head_empty_of_places hplaces k
  rw [he]
  refine booksKept_of_perm (ids := s.ids) ?_ hnum (fun k => ?_) ?_ (fun k hk => ?_) (fun q => ?_) ?_
  · refine (ids_modHead_take ((hnone h).mpr (hempty h hidle)) (take_record { r with head := some h } _)).trans ?_
    rw [ids_of_places hplaces]
    exact (ids_dequeue hb hmem).symm
  · exact (queue_length_of_places hplaces k).le.trans ((dequeue_length l k r.number s).trans (hlen k))
  · exact hi ▸ hnd.filter _
  · have hk : k ∈ s.router.idleOrder.filter (fun x => x != h) := hi ▸ hk
    simp only [List.mem_filter, bne_iff_ne] at hk
    rw [modHead_other hk.2]
    exact (hnone k).mpr (hempty k hk.1)
  · have hq := hbal q
    rw [balanced_iff, inFlight_eq_countOf] at hq
    simpa [hp] using hq
  · unfold Totals.snapshotKept
    rw [State.modHead_totals, hs]
    exact hsnap

theorem offerTo_idleOrder {h k : Head} (hk : k ∈ s.router.idleOrder) (hne : k ≠ h) : k ∈ (s.offerTo h).router.idleOrder := by
  obtain he | ⟨w, -, he⟩ := offerTo_cases s h
  · rwa [he]
  · rw [he]
    obtain he | ⟨r, -, he⟩ := releaseTo_eq s h w.1 w.2
    · rwa [he]
    · have hview := released_booksView s h w.1 w.2
      simp only [State.booksView, Prod.mk.injEq] at hview
      rw [he, State.modHead_router, hview.1]
      simp [hk, hne]

theorem keepsCore_offerTo (h : Head) : KeepsCore s (s.offerTo h) := by
  obtain he | ⟨w, -, he⟩ := offerTo_cases s h
  · rw [he]; exact .refl s
  · rw [he]; exact keepsCore_releaseTo s h w.1 w.2

theorem books_offerTo {h : Head} (hidle : h ∈ s.router.idleOrder) (hb : s.BooksKept) : (s.offerTo h).BooksKept := by
  obtain he | ⟨w, -, he⟩ := offerTo_cases s h
  · rwa [he]
  · rw [he]; exact books_releaseTo s w.1 w.2 hidle hb

/-- R98: each head of the idle order is offered a record while it still stands in it. -/
theorem books_offers : ∀ (hs : List Head) (s : State), hs.Nodup → hs ⊆ s.router.idleOrder → s.BooksKept →
    (hs.foldl State.offerTo s).BooksKept
  | [], _, _, _, hb => hb
  | h :: hs, s, hnd, hsub, hb => by
    rw [List.nodup_cons] at hnd
    refine books_offers hs (s.offerTo h) hnd.2 (fun k hk => ?_) (books_offerTo s (hsub (List.mem_cons_self ..)) hb)
    exact offerTo_idleOrder s (hsub (List.mem_cons_of_mem _ hk)) fun he => hnd.1 (he ▸ hk)

theorem keeps_attemptReleases : Keeps s s.attemptReleases := by
  have hrest : s.attemptReleases.restView = s.restView := by simp [State.restView]
  refine ⟨⟨?_, ?_⟩, causesRest_of_view hrest⟩
  · unfold State.attemptReleases
    split
    · exact KeepsCore.foldl keepsCore_offerTo _ s
    · exact .refl s
  · intro hb
    unfold State.attemptReleases
    split
    · exact books_offers _ s ((booksKept_iff s).mp hb).2.2.1 (fun _ => id) hb
    · exact hb

end

end Sys2Proof.Machine
end

section
/-! What a Bag Head and its Clip Tier do, each operation keeping the five properties (R96 to R128). -/

namespace Sys2Proof.Machine

section
variable (h : Head) (s : State)

/-! ### Sources and the idle event -/

theorem keeps_giveSource (src : Source) : Keeps s (s.giveSource h src) :=
  (keeps_router s (r := { s.router with active := s.router.active.set h src, pending := s.router.pending.set h none }) rfl).trans
    (.ite (fun _ => keeps_raise _ _) fun _ => .refl _)

theorem keeps_applyPendingSource : Keeps s (s.applyPendingSource h) := by
  unfold State.applyPendingSource
  split
  · exact .refl s
  · exact keeps_giveSource h s _

/-- The head of an IDLE event, before it joins the idle order. -/
def HeadState.idled (x : HeadState) : HeadState :=
  { x with step := .idle, record := none, direct := false, misses := 0, timer := none }

theorem goIdle_eq : s.goIdle h =
    { s.modHead h HeadState.idled with router := { s.router with idleOrder := s.router.idleOrder.filter (fun x => x != h) ++ [h] } } := rfl

theorem goIdle_idleOrder_nodup (hnd : s.router.idleOrder.Nodup) : (s.goIdle h).router.idleOrder.Nodup := by
  simp only [goIdle_eq, List.nodup_append, List.nodup_cons, List.mem_filter, List.mem_singleton, List.nodup_nil]
  exact ⟨hnd.filter _, by simp, by rintro a ha b rfl; simpa using ha.2⟩

theorem goIdle_empty (hempty : ∀ k, k ∈ s.router.idleOrder → (s.heads.get k).record = none) :
    ∀ k, k ∈ (s.goIdle h).router.idleOrder → ((s.goIdle h).heads.get k).record = none := by
  intro k hk
  have hheads : (s.goIdle h).heads.get k = (s.modHead h HeadState.idled).heads.get k := rfl
  rw [hheads]
  by_cases hkh : k = h
  · subst hkh; rw [modHead_same]; rfl
  · rw [modHead_other hkh]
    refine hempty k ?_
    simp only [goIdle_eq, List.mem_append, List.mem_filter, List.mem_singleton] at hk
    exact (hk.resolve_right hkh).1

theorem goIdle_ids_subset : (s.goIdle h).ids ⊆ s.ids := by
  have h1 : (s.goIdle h).ids.Perm _ := ids_perm_head h (s.modHead h HeadState.idled)
  rw [idsBesideHead_modHead, modHead_same] at h1
  intro x hx
  exact (ids_perm_head h s).symm.subset (List.mem_append_right _ (by simpa [HeadState.idled] using h1.subset hx))

theorem keepsCore_goIdle : KeepsCore s (s.goIdle h) where
  air := airOrdered_of_view rfl
  products := productsDefined_of_view (fun _ => id) rfl (goIdle_ids_subset h s)
  figures := figures_imp fun k =>
    { k with misses := PerHead.forall_set (P := fun x : HeadState => x.misses ≤ 2) k.misses (Nat.zero_le _) }

/-- A head without a record that goes IDLE. -/
theorem keeps_goIdle (hr : (s.heads.get h).record = none) : Keeps s (s.goIdle h) := by
  refine ⟨⟨keepsCore_goIdle h s, fun hb => ?_⟩, causesRest_of_view rfl⟩
  obtain ⟨hnum, hlen, hnd, hempty, hbal, hsnap⟩ := (booksKept_iff s).mp hb
  refine booksKept_of_perm (ids := s.ids) ?_ hnum hlen (goIdle_idleOrder_nodup h s hnd) (goIdle_empty h s hempty) (fun q => ?_) hsnap
  · have h1 : (s.goIdle h).ids.Perm _ := ids_perm_head h (s.modHead h HeadState.idled)
    rw [idsBesideHead_modHead, modHead_same] at h1
    have h2 := ids_perm_head h s
    rw [hr] at h2
    exact h1.trans h2.symm
  · have hq := hbal q
    rw [balanced_iff, inFlight_eq_countOf] at hq
    exact hq

theorem countsOut_core {r : LoafRecord} {s u : State} (hc : CountsOut r s u) : KeepsCore s u where
  air := airOrdered_of_view hc.air
  products := productsDefined_of_same hc.products hc.named (by simp [State.places, hc.lanes, hc.heads])
  figures := figures_imp hc.figures

/-- R105, R111: a record counted out and its head gone IDLE. -/
theorem keeps_counted_goIdle {r : LoafRecord} {s u : State} (hc : CountsOut r s u) (hr : (s.heads.get h).record = some r) :
    Keeps s (u.goIdle h) := by
  refine ⟨⟨(countsOut_core hc).trans (keepsCore_goIdle h u), fun hb => ?_⟩, fun hs => causesRest_of_view hc.rest hs⟩
  obtain ⟨-, hlen, hnd, hempty, -, -⟩ := (booksKept_iff s).mp hb
  refine booksKept_of_removed hc hb ?_ (fun l => ?_) ?_ ?_ rfl rfl
  · refine (ids_modHead_leave hr (f := HeadState.idled) rfl).trans (.cons _ ?_)
    have hheld : (u.goIdle h).held = (s.modHead h HeadState.idled).held := by
      simp [State.held, goIdle_eq, State.modHead, hc.lanes, hc.heads]
    rw [State.ids, State.ids, hheld]
  · exact (congrArg (fun x : PerLane LaneState => (x.get l).queue.length) hc.lanes).le
  · exact goIdle_idleOrder_nodup h u (hc.router ▸ hnd)
  · exact goIdle_empty h u (by rw [hc.router, hc.heads]; exact hempty)

theorem keeps_report (r : LoafRecord) (how : LeftBy) (head : Option Head) (tie : Option TieResult) :
    Keeps s (s.report r how head tie) := by
  unfold State.report
  dsimp only
  split
  · exact .refl s
  · exact keeps_notify s _
  · exact (keeps_notify s _).trans (keeps_notices _ id)

theorem keeps_takeDischargeClear : Keeps s (s.takeDischargeClear h) := by
  have hleft : Keeps s (match (s.heads.get h).record with
      | none => s.goIdle h
      | some r => ((match r.disposition with
        | some reason => s.countRejected r reason
        | none => s.countBagged r).goIdle h).report r .head (some h) r.tie) := by
    split
    · exact keeps_goIdle h s ‹_›
    · rename_i r hr
      refine Keeps.trans ?_ (keeps_report _ _ _ _ _)
      split
      · exact keeps_counted_goIdle h (countsOut_countRejected r _ s) hr
      · exact keeps_counted_goIdle h (countsOut_countBagged r s) hr
  exact (hleft.trans (keeps_applyPendingSource h _)).trans (keeps_attemptReleases _)

/-! ### Steps of a head -/

/-- Writing of a head its step, timers and marks. -/
theorem keeps_modHead_same {f : HeadState → HeadState} (hr : ∀ x, (f x).record = x.record) (hm : ∀ x, (f x).misses = x.misses) :
    Keeps s (s.modHead h f) :=
  keeps_modHead h s (hr _) fun k => by rwa [hm]

theorem keeps_enter (step : HeadStep) : Keeps s (s.modHead h (HeadState.enter step)) :=
  keeps_modHead_same h s (fun _ => rfl) fun _ => rfl

/-- Writing of a head its step, timers and marks, with a miss count of at most 2. -/
theorem keeps_modHead_misses {f : HeadState → HeadState} (hr : ∀ x, (f x).record = x.record) (hm : ∀ x, (f x).misses ≤ 2) :
    Keeps s (s.modHead h f) :=
  keeps_modHead h s (hr _) fun _ => hm _

theorem keeps_takeBagOpen : Keeps s (s.takeBagOpen h) :=
  keeps_modHead_misses h s (f := fun x => { x.enter .loading with misses := 0 }) (fun _ => rfl) fun _ => Nat.zero_le _

theorem keeps_takeLoafIn : Keeps s (s.takeLoafIn h) := keeps_enter h s .gathering

theorem keeps_takeOpeningTimeout : Keeps s (s.takeOpeningTimeout h) := by
  unfold State.takeOpeningTimeout
  refine .ite (fun _ => ?_) fun _ => ?_
  · exact .trans (keeps_modHeadTotals s h _) (keeps_modHead_misses h _ (f := fun x => { x.feedBag with misses := 1 })
      (fun _ => rfl) fun _ => Nat.le_succ 1)
  · refine .trans ?_ (keeps_raise _ _)
    exact .trans (keeps_modHeadTotals s h _) (keeps_modHead_misses h _
      (f := fun x => { x.enter .bagOut with misses := 2, feedPulse := none }) (fun _ => rfl) fun _ => Nat.le_refl 2)

/-! ### The tier -/

theorem keeps_magazineReport : Keeps s (s.magazineReport h) :=
  .ite (fun _ => keeps_notify s _) fun _ => .ite (fun _ => keeps_raise s _) fun _ => .refl s

theorem meetProduct_inRange (p : ProductIx) {t : Tier} (ht : t.InRange) : (t.meetProduct p).InRange := by
  obtain ⟨hsum, hmax, hwarm, hstreak⟩ := ht
  unfold Tier.meetProduct Tier.InRange
  dsimp only
  split <;> split <;> simp_all [Limits.warmUpTies]

theorem keeps_tieStart (r : LoafRecord) (hm : (s.tiers.get h).magazine ≠ 0) : Keeps s (s.tieStart h r) := by
  unfold State.tieStart
  refine .trans ?_ (keeps_modTier h _ id)
  refine .trans ?_ (keeps_modTier h _ (meetProduct_inRange _))
  refine .trans ?_ (keeps_magazineReport h _)
  refine .trans (keeps_modTier h s ?_) (keeps_modHeadTotals _ h _)
  rintro ⟨hsum, hmax, hwarm, hstreak⟩
  exact ⟨by dsimp only; omega, hmax, hwarm, hstreak⟩

theorem keeps_noClipPath (r : LoafRecord) : Keeps s (s.noClipPath h r) := by
  unfold State.noClipPath
  refine .trans ?_ (keeps_enter h _ .discharging)
  refine .trans ?_ (keeps_modHead_same h _ (fun _ => rfl) fun _ => rfl)
  refine .trans ?_ (keeps_modHeadTotals _ h _)
  exact keeps_updateRecord s fun _ => rfl

theorem keeps_handOff : Keeps s (s.handOff h) := by
  unfold State.handOff
  split
  · exact .refl s
  · exact .ite (fun _ => keeps_noClipPath h s _) fun hm => keeps_tieStart h s _ hm

theorem keeps_takeGatherDone : Keeps s (s.takeGatherDone h) := (keeps_enter h s .tying).trans (keeps_handOff h _)

theorem keeps_setExpected (p : ProductIx) (v : Option Half) : Keeps s (s.setExpected p v) := by
  have hp : ∀ q : ProductIx, s.products[q].isSome = true → (s.setExpected p v).products[q].isSome = true := by
    intro q hq
    simp only [State.setExpected, Fin.getElem_fin, Vector.getElem_set]
    split
    · rename_i hpq
      obtain rfl := Fin.ext hpq
      simpa using hq
    · exact hq
  exact ⟨⟨⟨airOrdered_of_view rfl, productsDefined_of_view hp rfl fun _ => id, figuresInRange_of_view rfl rfl⟩,
    booksKept_of_view rfl rfl⟩, causesRest_of_view rfl⟩

theorem keeps_learnTie (tie : Tie) : Keeps s (s.learnTie h tie) :=
  ((keeps_setExpected s tie.product (some tie.signature)).trans (keeps_modTier h _ (f := fun t => { t with learn := .none }) id)).trans
    (keeps_notify _ _)

theorem keeps_mismatchTie (tie : Tie) (expected : Half) : Keeps s (s.mismatchTie h tie expected) := by
  unfold State.mismatchTie
  have hnotice := (keeps_updateRecord s (n := tie.loaf) (f := LoafRecord.reject .untied) fun _ => rfl).trans
    (keeps_notify _ (.tieMismatch h tie.loaf tie.product tie.signature expected))
  refine .ite (fun _ => ?_) fun hlt => hnotice.trans (keeps_modTier h _ fun ⟨a, b, c, _⟩ => ⟨a, b, c, ?_⟩)
  · exact (hnotice.trans (keeps_modTier h _ fun ⟨a, b, c, _⟩ => ⟨a, b, c, Nat.zero_le _⟩)).trans (keeps_raise _ _)
  · exact Nat.le_of_lt_succ (Nat.lt_of_not_le hlt)

theorem tiedTier_inRange (t : Tier) (tie : Tie) (result : TieResult) (ht : t.InRange) :
    ({ t with lastSignature := some tie.signature, warmUp := if t.consumesWarmUp tie then t.warmUp - 1 else t.warmUp,
              streak := if result = .good then 0 else t.streak } : Tier).InRange := by
  obtain ⟨hsum, hmax, hwarm, hstreak⟩ := ht
  refine ⟨hsum, hmax, ?_, ?_⟩ <;> dsimp only <;> split <;> omega

/-- R122: what a result against an expected signature makes of the tier and the record, beyond the result itself. -/
def State.mismatchOf (h : Head) (tie : Tie) : TieResult → Option Half → State → State
  | .mismatch, some e, s => s.mismatchTie h tie e
  | .mismatch, none, s => s
  | .good, _, s => s
  | .unchecked, _, s => s
  | .noClip, _, s => s

/-- R121, R122, R124: tie-done before its head leaves TYING, with the result as decided. -/
def State.tiedWith (h : Head) (tie : Tie) (result : TieResult) (s : State) : State :=
  let t := s.tiers.get h
  let u := (s.modTier h fun x =>
    { x with lastSignature := some tie.signature
             warmUp := if t.consumesWarmUp tie then x.warmUp - 1 else x.warmUp
             streak := if result = .good then 0 else x.streak }).updateRecord tie.loaf (LoafRecord.tied result)
  let u := State.mismatchOf h tie result (s.expectedSignature tie.product) (if t.learns tie then u.learnTie h tie else u)
  (u.modHeadTotals h fun x => x.countTie result).modTier h fun x => { x with learn := x.learn.unbind, tie := none }

theorem takeTieDone_eq (tie : Tie) : s.takeTieDone h tie =
    let u := s.tiedWith h tie (tieResultOf (s.tiers.get h) tie (s.expectedSignature tie.product))
    if (u.heads.get h).step = .tying then u.toDischarging h else u := by
  unfold State.takeTieDone State.tiedWith
  dsimp only
  generalize tieResultOf (s.tiers.get h) tie (s.expectedSignature tie.product) = result
  generalize s.expectedSignature tie.product = expected
  cases result
  case mismatch => cases expected <;> rfl
  all_goals rfl

theorem keeps_mismatchOf (tie : Tie) (result : TieResult) (expected : Option Half) : Keeps s (s.mismatchOf h tie result expected) := by
  cases result
  case mismatch =>
    cases expected
    · exact .refl s
    · exact keeps_mismatchTie h s tie _
  all_goals exact .refl s

theorem keeps_tiedWith (tie : Tie) (result : TieResult) : Keeps s (s.tiedWith h tie result) := by
  unfold State.tiedWith
  refine .trans ?_ (keeps_modTier h _ id)
  refine .trans ?_ (keeps_modHeadTotals _ h _)
  refine .trans ?_ (keeps_mismatchOf h _ tie _ _)
  have htied := (keeps_modTier h s (f := fun x => { x with
      lastSignature := some tie.signature
      warmUp := if (s.tiers.get h).consumesWarmUp tie then x.warmUp - 1 else x.warmUp
      streak := if result = .good then 0 else x.streak }) (tiedTier_inRange _ tie result)).trans
    (keeps_updateRecord _ (n := tie.loaf) (f := LoafRecord.tied result) fun _ => rfl)
  exact .ite (fun _ => htied.trans (keeps_learnTie h _ tie)) fun _ => htied

theorem keeps_takeTieDone (tie : Tie) : Keeps s (s.takeTieDone h tie) := by
  rw [takeTieDone_eq]
  exact .ite (fun _ => (keeps_tiedWith h s tie _).trans (keeps_enter h _ .discharging)) fun _ => keeps_tiedWith h s tie _

/-! ### Resume and line clear -/

theorem keeps_resumeHead (step : HeadStep) : Keeps s (s.resumeHead step h) := by
  cases step
  case idle => exact .refl s
  case bagOut => exact keeps_modHead_misses h s (f := fun x => { x.feedBag with misses := 0 }) (fun _ => rfl) fun _ => Nat.zero_le _
  case opening => exact .ite (fun _ => keeps_takeBagOpen h s) fun _ => keeps_enter h s _
  case loading => exact .ite (fun _ => keeps_takeLoafIn h s) fun _ => keeps_enter h s _
  case gathering => exact .ite (fun _ => keeps_takeGatherDone h s) fun _ => keeps_enter h s _
  case tying => exact keeps_enter h s _
  case discharging => exact .ite (fun _ => keeps_takeDischargeClear h s) fun _ => keeps_enter h s _

theorem keeps_clearHead : Keeps s (s.clearHead h) := by
  unfold State.clearHead
  refine .trans ?_ (keeps_applyPendingSource h _)
  refine .trans (keeps_modHead_same h s (f := fun x => { x with feedPulse := none, timer := none }) (fun _ => rfl) fun _ => rfl) ?_
  split
  · rename_i hr; exact keeps_goIdle h _ hr
  · rename_i r hr; exact (keeps_counted_goIdle h (countsOut_countCleared r _) hr).trans (keeps_report _ _ _ _ _)

end

end Sys2Proof.Machine
end

section
/-! The Quality Watch, the Slice Planner and the tracking of loaves keep the five properties: an admission gives a number no
held record carries (R26) and counts the loaf before it joins (R27). -/

namespace Sys2Proof.Machine

/-! ### The Quality Watch -/

/-- R76: the entry after a firing. -/
def WatchEntry.fired (e : WatchEntry) : WatchEntry := { e with fireCount := satAdd Limits.max16 e.fireCount 1 }

/-- R76: an entry's firing counted. -/
def Watch.fire (i : Fin 4) (w : Watch) : Watch := { w with entries := w.entries.set i w.entries[i].fired }

theorem pairChained_fire (i : Fin 4) (w : Watch) (p : Fin 2) : (w.fire i).pairChained p = w.pairChained p := by
  simp only [Watch.pairChained, Watch.fire, Fin.getElem_fin, Vector.getElem_set]
  split
  · rename_i h; simp [WatchEntry.fired, h]
  · rfl

section
variable (s : State)

/-- R87, R88: the record rejected by a firing. -/
def State.rejectIf (b : Bool) (n : Nat) (s : State) : State := if b then s.updateRecord n (LoafRecord.reject .watch) else s

/-- R87, R88: the record marked by a firing. -/
def State.markIf (b : Bool) (n : Nat) (s : State) : State := if b then s.updateRecord n (fun r => { r with marked := true }) else s

/-- R87, R89: the line stopped by a firing. -/
def State.stopIf (b : Bool) (i : Fin 4) (s : State) : State := if b then s.raise (.watchStop i) else s

/-- R87: the steps of a firing in their order. -/
theorem fireEntry_eq (i : Fin 4) (n : Nat) (l : Lane) : s.fireEntry i n l =
    ((((({ s with watch := s.watch.fire i }.updateRecord n (LoafRecord.hit i)).rejectIf s.watch.entries[i].actions.reject n).markIf
      s.watch.entries[i].actions.mark n).stopIf s.watch.entries[i].actions.stop i).notify (.watchFired i n l)) := rfl

theorem rejectIf_watch (b : Bool) (n : Nat) : (s.rejectIf b n).watch = s.watch := by unfold State.rejectIf; split <;> rfl
theorem markIf_watch (b : Bool) (n : Nat) : (s.markIf b n).watch = s.watch := by unfold State.markIf; split <;> rfl
theorem stopIf_watch (b : Bool) (i : Fin 4) : (s.stopIf b i).watch = s.watch := by unfold State.stopIf; split <;> simp

theorem fireEntry_watch (i : Fin 4) (n : Nat) (l : Lane) : (s.fireEntry i n l).watch = s.watch.fire i := by
  rw [fireEntry_eq, State.notify, stopIf_watch, markIf_watch, rejectIf_watch]
  simp

theorem keeps_fireEntry (i : Fin 4) (n : Nat) (l : Lane) : Keeps s (s.fireEntry i n l) := by
  rw [fireEntry_eq]
  refine .trans ?_ (keeps_notify _ _)
  refine .trans ?_ (Keeps.ite (fun _ => keeps_raise _ _) fun _ => .refl _)
  refine .trans ?_ (Keeps.ite (fun _ => keeps_updateRecord _ fun _ => rfl) fun _ => .refl _)
  refine .trans ?_ (Keeps.ite (fun _ => keeps_updateRecord _ fun _ => rfl) fun _ => .refl _)
  refine .trans ?_ (keeps_updateRecord _ fun _ => rfl)
  exact keeps_watch s id fun h p hp => h p (by rwa [pairChained_fire] at hp)

/-- R84: an entry's turn before its chain is settled. -/
def State.entryTurn (r : LoafRecord) (chains : Vector (Option Nat) 2) (i : Fin 4) (s : State) : State :=
  if entryFires i (s.watch.pairChained (pairOf i)) (s.watch.entries[i].matchesLoaf r) chains[pairOf i].isSome then s.fireEntry i r.number r.lane
  else if s.watch.pairChained (pairOf i) && isFirst i && s.watch.entries[i].matchesLoaf r then s.updateRecord r.number (LoafRecord.hit i)
  else s

/-- R85: the chain of a pair as its second entry's turn leaves it. -/
def Watch.chainTurn (r : LoafRecord) (before : Option Nat) (i : Fin 4) (w : Watch) : Option Nat :=
  chainAfter before (w.entries[if pairOf i = 0 then (0 : Fin 4) else 2].matchesLoaf r) (w.entries[i].matchesLoaf r) w.entries[i].armWindow

theorem settleEntry_eq (r : LoafRecord) (chains : Vector (Option Nat) 2) (i : Fin 4) : s.settleEntry r chains i =
    if s.watch.pairChained (pairOf i) && !isFirst i then
      { s.entryTurn r chains i with watch := { (s.entryTurn r chains i).watch with
          chains := (s.entryTurn r chains i).watch.chains.set (pairOf i) (s.watch.chainTurn r chains[pairOf i] i) } }
    else s.entryTurn r chains i := rfl

theorem entryTurn_pairChained (r : LoafRecord) (chains : Vector (Option Nat) 2) (i : Fin 4) (p : Fin 2) :
    (s.entryTurn r chains i).watch.pairChained p = s.watch.pairChained p := by
  unfold State.entryTurn
  split
  · rw [fireEntry_watch, pairChained_fire]
  · split <;> rfl

theorem keeps_entryTurn (r : LoafRecord) (chains : Vector (Option Nat) 2) (i : Fin 4) : Keeps s (s.entryTurn r chains i) :=
  .ite (fun _ => keeps_fireEntry s i _ _) fun _ => .ite (fun _ => keeps_updateRecord s fun _ => rfl) fun _ => .refl s

/-- R85: only the chain of a chained pair is armed. -/
theorem keeps_settleEntry (r : LoafRecord) (chains : Vector (Option Nat) 2) (i : Fin 4) : Keeps s (s.settleEntry r chains i) := by
  rw [settleEntry_eq]
  refine .ite (fun hc => (keeps_entryTurn s r chains i).trans (keeps_watch _ id fun h p hp => ?_)) fun _ => keeps_entryTurn s r chains i
  have hchained : (s.entryTurn r chains i).watch.pairChained (pairOf i) = true := by
    rw [entryTurn_pairChained]; simp_all
  have hne : pairOf i ≠ p := by
    rintro rfl
    exact absurd hp (by simpa [Watch.pairChained] using hchained)
  have hval : (pairOf i).val ≠ p.val := fun he => hne (Fin.ext he)
  simp only [Fin.getElem_fin, Vector.getElem_set, hval, if_false]
  exact h p hp

theorem keeps_captureDecision (n : Nat) (c : Summary) (start stop : Bool) : Keeps s (s.captureDecision n c start stop) := by
  unfold State.captureDecision
  refine .ite (fun _ => .ite (fun hroom => .ite (fun hlog => ?_) fun _ => ?_) fun _ => ?_) fun _ => .refl s
  · exact keeps_watch s (fun _ => Nat.le_of_lt hlog) id
  · refine (keeps_watch s (w := { s.watch with capture := s.watch.capture ++ [c], recording := false }) (fun _ => ?_) id).trans (keeps_notify _ _)
    have : s.watch.capture.length < 16 := hroom
    simp; omega
  · exact (keeps_watch s (w := { s.watch with recording := false }) id id).trans (keeps_notify _ _)

theorem keeps_evaluate (n : Nat) : Keeps s (s.evaluate n) := by
  unfold State.evaluate
  split
  · exact .refl s
  · dsimp only
    rename_i r _
    have hturns : Keeps s ([0, 1, 2, 3].foldl (fun t (i : Fin 4) => t.settleEntry r s.watch.chains i) s) :=
      .foldl (fun t i => keeps_settleEntry t r _ i) _ s
    split
    · split
      · exact hturns.trans (keeps_captureDecision _ _ _ _ _)
      · exact hturns
    · exact hturns

/-! ### The Slice Planner -/

theorem keeps_startNext : Keeps s s.startNext := by
  obtain h | ⟨req, rest, -, hq, h⟩ := startNext_cases s
  · rw [h]; exact .refl s
  · rw [h]
    refine keeps_planner s fun hl => ?_
    rw [hq] at hl
    exact (Nat.le_succ _).trans hl

theorem keeps_enqueueRequest (req : PlanRequest) (hroom : s.planner.queue.length < Limits.plannerPlaces) : Keeps s (s.enqueueRequest req) := by
  refine .trans (keeps_planner s (p := { s.planner with queue := s.planner.queue ++ [req] }) fun _ => ?_) (keeps_startNext _)
  have : s.planner.queue.length < 4 := hroom
  simp; omega

theorem keeps_withdraw (n : Nat) : Keeps s { s with planner := s.planner.withdraw n } :=
  keeps_planner s fun hl => (List.length_filter_le _ _).trans hl

theorem keeps_scheduleCuts (l : Lane) (n : Nat) (p : Plan) : Keeps s (s.scheduleCuts l n p) := by
  unfold State.scheduleCuts
  exact .ite (fun _ => .refl s) fun _ => keeps_modSlicer l s id

theorem keeps_deliverPlan (l : Lane) (n : Nat) (p : Plan) (wholeOk : Bool) : Keeps s (s.deliverPlan l n p wholeOk) := by
  unfold State.deliverPlan
  split
  · exact .refl s
  · exact ((keeps_updateRecord s (planned_id p _)).trans (keeps_scheduleCuts _ l n p)).trans (keeps_evaluate _ n)

theorem keeps_failPlan (n : Nat) (outcome : PlanOutcome) (reason : Reason) : Keeps s (s.failPlan n outcome reason) := by
  unfold State.failPlan
  refine .trans ?_ (keeps_evaluate _ n)
  exact keeps_updateRecord s fun r => planned_id _ _ r

theorem keeps_wearLimit (l : Lane) (i : PlanInputs) (p : Plan) : Keeps s (s.wearLimit l i p) := by
  unfold State.wearLimit
  have hset : Keeps s (s.modSlicer l fun sl => { sl with wearLimit := true }) := keeps_modSlicer l s id
  exact .ite (fun _ => .ite (fun _ => hset) fun _ => hset.trans (keeps_notify _ _)) fun _ => .refl s

theorem keeps_completed (p : Plan) : Keeps s { s with planner := s.planner.completed p } := keeps_planner s id

theorem keeps_completeGauge (l : Lane) (n : Nat) (c : CurrentPlan) : Keeps s (s.completeGauge l n c) := by
  refine .trans (.trans ((keeps_wearLimit s l c.inputs c.inputs.plan).trans (keeps_completed _ c.inputs.plan)) ?_) (keeps_startNext _)
  exact .ite (fun _ => .refl _) fun _ => keeps_deliverPlan _ l n _ _

theorem keeps_takeArrival (l : Lane) (n : Nat) : Keeps s (s.takeArrival l n) := by
  unfold State.takeArrival
  refine .ite (fun hroom => ?_) fun _ => (keeps_failPlan s n _ _).trans (keeps_notify _ _)
  refine .trans ?_ (keeps_enqueueRequest _ _ hroom)
  exact keeps_updateRecord s fun _ => rfl

/-! ### Positional events (R30 to R33) -/

theorem keeps_travel (l : Lane) (d : Quad) : Keeps s (s.travel l d) := by
  unfold State.travel
  exact .ite (fun _ => keeps_modLane l s) fun _ => .refl s

theorem keeps_advanceTo (l : Lane) (p : Quad) : Keeps s (s.advanceTo l p) := by
  unfold State.advanceTo
  exact keeps_modLane l s

theorem keeps_bladeLineEvent (l : Lane) (n : Nat) : Keeps s (s.bladeLineEvent l n) := by
  unfold State.bladeLineEvent
  split
  · exact .refl s
  · have hmark : Keeps s (s.updateRecord n fun r => { r with passed := { r.passed with bladeLine := true } }) :=
      keeps_updateRecord s fun _ => rfl
    dsimp only
    split
    · exact hmark
    · exact (hmark.trans (keeps_failPlan _ n _ _)).trans (keeps_withdraw _ n)

theorem keeps_trailingEvent (l : Lane) (n : Nat) : Keeps s (s.trailingEvent l n) := by
  unfold State.trailingEvent
  split
  · exact .refl s
  · have hmark : Keeps s (s.updateRecord n fun r => { r with passed := { r.passed with trailing := true } }) :=
      keeps_updateRecord s fun _ => rfl
    exact .ite (fun _ => hmark.trans (keeps_updateRecord _ becomeSliced_id)) fun _ => hmark

/-- R32: a record counted out and taken from its queue. -/
theorem keeps_counted_dequeue {r : LoafRecord} {s u : State} {l : Lane} {n : Nat} (hc : CountsOut r s u) (hr : s.queued l n = some r) :
    Keeps s (u.dequeue l n) := by
  obtain ⟨hmem, rfl⟩ := queued_mem hr
  refine ⟨⟨(countsOut_core hc).trans (keepsCore_dequeue u l _), fun hb => ?_⟩, fun hs => causesRest_of_view hc.rest hs⟩
  obtain ⟨-, hlen, hnd, hempty, -, -⟩ := (booksKept_iff s).mp hb
  have hlanes : (u.dequeue l r.number).lanes = (s.dequeue l r.number).lanes := by simp [State.dequeue, hc.lanes]
  refine booksKept_of_removed hc hb ?_ (fun k => ?_) (hc.router ▸ hnd) ?_ rfl rfl
  · have hheld : (u.dequeue l r.number).held = (s.dequeue l r.number).held := by
      simp only [State.held, hlanes]
      simp [State.dequeue, hc.heads]
    rw [State.ids.eq_1 (u.dequeue l r.number), hheld]
    exact ids_dequeue hb hmem
  · rw [hlanes]; exact dequeue_length l k _ s
  · intro h hh
    have hh : h ∈ s.router.idleOrder := hc.router ▸ hh
    have := hempty h hh
    rwa [← hc.heads] at this

theorem dropCuts_figures (n : Nat) (x : Slicer) (hx : x.InRange) : (x.dropCuts n).InRange := hx

theorem keeps_rejectGateEvent (l : Lane) (n : Nat) : Keeps s (s.rejectGateEvent l n) := by
  unfold State.rejectGateEvent
  split
  · exact .refl s
  · rename_i r hr
    split
    · exact keeps_updateRecord s fun _ => rfl
    · rename_i reason _
      refine .trans ?_ (keeps_report _ _ _ _ _)
      refine .trans ?_ (keeps_modSlicer l _ (dropCuts_figures n _))
      have hlane : Keeps s (s.modLane l fun q => { q with diverter := some Limits.diverterMs }) := keeps_modLane l s
      refine hlane.trans (keeps_counted_dequeue (countsOut_countRejected r reason _) ?_)
      simpa [State.queued] using hr

theorem keeps_endSlicing (l : Lane) (r : LoafRecord) : Keeps s (s.endSlicing l r) := by
  have hslice : Keeps s ((s.modSlicer l (Slicer.dropCuts r.number)).updateRecord r.number fun x =>
      { (if (s.slicers.get l).hasCutsLeft r.number then x.miscut else x) with stage := .sliced }) :=
    (keeps_modSlicer l s (dropCuts_figures _ _)).trans (keeps_updateRecord _ fun x => by split <;> rfl)
  unfold State.endSlicing
  split
  · exact hslice
  · exact hslice
  all_goals exact .refl s

theorem keeps_routerGateEvent (l : Lane) (n : Nat) : Keeps s (s.routerGateEvent l n) := by
  unfold State.routerGateEvent
  split
  · exact .refl s
  · rename_i r _
    have hmark : Keeps s (s.updateRecord n fun r => { r with passed := { r.passed with routerGate := true } }) :=
      keeps_updateRecord s fun _ => rfl
    have hend := hmark.trans (keeps_endSlicing _ l r)
    refine .ite (fun _ => ?_) fun _ => hend.trans (keeps_modLane l _)
    refine .trans ?_ (keeps_attemptReleases _)
    refine .trans ?_ (keeps_router _ rfl)
    exact hend.trans (keeps_updateRecord _ fun _ => rfl)

theorem keeps_positionalEvent (e : Positional) (l : Lane) (n : Nat) : Keeps s (s.positionalEvent e l n) := by
  cases e
  · exact keeps_bladeLineEvent s l n
  · exact keeps_trailingEvent s l n
  · exact keeps_rejectGateEvent s l n
  · exact keeps_routerGateEvent s l n

theorem keeps_reach (e : Positional) (l : Lane) (n : Nat) : Keeps s (s.reach e l n) := by
  unfold State.reach
  split
  · exact .refl s
  · exact .ite (fun _ => ((keeps_advanceTo s l _).trans (keeps_positionalEvent _ e l n)).trans (keeps_finish _ _ _)) fun _ => .refl s

theorem keeps_takeReached (l : Lane) (r : LoafRecord) (e : Positional) : Keeps s (s.takeReached l r e) := by
  unfold State.takeReached
  exact .ite (fun _ => keeps_positionalEvent s e l _) fun _ => .refl s

end

end Sys2Proof.Machine
end

section
/-! Admission (R24 to R27) and the infeed gauge keep the five properties. -/

namespace Sys2Proof.Machine

/-! ### The number an admission gives (R26) -/

theorem nextNumber_range (n : Nat) : 1 ≤ nextNumber n ∧ nextNumber n ≤ 65535 := by
  unfold nextNumber Limits.numberMax; split <;> omega

/-- R26: the numbers go round 1 to 65535. -/
theorem nextNumber_iterate {n : Nat} (h1 : 1 ≤ n) (h2 : n ≤ 65535) (j : Nat) : nextNumber^[j] n = (n - 1 + j) % 65535 + 1 := by
  induction j with
  | zero => simp; omega
  | succ j ih => rw [Function.iterate_succ_apply', ih, nextNumber, Limits.numberMax]; split <;> omega

theorem freeNumber_range (held : List Nat) : ∀ (k n : Nat), 1 ≤ n → n ≤ 65535 → 1 ≤ freeNumber held k n ∧ freeNumber held k n ≤ 65535
  | 0, n, h1, h2 => ⟨h1, h2⟩
  | k + 1, n, h1, h2 => by
    unfold freeNumber
    split
    · exact freeNumber_range held k _ (nextNumber_range n).1 (nextNumber_range n).2
    · exact ⟨h1, h2⟩

/-- R26: the search ends at a held number only if every number it tries is held. -/
theorem freeNumber_mem {held : List Nat} : ∀ (k n : Nat), freeNumber held k n ∈ held → ∀ j ≤ k, nextNumber^[j] n ∈ held
  | 0, n, h, j, hj => by
    obtain rfl := Nat.le_zero.mp hj
    exact h
  | k + 1, n, h, j, hj => by
    unfold freeNumber at h
    split at h
    · rename_i hn
      have hn : n ∈ held := by simpa using hn
      cases j with
      | zero => exact hn
      | succ j =>
        rw [Function.iterate_succ_apply]
        exact freeNumber_mem k (nextNumber n) h j (Nat.le_of_succ_le_succ hj)
    · rename_i hn; exact absurd h (by simpa using hn)

/-- R26: with fewer held records than numbers the search finds a free one. -/
theorem freeNumber_not_mem {held : List Nat} {n : Nat} (h1 : 1 ≤ n) (h2 : n ≤ 65535) (hl : held.length + 1 < 65535) :
    freeNumber held (held.length + 1) n ∉ held := by
  intro hmem
  have hall := freeNumber_mem _ _ hmem
  have hsub : (Finset.range (held.length + 2)).image (fun j => nextNumber^[j] n) ⊆ held.toFinset := by
    intro x hx
    obtain ⟨j, hj, rfl⟩ := Finset.mem_image.mp hx
    exact List.mem_toFinset.mpr (hall j (Nat.le_of_lt_succ (Finset.mem_range.mp hj)))
  have hinj : Set.InjOn (fun j => nextNumber^[j] n) (Finset.range (held.length + 2)) := by
    intro i hi j hj hij
    have hi := Finset.mem_range.mp (Finset.mem_coe.mp hi)
    have hj := Finset.mem_range.mp (Finset.mem_coe.mp hj)
    simp only [nextNumber_iterate h1 h2] at hij
    omega
  have hcard := Finset.card_le_card hsub
  rw [Finset.card_image_of_injOn hinj, Finset.card_range] at hcard
  have := held.toFinset_card_le
  omega

theorem nextLoaf_range (s : State) : 1 ≤ s.nextLoaf ∧ s.nextLoaf ≤ 65535 :=
  freeNumber_range _ _ _ (nextNumber_range _).1 (nextNumber_range _).2

theorem held_length_le {s : State} (h : s.BooksKept) : s.held.length ≤ 50 := by
  obtain ⟨-, hlen, -⟩ := (booksKept_iff s).mp h
  have ha := hlen .a
  have hb := hlen .b
  have hhead : ∀ x : Option LoafRecord, x.toList.length ≤ 1 := fun x => by cases x <;> simp
  have h1 := hhead s.heads.one.record
  have h2 := hhead s.heads.two.record
  simp only [State.held, List.length_append, PerLane.get] at *
  omega

/-- R26: the number given is carried by no held record. -/
theorem nextLoaf_not_held {s : State} (h : s.BooksKept) : s.nextLoaf ∉ s.held.map LoafRecord.number := by
  have hl := held_length_le h
  have hfree := freeNumber_not_mem (held := s.held.map LoafRecord.number) (nextNumber_range s.lastLoaf).1 (nextNumber_range s.lastLoaf).2
    (by simp; omega)
  simpa [State.nextLoaf] using hfree

/-! ### Admission -/

section
variable (s : State)

/-- R27 steps 1 to 4: the record joins its queue and its plan request is issued. -/
def State.admitted (l : Lane) (lead : Quad) (highest : Nat) (p : ProductIx) (span : Nat) (s : State) : State :=
  let u := ({ s with lastLoaf := s.nextLoaf }.countAdmitted p).modLane l fun q =>
    { q with queue := q.queue ++ [(s.lanes.get l).newRecord l s.nextLoaf lead highest p span] }
  { u with planner := { u.planner with issued := u.planner.issued ++ [⟨l, s.nextLoaf, false⟩] } }

theorem admitLoaf_eq (l : Lane) (lead : Quad) (highest : Nat) (p : ProductIx) (span : Nat) : s.admitLoaf l lead highest p span =
    (Positional.inOrder ((s.admitted l lead highest p span).lanes.get l).geometry
      ((s.lanes.get l).newRecord l s.nextLoaf lead highest p span)).foldl
      (State.takeReached l ((s.lanes.get l).newRecord l s.nextLoaf lead highest p span)) (s.admitted l lead highest p span) := rfl

theorem ids_append (l : Lane) (r : LoafRecord) : (s.modLane l fun q => { q with queue := q.queue ++ [r] }).ids.Perm (r.id :: s.ids) := by
  have h1 := ids_perm_beside l (s.modLane l fun q => { q with queue := q.queue ++ [r] })
  have h2 := ids_perm_beside l s
  have hbeside : (s.modLane l fun q => { q with queue := q.queue ++ [r] }).idsBeside l = s.idsBeside l := by
    simp [State.idsBeside, PerLane.get_set_ne _ _ (otherLane_ne l)]
  rw [hbeside] at h1
  refine h1.trans (.trans ?_ (h2.symm.cons _))
  simp only [State.modLane_lanes, PerLane.get_set, List.map_append, List.map_cons, List.map_nil]
  rw [← List.cons_append]
  exact (List.perm_append_comm (l₂ := [r.id])).append_right _

theorem admitted_ids (l : Lane) (lead : Quad) (highest : Nat) (p : ProductIx) (span : Nat) :
    (s.admitted l lead highest p span).ids.Perm ((s.nextLoaf, p) :: s.ids) := by
  have h := ids_append ({ s with lastLoaf := s.nextLoaf }.countAdmitted p) l ((s.lanes.get l).newRecord l s.nextLoaf lead highest p span)
  have hheld : ({ s with lastLoaf := s.nextLoaf }.countAdmitted p).ids = s.ids := by simp [State.ids, State.held]
  rw [hheld] at h
  exact h

theorem admitted_lanes (l : Lane) (lead : Quad) (highest : Nat) (p : ProductIx) (span : Nat) :
    (s.admitted l lead highest p span).lanes = s.lanes.set l { s.lanes.get l with
      queue := (s.lanes.get l).queue ++ [(s.lanes.get l).newRecord l s.nextLoaf lead highest p span] } := by
  simp [State.admitted]

/-- R27: the loaf is counted and held. -/
theorem keeps_admitted {l : Lane} (lead : Quad) (highest : Nat) {p : ProductIx} (span : Nat)
    (hroom : (s.lanes.get l).queue.length < 24) (hp : s.ProductsDefined → s.products[p].isSome = true) :
    Keeps s (s.admitted l lead highest p span) := by
  have hids := admitted_ids s l lead highest p span
  have hlanes := admitted_lanes s l lead highest p span
  have hother : (s.admitted l lead highest p span).products = s.products ∧ (s.admitted l lead highest p span).assign = s.assign ∧
      (s.admitted l lead highest p span).router = s.router ∧ (s.admitted l lead highest p span).heads = s.heads := by
    simp [State.admitted]
  obtain ⟨hproducts, hassign, hrouter, hheads⟩ := hother
  refine ⟨⟨⟨airOrdered_of_view (by simp [State.airView, State.admitted]), fun h => ?products, figures_imp fun k => ?figures⟩, fun h => ?books⟩,
    causesRest_of_view (by simp [State.restView, State.admitted])⟩
  case products =>
    have hdef := hp h
    obtain ⟨hact, hpend, hspan, hheld⟩ := h
    rw [forall_held_product (P := fun p => s.products[p].isSome = true)] at hheld
    refine ⟨by simpa [hproducts, hassign] using hact, by simpa [hproducts, hassign] using hpend, ?_, ?_⟩
    · rw [hproducts, hlanes]
      exact PerLane.forall_set (P := fun q : LaneState => ∀ p, q.window.product = some p → s.products[p].isSome = true) hspan (hspan l)
    · rw [forall_held_product (P := fun q => (s.admitted l lead highest p span).products[q].isSome = true), hproducts]
      intro x hx
      obtain rfl | hx := List.mem_cons.mp (hids.subset hx)
      · exact hdef
      · exact hheld x hx
  case figures =>
    have hc : FiguresKept ({ s with lastLoaf := s.nextLoaf }.countAdmitted p) :=
      countLoaf_figures _ _ _ _ { k with lastLoaf := (nextLoaf_range s).2 }
    unfold State.admitted
    generalize ({ s with lastLoaf := s.nextLoaf }.countAdmitted p) = u at hc
    exact { hc with geometry := PerLane.forall_set (P := fun q : LaneState => q.geometry.InRange) hc.geometry (hc.geometry l) }
  case books =>
    have hfree := nextLoaf_not_held h
    obtain ⟨hnum, hlen, hnd, hempty, hbal, hsnap⟩ := (booksKept_iff s).mp h
    have hcount := countLoaf_books { s with lastLoaf := s.nextLoaf } p (fun t => full32 t.admitted) (i := 1) (o := 0)
      (bump := fun t => { t with admitted := t.admitted + 1 }) (fun t => by simp only [ProductTotals.ins]; omega) (fun _ => rfl) hbal hsnap
    refine booksKept_of_perm hids ?_ ?_ (hrouter ▸ hnd) (hrouter ▸ hheads ▸ hempty) (fun q => ?_) hcount.2
    · rw [held_numbers] at hfree
      exact List.nodup_cons.mpr ⟨hfree, hnum⟩
    · rw [hlanes]
      refine PerLane.forall_set (P := fun q : LaneState => q.queue.length ≤ 24) hlen ?_
      simp; omega
    · have hq := hcount.1 q
      rw [countOf_cons, ← inFlight_eq_countOf]
      simp only [ite_self, Nat.add_zero] at hq
      rw [Nat.add_assoc] at hq
      exact hq

theorem keeps_admitLoaf {l : Lane} (lead : Quad) (highest : Nat) {p : ProductIx} (span : Nat)
    (hroom : (s.lanes.get l).queue.length < 24) (hp : s.ProductsDefined → s.products[p].isSome = true) :
    Keeps s (s.admitLoaf l lead highest p span) := by
  rw [admitLoaf_eq]
  exact (keeps_admitted s lead highest span hroom hp).trans (.foldl (fun t e => keeps_takeReached t l _ e) _ _)

/-! ### The infeed gauge -/

/-- R11: the window opens with a product that the lane's assignment names. -/
theorem keeps_openSpan {l : Lane} {lead : Quad} {highest : Nat} {x : Option ProductIx}
    (hx : s.ProductsDefined → ∀ p, x = some p → s.products[p].isSome = true) :
    Keeps s (s.modLane l fun q => { q with window := .span lead highest x }) := by
  have hplaces := modLane_places l s (f := fun q => { q with window := .span lead highest x })
  refine ⟨⟨⟨airOrdered_of_view rfl, fun h => ?_, figuresInRange_of_view (by cases l <;> rfl) rfl⟩, booksKept_of_view hplaces rfl⟩, causesRest_of_view rfl⟩
  have hdef := hx h
  obtain ⟨hact, hpend, hspan, hheld⟩ := h
  refine ⟨hact, hpend, PerLane.forall_set (P := fun q : LaneState => ∀ p, q.window.product = some p → s.products[p].isSome = true) hspan hdef, ?_⟩
  change ∀ r ∈ _, s.products[LoafRecord.product r].isSome = true
  rw [forall_held_product (P := fun p => s.products[p].isSome = true)] at hheld ⊢
  rwa [ids_of_places hplaces]

/-- A window without a product. -/
theorem keeps_closeSpan {l : Lane} {f : LaneState → LaneState} (hq : (f (s.lanes.get l)).queue = (s.lanes.get l).queue)
    (hg : ∀ q, (f q).geometry = q.geometry) (hw : ∀ q, (f q).window.product = none) : Keeps s (s.modLane l f) := by
  have hplaces := modLane_places l s hq
  refine ⟨⟨⟨airOrdered_of_view rfl, fun h => ?_, ?_⟩, booksKept_of_view hplaces rfl⟩, causesRest_of_view rfl⟩
  · obtain ⟨hact, hpend, hspan, hheld⟩ := h
    refine ⟨hact, hpend, PerLane.forall_set (P := fun q : LaneState => ∀ p, q.window.product = some p → s.products[p].isSome = true) hspan
      (by simp [hw]), ?_⟩
    change ∀ r ∈ _, s.products[LoafRecord.product r].isSome = true
    rw [forall_held_product (P := fun p => s.products[p].isSome = true)] at hheld ⊢
    rwa [ids_of_places hplaces]
  · exact figuresInRange_of_view (by cases l <;> simp [State.stationFigures, PerLane.set, PerLane.get, hg]) rfl

/-- A lane's assignment, of products that are DEFINED. -/
theorem keeps_modAssign {l : Lane} {f : Assignment → Assignment}
    (ha : s.ProductsDefined → (∀ p, (f (s.assign.get l)).active = some p → s.products[p].isSome = true) ∧
      ∀ p, (f (s.assign.get l)).pending = some (some p) → s.products[p].isSome = true) : Keeps s (s.modAssign l f) := by
  refine ⟨⟨⟨airOrdered_of_view rfl, fun h => ?_, figuresInRange_of_view rfl rfl⟩, booksKept_of_view rfl rfl⟩, causesRest_of_view rfl⟩
  have hnew := ha h
  obtain ⟨hact, hpend, hspan, hheld⟩ := h
  exact ⟨PerLane.forall_set (P := fun x : Assignment => ∀ p, x.active = some p → s.products[p].isSome = true) hact hnew.1,
    PerLane.forall_set (P := fun x : Assignment => ∀ p, x.pending = some (some p) → s.products[p].isSome = true) hpend hnew.2, hspan, hheld⟩

/-- R11: what settles was named before. -/
theorem settled_named (a : Assignment) {P : ProductIx → Prop} (ha : ∀ p, a.active = some p → P p) (hp : ∀ p, a.pending = some (some p) → P p) :
    (∀ p, a.settled.active = some p → P p) ∧ (∀ p, a.settled.pending = some (some p) → P p) ∧ ∀ p, a.fixed = some p → P p := by
  obtain ⟨act, pend⟩ := a
  rcases pend with _ | _ | q <;> simp_all [Assignment.settled, Assignment.fixed]

/-- R11, R19: the window opens and the lane's products settle, with a notice where the active product changed. -/
def State.spanOpened (l : Lane) (beams : BitVec 48) (s : State) : State :=
  let a := s.assign.get l
  let u := (s.modLane l fun q => { q with window := .span q.position (highestBeam beams) a.fixed }).modAssign l Assignment.settled
  if a.settled.active = a.active then u else u.notify (.productActive l a.active a.settled.active)

theorem leadingEdgeEvent_eq (l : Lane) (beams : BitVec 48) : s.leadingEdgeEvent l beams =
    if (s.crumb.get l).step = .purging then (s.spanOpened l beams).settlePurge l .leadingEdge else s.spanOpened l beams := by
  unfold State.leadingEdgeEvent State.spanOpened
  dsimp only
  split <;> rfl

theorem spanOpened_crumb (l : Lane) (beams : BitVec 48) : (s.spanOpened l beams).crumb = s.crumb := by
  unfold State.spanOpened; dsimp only; split <;> rfl

theorem keeps_spanOpened (l : Lane) (beams : BitVec 48) : Keeps s (s.spanOpened l beams) := by
  unfold State.spanOpened
  have hopen : Keeps s (s.modLane l fun q => { q with window := .span q.position (highestBeam beams) (s.assign.get l).fixed }) := by
    have h := keeps_openSpan s (l := l) (lead := (s.lanes.get l).position) (highest := highestBeam beams) (x := (s.assign.get l).fixed)
      fun ⟨hact, hpend, _⟩ => (settled_named _ (hact l) (hpend l)).2.2
    cases l <;> exact h
  have hsettle := hopen.trans (keeps_modAssign _ (l := l) (f := Assignment.settled) fun ⟨hact, hpend, _⟩ =>
    have h := settled_named _ (hact l) (hpend l)
    ⟨h.1, h.2.1⟩)
  exact .ite (fun _ => hsettle) fun _ => hsettle.trans (keeps_notify _ _)

theorem keeps_leadingEdgeEvent (l : Lane) (beams : BitVec 48) : Keeps s (s.leadingEdgeEvent l beams) := by
  rw [leadingEdgeEvent_eq]
  refine .ite (fun hstep => ?_) fun _ => keeps_spanOpened s l beams
  exact (keeps_spanOpened s l beams).trans (keeps_settlePurge l _ _ (by rwa [spanOpened_crumb]))

theorem keeps_setCurtain (l : Lane) (beams : BitVec 48) : Keeps s (s.setCurtain l beams) := .of_views

theorem keeps_closeWindow (l : Lane) : Keeps s (s.closeWindow l) := by
  unfold State.closeWindow
  exact keeps_closeSpan s rfl (fun _ => rfl) fun _ => rfl

theorem seen_window (l : Lane) (travel : Quad) (beams : BitVec 48) (k : Lane) :
    (((s.travel l travel).setCurtain l beams).lanes.get k).window = (s.lanes.get k).window := by
  have hlanes : ((s.travel l travel).setCurtain l beams).lanes = (s.travel l travel).lanes := rfl
  rw [hlanes, State.travel]
  split
  · cases l <;> cases k <;> rfl
  · rfl

theorem keeps_seen (l : Lane) (travel : Quad) (beams : BitVec 48) : Keeps s ((s.travel l travel).setCurtain l beams) :=
  (keeps_travel s l travel).trans (keeps_setCurtain _ l beams)

theorem keeps_beamsBlocked (l : Lane) (travel : Quad) (beams : BitVec 48) : Keeps s (s.beamsBlocked l travel beams) := by
  unfold State.beamsBlocked
  refine .ite (fun _ => .refl s) fun _ => ?_
  split
  · exact ((keeps_seen s l travel beams).trans (keeps_leadingEdgeEvent _ l beams)).trans (keeps_finish _ _ _)
  · rename_i lead highest x hw
    refine (keeps_seen s l travel beams).trans (keeps_openSpan _ fun ⟨_, _, hspan, _⟩ p hp => hspan l p ?_)
    rw [seen_window, hw]; exact hp
  · exact keeps_seen s l travel beams

theorem keeps_classifySpan {l : Lane} {lead : Quad} {highest : Nat} {product : Option ProductIx}
    (hw : (s.lanes.get l).window.product = product) : Keeps s (s.classifySpan l lead highest product) := by
  unfold State.classifySpan
  dsimp only
  split
  · exact keeps_modLaneTotals s l _
  · refine .ite (fun _ => keeps_modLaneTotals s l _) fun _ => .ite (fun _ => keeps_notify s _) fun hroom => ?_
    exact keeps_admitLoaf s lead highest _ (Nat.lt_of_not_le hroom) fun ⟨_, _, hspan, _⟩ => hspan l _ hw

theorem keeps_curtainClears (l : Lane) (travel : Quad) : Keeps s (s.curtainClears l travel) := by
  unfold State.curtainClears
  dsimp only
  have hseen := keeps_seen s l travel 0
  split
  · exact hseen
  · rename_i lead highest x hw
    refine ((hseen.trans (keeps_classifySpan _ ?_)).trans (keeps_closeWindow _ l)).trans (keeps_finish _ _ _)
    rw [seen_window, hw]; rfl
  · exact (hseen.trans (keeps_closeWindow _ l)).trans (keeps_finish _ _ _)

end

end Sys2Proof.Machine
end

section
/-! The slicers, the requests and the line: every owner of a request keeps the five properties. -/

namespace Sys2Proof.Machine

section
variable (s : State)

/-! ### Slicer stations -/

theorem keeps_holdCut (l : Lane) (c : Cut) : Keeps s (s.holdCut l c) := by
  unfold State.holdCut
  refine .trans ?_ (keeps_modLaneTotals _ l _)
  refine .trans ?_ (keeps_updateRecord _ fun _ => rfl)
  exact keeps_modSlicer l s id

theorem keeps_offerCut (l : Lane) (c : Cut) : Keeps s (s.offerCut l c) := by
  unfold State.offerCut
  split
  · exact keeps_startStroke l s c
  · exact .ite (fun _ => keeps_abandonLoaf l s _) fun _ => keeps_holdCut s l c
  · exact .ite (fun _ => keeps_abandonLoaf l s _) fun _ => keeps_holdCut s l c

theorem keeps_cutDue (l : Lane) : Keeps s (s.cutDue l) := by
  unfold State.cutDue
  split
  · exact .refl s
  · split
    · exact .refl s
    · refine .ite (fun _ => ?_) fun _ => .refl s
      refine .trans ?_ (keeps_finish _ _ _)
      refine .trans ?_ (keeps_offerCut _ l _)
      exact (keeps_advanceTo s l _).trans (keeps_modSlicer l _ id)

theorem satAdd_le (limit n k : Nat) : satAdd limit n k ≤ limit := Nat.min_le_left _ _

theorem keeps_countStroke (l : Lane) (c : Cut) : Keeps s (s.countStroke l c) := by
  unfold State.countStroke
  refine .trans ?_ (keeps_modProductTotals _ c.product)
  refine .trans ?_ (keeps_modLaneTotals _ l _)
  refine .trans ?_ (keeps_modCrumb l _ rfl fun ⟨_, hlow, horder, hhigh, hcount⟩ => ⟨satAdd_le _ _ _, hlow, horder, hhigh, hcount⟩)
  exact keeps_modSlicer l s fun ⟨_, hw⟩ => ⟨satAdd_le _ _ _, hw⟩

theorem keeps_completeStroke (l : Lane) (c : Cut) : Keeps s (s.completeStroke l c) := by
  unfold State.completeStroke
  refine .trans ?_ (keeps_freeBlade l _)
  refine .trans ?_ (keeps_trySliced l _ _)
  refine .trans ?_ (keeps_updateRecord _ fun _ => rfl)
  exact (keeps_countStroke s l c).trans (keeps_modSlicer l _ id)

theorem keeps_setBladeHome (l : Lane) (level : Bool) : Keeps s (s.setBladeHome l level) := .of_views

theorem keeps_bladeHomeRises (l : Lane) : Keeps s (s.bladeHomeRises l) := by
  unfold State.bladeHomeRises
  have hseen := keeps_setBladeHome s l true
  dsimp only
  split
  · exact hseen
  · exact (hseen.trans (keeps_completeStroke _ l _)).trans (keeps_finish _ _ _)
  · exact (hseen.trans (keeps_freeBlade l _)).trans (keeps_finish _ _ _)
  · exact hseen.trans (keeps_modSlicer l _ id)

theorem keeps_bladeHomeSeen (l : Lane) : Keeps s (s.bladeHomeSeen l) := .ite (fun _ => .refl s) fun _ => keeps_bladeHomeRises s l

theorem keeps_bladeHomeFalls (l : Lane) : Keeps s (s.bladeHomeFalls l) := by
  unfold State.bladeHomeFalls
  have hseen := keeps_setBladeHome s l false
  dsimp only
  split
  · have hhoming := hseen.trans (keeps_modSlicer l _ (f := fun sl => { sl with blade := .homing false }) id)
    exact .ite (fun _ => hhoming.trans (keeps_startHoming l _)) fun _ => hhoming
  · exact hseen
  · exact hseen

theorem keeps_slicerTimeout (l : Lane) : Keeps s (s.slicerTimeout l) := by
  have habandon : Keeps s (s.timeoutAbandons l) := (keeps_abandonStroke l s).trans (keeps_purgeTests _ _ _)
  exact (habandon.trans (keeps_raiseJam _ _)).trans (keeps_finish _ _ _)

/-! ### Crumb clearing -/

theorem keeps_giveUpPurge (l : Lane) : Keeps s (s.giveUpPurge l) :=
  (keeps_crumb_air l s (f := fun c => { c.goTo .watching with phase := none, holdOff := some Limits.holdOffMs }) (a := s.air.release l)
    (airOrdered_of_release (step_other l _ _) rfl (by simp [CrumbStep.inCycle])) fun h => goTo_inRange _ h).trans (keeps_notify _ _)

theorem keeps_completePurge (l : Lane) : Keeps s (s.completePurge l) := by
  let f : Crumb → Crumb := fun c => { c.goTo .watching with
    phase := none, manual := false, load := 0, count := satAdd Limits.purgeCountMax (s.crumb.get l).count 1 }
  have heq : s.completePurge l = ({ s.modCrumb l f with air := s.air.release l }.notify
      (.purgeDone l (s.crumb.get l).load (satAdd Limits.purgeCountMax (s.crumb.get l).count 1) (s.crumb.get l).ended)).modLaneTotals l fun t =>
        { t with purges := satAdd Limits.max32 t.purges 1 } := by
    cases l <;> rfl
  rw [heq]
  refine .trans ?_ (keeps_modLaneTotals _ l _)
  refine .trans ?_ (keeps_notify _ _)
  refine keeps_crumb_air l s (airOrdered_of_release (step_other l _ _) rfl (by simp [f, CrumbStep.inCycle])) fun h => ?_
  obtain ⟨-, hlow, horder, hhigh, -⟩ := goTo_inRange .watching h
  exact ⟨Nat.zero_le _, hlow, horder, hhigh, satAdd_le _ _ _⟩

theorem keeps_purgeStop (l : Lane) : Keeps s (s.purgeStop l) := by
  unfold State.purgeStop
  split
  · exact keeps_withdrawPurge l s
  · exact keeps_settlePurge l s _ ‹_›
  all_goals exact .refl s

/-- R143: a manual purge takes the air that the other lane does not hold. -/
theorem keeps_beginManual (l : Lane) (hair : s.air.holder ≠ some (otherLane l)) : Keeps s (s.beginManual l) := by
  refine keeps_crumb_air l s (f := fun c => { c.goTo .purging with manual := true }) (fun h => ?_) fun h => goTo_inRange _ h
  have hstep : (({ s.modCrumb l fun c => { c.goTo .purging with manual := true } with air := s.air.request l } : State).crumb.get l).step =
      .purging := by simp
  have hother : (({ s.modCrumb l fun c => { c.goTo .purging with manual := true } with air := s.air.request l } : State).crumb.get
      (otherLane l)).step = (s.crumb.get (otherLane l)).step := step_other l _ _
  rw [airOrdered_iff l] at h ⊢
  rw [hstep, hother]
  have hlane := lane_eq_or
  have hne := otherLane_ne l
  simp only [Air.request]
  cases hh : s.air.holder with
  | none => grind [CrumbStep.inCycle]
  | some k => obtain rfl | rfl := lane_eq_or k l <;> grind [CrumbStep.inCycle]

theorem setMode_keeps (l : Lane) (m : CrumbMode) (hs : (s.crumb.get l).step.inCycle = false) : Keeps s (s.modCrumb l (Crumb.setMode m)) := by
  refine keeps_crumb_air l s (f := Crumb.setMode m) (a := s.air)
    (airOrdered_of_rest (l := l) (step_other l _ _) rfl hs ?_) fun h => goTo_inRange _ h
  simp [Crumb.setMode]

/-- A controller's figures in their ranges, the low threshold not yet held against the high one. -/
def Crumb.Ranged (c : Crumb) : Prop :=
  c.load ≤ Limits.max24 ∧ 1 ≤ c.tLow ∧ 1 ≤ c.tHigh ∧ c.tHigh ≤ Limits.max24 ∧ c.count ≤ Limits.purgeCountMax

theorem crumb_apply_ranged {p : Setting} {c : Crumb} (hp : crumbPairOk p = true) (hc : c.Ranged) : (c.apply p).Ranged := by
  unfold Crumb.apply crumbPairOk Crumb.Ranged at *
  split at hp <;> simp_all [inRange, Limits.max24]

/-- R132: every pair in its range, the low threshold clamped to the high one. -/
theorem withPairs_inRange {pairs : List Setting} (hp : ∀ p ∈ pairs, crumbPairOk p = true) {c : Crumb} (h : c.InRange) :
    (c.withPairs pairs).InRange := by
  obtain ⟨hload, hlow, horder, hhigh, hcount⟩ := h
  obtain ⟨hload, hlow, hone, hhigh, hcount⟩ := List.foldlRecOn (motive := Crumb.Ranged) pairs Crumb.apply
    ⟨hload, hlow, hlow.trans horder, hhigh, hcount⟩ fun c hc p hmem => crumb_apply_ranged (hp p hmem) hc
  exact ⟨hload, le_min hlow hone, Nat.min_le_right _ _, hhigh, hcount⟩

theorem crumb_withPairs_step (pairs : List Setting) (c : Crumb) : (c.withPairs pairs).step = c.step := by
  have hone : ∀ (c : Crumb) (p : Setting), (c.apply p).step = c.step := fun c p => by unfold Crumb.apply; split <;> rfl
  exact foldl_keeps Crumb.step Crumb.apply hone pairs c

/-! ### Lane settings -/

/-- The six settings in their ranges, the three distances not yet held against each other. -/
def Geometry.Ranged (g : Geometry) : Prop :=
  (500 ≤ g.dBlade ∧ g.dBlade ≤ 20000) ∧ (501 ≤ g.dReject ∧ g.dReject ≤ 30000) ∧ (502 ≤ g.dRouter ∧ g.dRouter ≤ 40000) ∧
  g.minGap ≤ 2000 ∧ (10 ≤ g.debrisLen ∧ g.debrisLen ≤ 500) ∧ (10 ≤ g.beamPitch ∧ g.beamPitch ≤ 60)

theorem geometry_apply_ranged {p : Setting} {g : Geometry} (hp : geometryPairOk p = true) (hg : g.Ranged) : (g.apply p).Ranged := by
  unfold Geometry.apply geometryPairOk Geometry.Ranged at *
  split at hp <;> simp_all [inRange]

/-- R16: an accepted list leaves every setting in its range and the three distances in order. -/
theorem geometry_withPairs_inRange {pairs : List Setting} {g g' : Geometry} (h : g.withPairs pairs = some g') (hg : g.InRange) : g'.InRange := by
  unfold Geometry.withPairs at h
  split at h
  · rename_i hok
    obtain rfl := Option.some.inj h
    simp only [Bool.and_eq_true, List.all_eq_true, Geometry.ordered, decide_eq_true_eq] at hok
    obtain ⟨⟨-, hp⟩, horder⟩ := hok
    obtain ⟨hb, hr, ho, hm, hd, hbp, -⟩ := hg
    obtain ⟨hb, hr, ho, hm, hd, hbp⟩ := List.foldlRecOn (motive := Geometry.Ranged) pairs Geometry.apply
      ⟨hb, hr, ho, hm, hd, hbp⟩ fun g hg p hmem => geometry_apply_ranged (hp p hmem) hg
    exact ⟨hb, hr, ho, hm, hd, hbp, horder⟩
  · cases h

end

end Sys2Proof.Machine
end

section
/-! Line Control's requests: what START, RESUME and CLEAR do keeps the five properties. A line clear counts each record before
it leaves its queue (R39), so the books are read record by record. -/

namespace Sys2Proof.Machine

section
variable (s : State)

/-! ### START and RESUME -/

theorem keeps_homeBlades : Keeps s s.homeBlades := (keeps_startHoming .a s).trans (keeps_startHoming .b _)

theorem keeps_abortManual (l : Lane) : Keeps s (s.abortManual l) := .ite (fun _ => keeps_abortPurge l s false) fun _ => .refl s

theorem keeps_takeSingle (l : Lane) : Keeps s (s.takeSingle l) := by
  unfold State.takeSingle
  exact .ite (fun _ => (keeps_enterGapWait l s).trans (keeps_modCrumb l _ rfl id)) fun _ => .refl s

theorem keeps_crumbsRun : Keeps s s.crumbsRun :=
  (((((keeps_abortManual s .a).trans (keeps_abortManual _ .b)).trans (keeps_takeSingle _ .a)).trans (keeps_takeSingle _ .b)).trans
    (keeps_startTest .a _)).trans (keeps_startTest .b _)

/-- R157, R159: with no immediate cause present the line may run. -/
theorem keeps_setRunning (hi : s.immediateCausePresent = false) : Keeps s (s.setLine .running) :=
  keeps_setLine s fun _ h => absurd h (by simp [hi])

theorem keeps_startLine (hf : s.startForbidden = false) : Keeps s s.startLine := by
  have hi : s.immediateCausePresent = false := by simp_all [State.startForbidden]
  exact (((keeps_setRunning s hi).trans (keeps_homeBlades _)).trans (keeps_crumbsRun _)).trans (keeps_attemptReleases _)

theorem immediate_endHalt (hf : s.resumeForbidden = false) : s.endHalt.immediateCausePresent = false := by
  simp only [State.resumeForbidden, Bool.or_eq_false_iff] at hf
  obtain ⟨⟨he, hg⟩, hr⟩ := hf
  change (s.eStopPresent || s.guardOpenPresent || s.line.causes.repeatFault || false || false || false || false || false || false || false) = false
  simp [he, hg, hr]

theorem keeps_endHalt (hf : s.resumeForbidden = false) : Keeps s s.endHalt :=
  keeps_line s id fun h => absurd ((immediate_endHalt s hf).symm.trans h) (by simp)

theorem keeps_resumeLine (hi : s.immediateCausePresent = false) : Keeps s s.resumeLine :=
  (((((keeps_setRunning s hi).trans (keeps_homeBlades _)).trans (keeps_crumbsRun _)).trans (keeps_resumeHead .one _ _)).trans
    (keeps_resumeHead .two _ _)).trans (keeps_attemptReleases _)

theorem keeps_openWindow : Keeps s s.openWindow := by
  unfold State.openWindow
  have hwin : Keeps s (if s.moving then { s with line := { s.line with window := some Limits.resumeWindowMs } } else s) :=
    .ite (fun _ => keeps_line s id id) fun _ => .refl s
  refine .ite (fun ⟨hrun, _⟩ => hwin.trans (keeps_enterDraining _ ?_)) fun _ => hwin
  rw [State.moving, hrun]

/-! ### CLEAR -/

theorem queued_of_mem {s : State} (h : s.BooksKept) {l : Lane} {r : LoafRecord} (hr : r ∈ (s.lanes.get l).queue) :
    s.queued l r.number = some r := by
  have hnd := queue_numbers_nodup h l
  obtain ⟨x, hx⟩ : ∃ x, s.queued l r.number = some x := by
    cases hq : s.queued l r.number with
    | some x => exact ⟨x, rfl⟩
    | none => exact absurd (List.find?_eq_none.mp hq r hr) (by simp)
  obtain ⟨hmem, hnum⟩ := queued_mem hx
  rw [hx, List.inj_on_of_nodup_map hnd hmem hr hnum]

theorem clearRecord_lane (l : Lane) (r : LoafRecord) :
    ((s.clearRecord l r).lanes.get l).queue = (s.lanes.get l).queue.filter (fun x => x.number != r.number) := by
  have : (s.clearRecord l r).lanes = ((s.countCleared r).dequeue l r.number).lanes := by simp [State.clearRecord]
  rw [this, dequeue_queue]
  simp

theorem keepsCore_clearRecord (l : Lane) (r : LoafRecord) : KeepsCore s (s.clearRecord l r) :=
  ((countsOut_core (countsOut_countCleared r s)).trans (keepsCore_dequeue _ l _)).trans (keeps_report _ _ _ _ _).toKeepsCore

theorem books_clearRecord {l : Lane} {r : LoafRecord} (hr : r ∈ (s.lanes.get l).queue) (hb : s.BooksKept) : (s.clearRecord l r).BooksKept :=
  ((keeps_counted_dequeue (countsOut_countCleared r s) (queued_of_mem hb hr)).trans (keeps_report _ _ _ _ _)).books hb

/-- R39: each record of the queue is counted and removed while it still stands there. -/
theorem books_clearRecords (l : Lane) : ∀ (rs : List LoafRecord) (s : State), (rs.map LoafRecord.number).Nodup →
    rs ⊆ (s.lanes.get l).queue → s.BooksKept → (rs.foldl (State.clearRecord l) s).BooksKept
  | [], _, _, _, hb => hb
  | r :: rs, s, hnd, hsub, hb => by
    rw [List.map_cons, List.nodup_cons] at hnd
    refine books_clearRecords l rs _ hnd.2 (fun x hx => ?_) (books_clearRecord s (hsub (List.mem_cons_self ..)) hb)
    rw [clearRecord_lane, List.mem_filter]
    refine ⟨hsub (List.mem_cons_of_mem _ hx), ?_⟩
    simp only [bne_iff_ne]
    exact fun he => hnd.1 (he ▸ List.mem_map_of_mem hx)

theorem clearRecords_queue (l : Lane) : ∀ (rs : List LoafRecord) (s : State), ((rs.foldl (State.clearRecord l) s).lanes.get l).queue =
    (s.lanes.get l).queue.filter (fun x => rs.all fun r => x.number != r.number)
  | [], s => by simp
  | r :: rs, s => by
    rw [List.foldl_cons, clearRecords_queue l rs, clearRecord_lane, List.filter_filter]
    simp [Bool.and_comm]

theorem clearRecords_all (l : Lane) : ((((s.lanes.get l).queue.foldl (State.clearRecord l) s).lanes.get l).queue) = [] := by
  rw [clearRecords_queue, List.filter_eq_nil_iff]
  intro x hx
  simp only [List.all_eq_true, not_forall]
  exact ⟨x, hx, by simp⟩

theorem fromCurtain_product (beams : BitVec 48) : (Window.fromCurtain beams).product = none := by
  unfold Window.fromCurtain; split <;> rfl

theorem keeps_clearLane (l : Lane) : Keeps s (s.clearLane l) := by
  have hrest : ((s.lanes.get l).queue.foldl (State.clearRecord l) s).restView = s.restView :=
    foldl_keeps State.restView _ (fun t r => by simp [State.restView]) _ s
  have hrecords : Keeps s ((s.lanes.get l).queue.foldl (State.clearRecord l) s) :=
    ⟨⟨.foldl (fun t r => keepsCore_clearRecord t l r) _ s,
      fun hb => books_clearRecords l _ s (queue_numbers_nodup hb l) (fun _ => id) hb⟩, causesRest_of_view hrest⟩
  exact hrecords.trans (keeps_closeSpan _ (clearRecords_all s l).symm (fun _ => rfl) fun _ => fromCurtain_product _)

theorem keeps_clearLanes : Keeps s s.clearLanes := by
  unfold State.clearLanes
  refine .trans (.trans ((keeps_clearLane s .a).trans (keeps_clearLane _ .b)) (keeps_planner _ (p := Planner.withdrawAll _) fun hl => ?_))
    (keeps_router _ rfl)
  exact (List.length_filter_le _ _).trans hl

theorem keeps_clearSlicers : Keeps s s.clearSlicers := (keeps_modSlicer .a s id).trans (keeps_modSlicer .b _ id)

theorem keeps_clearTier (h : Head) : Keeps s (s.modTier h Tier.cleared) :=
  keeps_modTier h s fun ⟨hsum, hmax, _, _⟩ => ⟨hsum, hmax, Nat.le_refl 2, Nat.zero_le _⟩

theorem keeps_clearHeads : Keeps s s.clearHeads :=
  (((keeps_clearTier s .one).trans (keeps_clearHead .one _)).trans (keeps_clearTier _ .two)).trans (keeps_clearHead .two _)

theorem keeps_clearCrumbs : Keeps s s.clearCrumbs := by
  unfold State.clearCrumbs
  refine .trans ?_ (keeps_modCrumb .b _ rfl id)
  refine .trans ?_ (keeps_modCrumb .a _ rfl id)
  exact (keeps_abortPurge .a s true).trans (keeps_abortPurge .b _ true)

theorem keeps_disarmChains : Keeps s s.disarmChains :=
  keeps_watch s id fun _ p _ => by simp

theorem keeps_clearLine : Keeps s s.clearLine := by
  unfold State.clearLine
  have hcauses : Keeps s { s with line := { s.line with causes := EventCauses.none, latched := none, window := none } } := by
    refine keeps_line s id fun h => ?_
    have h : (s.eStopPresent || s.guardOpenPresent) = true := by
      simpa [State.immediateCausePresent, EventCauses.none, State.eStopPresent, State.guardOpenPresent] using h
    simp only [State.immediateCausePresent, h, Bool.true_or]
  exact .ite (fun _ => hcauses) fun _ => hcauses.trans (keeps_setLine _ fun _ _ => rfl)

theorem keeps_lineClear : Keeps s s.lineClear :=
  (((((keeps_clearLanes s).trans (keeps_clearSlicers _)).trans (keeps_clearHeads _)).trans (keeps_clearCrumbs _)).trans
    (keeps_disarmChains _)).trans (keeps_clearLine _)

end

end Sys2Proof.Machine
end

section
/-! Every request's owner, every event and a millisecond keep the five properties, so every step does (O5 to O9); the state after
reset has them (O4). -/

namespace Sys2Proof.Machine

section
variable (s : State)

/-! ### The owners of the requests -/

theorem keeps_onLane {b : Byte} {f : Lane → Served} (h : ∀ l, Keeps s (f l).state) : Keeps s (onLane b s f).state := by
  unfold onLane; split
  · exact .refl s
  · exact h _

theorem keeps_onHead {b : Byte} {f : Head → Served} (h : ∀ k, Keeps s (f k).state) : Keeps s (onHead b s f).state := by
  unfold onHead; split
  · exact .refl s
  · exact h _

theorem keeps_onProduct {b : Byte} {f : ProductIx → Served} (h : ∀ p, Keeps s (f p).state) : Keeps s (onProduct b s f).state := by
  unfold onProduct; split
  · exact .refl s
  · exact h _

theorem Keeps.ite_state {s : State} {a b : Served} {c : Prop} [Decidable c] (h : c → Keeps s a.state) (k : ¬ c → Keeps s b.state) :
    Keeps s (if c then a else b).state := by
  split
  · exact h ‹_›
  · exact k ‹_›

theorem keeps_setEntry_some (p : ProductIx) (e : ProductEntry) : Keeps s (s.setEntry p (some e)) := by
  have hp : ∀ q : ProductIx, s.products[q].isSome = true → (s.setEntry p (some e)).products[q].isSome = true := by
    intro q hq
    simp only [State.setEntry, Fin.getElem_fin, Vector.getElem_set]
    split
    · rfl
    · exact hq
  exact ⟨⟨⟨airOrdered_of_view rfl, productsDefined_of_view hp rfl fun _ => id, figuresInRange_of_view rfl rfl⟩,
    booksKept_of_view rfl rfl⟩, causesRest_of_view rfl⟩

theorem inUse_eq_false {p : ProductIx} (h : s.inUse p = false) : (∀ l, (s.assign.get l).active ≠ some p) ∧
    (∀ l, (s.assign.get l).pending ≠ some (some p)) ∧ (∀ l, (s.lanes.get l).window.product ≠ some p) ∧ ∀ r ∈ s.held, r.product ≠ p := by
  simp only [State.inUse, Bool.or_eq_false_iff, decide_eq_false_iff_not, List.any_eq_false, decide_eq_true_eq] at h
  obtain ⟨⟨⟨⟨⟨⟨ha, hb⟩, hpa⟩, hpb⟩, hwa⟩, hwb⟩, hheld⟩ := h
  exact ⟨forall_lane.mpr ⟨ha, hb⟩, forall_lane.mpr ⟨hpa, hpb⟩, forall_lane.mpr ⟨hwa, hwb⟩, hheld⟩

/-- R4: an entry that nothing names may be emptied. -/
theorem keeps_setEntry_none (p : ProductIx) (h : s.inUse p = false) : Keeps s (s.setEntry p none) := by
  obtain ⟨hact, hpend, hspan, hheld⟩ := inUse_eq_false s h
  have hp : ∀ q : ProductIx, q ≠ p → s.products[q].isSome = true → (s.setEntry p none).products[q].isSome = true := by
    intro q hne hq
    have hval : p.val ≠ q.val := fun he => hne (Fin.ext he.symm)
    simpa only [State.setEntry, Fin.getElem_fin, Vector.getElem_set, hval, if_false] using hq
  refine ⟨⟨⟨airOrdered_of_view rfl, fun ⟨h1, h2, h3, h4⟩ => ?_, figuresInRange_of_view rfl rfl⟩, booksKept_of_view rfl rfl⟩, causesRest_of_view rfl⟩
  exact ⟨fun l q hq => hp q (by rintro rfl; exact hact l hq) (h1 l q hq), fun l q hq => hp q (by rintro rfl; exact hpend l hq) (h2 l q hq),
    fun l q hq => hp q (by rintro rfl; exact hspan l hq) (h3 l q hq), fun r hr => hp _ (hheld r hr) (h4 r hr)⟩

theorem keeps_doAssignProduct (lane product : Byte) : Keeps s (doAssignProduct lane product s).state := by
  refine keeps_onLane s fun l => ?_
  dsimp only
  split
  · exact .refl s
  · rename_i x _
    refine .ite_state (fun hdef => ?_) fun _ => .refl s
    refine .trans (keeps_modAssign s (l := l) fun ⟨hact, hpend, _⟩ => ?_) (keeps_finish _ _ _)
    have hx : ∀ p, x = some p → s.products[p].isSome = true := by rintro p rfl; exact hdef
    unfold Assignment.order
    split
    · exact ⟨hx, fun p hp => by cases hp⟩
    · exact ⟨fun p hp => hact l p hp, fun p hp => hx p (Option.some.inj hp)⟩

theorem keeps_connectHead (h : Head) (src : Source) : Keeps s (s.connectHead h src) :=
  .ite (fun _ => keeps_giveSource h s src) fun _ => keeps_router s rfl

theorem keeps_connectAll (pairs : List (Head × Option Source)) : Keeps s (s.connectAll pairs) :=
  .foldl (fun t p => by
    unfold State.connectPair; split
    · exact keeps_connectHead t _ _
    · exact .refl t) _ s

theorem keeps_doConnect (first : SourcePair) (second : Option SourcePair) : Keeps s (doConnect first second s).state := by
  unfold doConnect
  split
  · exact .refl s
  · refine .ite_state (fun _ => ?_) fun _ => .refl s
    refine .trans ?_ (keeps_finish _ _ _)
    exact .ite (fun _ => (keeps_connectAll s _).trans (keeps_attemptReleases _)) fun _ => keeps_connectAll s _

theorem pairOf_secondEntry : ∀ p : Fin 2, pairOf (secondEntry p) = p := by decide

theorem keeps_doWriteWatch (entry : Byte) (fields : WatchBody) : Keeps s (doWriteWatch entry fields s).state := by
  unfold doWriteWatch
  split
  · exact .refl s
  · split
    · exact .refl s
    · rename_i i _ _ e _
      refine keeps_watch s id fun h p hp => ?_
      simp only [Watch.write, Fin.getElem_fin, Vector.getElem_set]
      by_cases hpair : pairOf i = p
      · simp [hpair]
      · have hval : (pairOf i).val ≠ p.val := fun he => hpair (Fin.ext he)
        rw [if_neg hval]
        refine h p ?_
        have hentry : i.val ≠ (secondEntry p).val := fun he => hpair (by rw [Fin.ext he, pairOf_secondEntry])
        simpa only [Watch.pairChained, Watch.write, Fin.getElem_fin, Vector.getElem_set, hentry, if_false] using hp

theorem learn_order_same (h : Head) (x : Learn) : Keeps s (s.modTier h fun t => { t with learn := x }) := keeps_modTier h s id

theorem keeps_doReloadMagazine (head : Byte) (count : Half) : Keeps s (doReloadMagazine head count s).state := by
  refine keeps_onHead s fun h => ?_
  refine .trans ?_ (keeps_finish _ _ _)
  have hreload : Keeps s (s.modTier h (Tier.reload (min count.toNat Limits.magazineMax))) :=
    keeps_modTier h s fun ⟨_, _, _, hstreak⟩ => ⟨Nat.add_zero _, Nat.min_le_right _ _, Nat.le_refl 2, hstreak⟩
  exact .ite (fun _ => hreload.trans (keeps_raise _ _)) fun _ => hreload

theorem keeps_setCheck (h : Head) (on : Bool) : Keeps s (s.modTier h (Tier.setCheck on)) :=
  keeps_modTier h s fun ⟨hsum, hmax, hwarm, hstreak⟩ => ⟨hsum, hmax, by unfold Tier.setCheck; dsimp only; split <;> simp [Limits.warmUpTies, hwarm], hstreak⟩

theorem keeps_doTieCheck (head setting : Byte) : Keeps s (doTieCheck head setting s).state := by
  unfold doTieCheck
  split
  · exact .foldl (fun t h => keeps_setCheck t h _) _ s
  · exact .refl s

theorem keeps_doHeadSettings (head : Byte) (pairs : List Setting) : Keeps s (doHeadSettings head pairs s).state := by
  refine keeps_onHead s fun h => .ite_state (fun _ => ?_) fun _ => .refl s
  have hset := keeps_modHead_same h s (f := fun x => { x with timeouts := pairs.foldl Timeouts.apply x.timeouts }) (fun _ => rfl) fun _ => rfl
  exact hset.trans .of_views

theorem keeps_doCrumbSettings (lane : Byte) (pairs : List Setting) : Keeps s (doCrumbSettings lane pairs s).state := by
  refine keeps_onLane s fun l => .ite_state (fun hok => ?_) fun _ => .refl s
  simp only [Bool.and_eq_true, List.all_eq_true] at hok
  exact .trans (keeps_modCrumb l s (crumb_withPairs_step pairs _) (withPairs_inRange hok.2)) (keeps_finish _ _ _)

theorem keeps_doSetCrumbMode (lane mode : Byte) : Keeps s (doSetCrumbMode lane mode s).state := by
  refine keeps_onLane s fun l => ?_
  split
  · exact .refl s
  · refine .ite_state (fun _ => .refl s) fun hcycle => .ite_state (fun _ => .refl s) fun _ => ?_
    exact .trans (setMode_keeps s l _ (by simpa using hcycle)) (keeps_finish _ _ _)

theorem keeps_doPurgeStart (lane : Byte) : Keeps s (doPurgeStart lane s).state := by
  refine keeps_onLane s fun l => ?_
  split
  · exact .refl s
  · exact .refl s
  · exact .ite_state (fun _ => .refl s) fun _ => .ite_state (fun _ => .refl s) fun _ => (keeps_enterGapWait l s).trans (keeps_finish _ _ _)
  · exact .ite_state (fun _ => .refl s) fun _ => .ite_state (fun _ => .refl s) fun _ => .ite_state (fun _ => .refl s) fun hair =>
      (keeps_beginManual s l hair).trans (keeps_finish _ _ _)

theorem keeps_doPurgeStop (lane : Byte) : Keeps s (doPurgeStop lane s).state := by
  refine keeps_onLane s fun l => ?_
  split
  · exact .refl s
  · exact .refl s
  · exact (keeps_purgeStop s l).trans (keeps_finish _ _ _)
  · exact (keeps_purgeStop s l).trans (keeps_finish _ _ _)

theorem keeps_doSinglePurge (lane : Byte) : Keeps s (doSinglePurge lane s).state := by
  refine keeps_onLane s fun l => .ite_state (fun _ => .refl s) fun _ => .ite_state (fun _ => .refl s) fun _ => .ite_state (fun _ => ?_) fun _ => ?_
  · exact (keeps_enterGapWait l s).trans (keeps_finish _ _ _)
  · exact keeps_modCrumb l s (f := fun x => { x with single := true }) rfl id

theorem keeps_doTrialPlan (lane : Byte) (length height : Half) (product : Byte) : Keeps s (doTrialPlan lane length height product s).state := by
  refine keeps_onLane s fun l => .ite_state (fun _ => keeps_onProduct s fun p => .ite_state (fun _ => .refl s) fun _ =>
    .ite_state (fun hroom => ?_) fun _ => .refl s) fun _ => .refl s
  exact keeps_enqueueRequest s _ hroom

theorem keeps_doSetSignature (index present : Byte) (value : Half) : Keeps s (doSetSignature index present value s).state := by
  refine keeps_onProduct s fun p => ?_
  split
  · exact .refl s
  · exact .ite_state (fun _ => .refl s) fun _ => .ite_state (fun _ => .refl s) fun _ => keeps_setExpected s p _

theorem keeps_doWriteProduct (index : Byte) (fields : ProductBody) (sig : Option Half) : Keeps s (doWriteProduct index fields sig s).state := by
  refine keeps_onProduct s fun p => ?_
  split
  · exact .refl s
  · exact .ite_state (fun _ => .refl s) fun _ => keeps_setEntry_some s p _

theorem keeps_doEraseProduct (index : Byte) : Keeps s (doEraseProduct index s).state :=
  keeps_onProduct s fun p => .ite_state (fun _ => .refl s) fun _ => .ite_state (fun _ => .refl s) fun h =>
    keeps_setEntry_none s p (by simpa using h)

theorem keeps_doStart : Keeps s (doStart s).state := by
  refine .ite_state (fun _ => .refl s) fun h => ?_
  simp only [not_or, Bool.not_eq_true] at h
  exact (keeps_startLine s h.2).trans (keeps_finish _ _ _)

theorem keeps_doResume : Keeps s (doResume s).state := by
  refine .ite_state (fun _ => .refl s) fun h => ?_
  simp only [not_or, Bool.not_eq_true] at h
  exact (((keeps_endHalt s h.2).trans (keeps_resumeLine _ (immediate_endHalt s h.2))).trans (keeps_openWindow _)).trans (keeps_finish _ _ _)

theorem keeps_doLaneSettings (lane : Byte) (pairs : List Setting) : Keeps s (doLaneSettings lane pairs s).state := by
  refine keeps_onLane s fun l => .ite_state (fun _ => ?_) fun _ => .refl s
  split
  · exact .refl s
  · rename_i g hg
    have hset : Keeps s (s.modLane l fun q => { q with geometry := g }) := by
      refine .of_figures (fun k => ?_) (hn := by cases l <;> rfl) (hi := modLane_places l s)
      have hgeo := PerLane.forall_set (l := l) (P := fun q : LaneState => q.geometry.InRange) (x := { s.lanes.get l with geometry := g })
        k.geometry (geometry_withPairs_inRange hg (k.geometry l))
      exact { k with geometry := hgeo }
    exact hset

/-- Each owner of a request keeps the five properties. -/
theorem keeps_serve (i : Instr) : Keeps s (serve i s).state := by
  cases i
  case readNotices tag count =>
    refine .ite_state (fun _ => keeps_notices s fun h => ?_) fun _ => .refl s
    simp only [List.length_drop]; omega
  case flushNotices => exact keeps_notices s fun _ => Nat.zero_le _
  case setNoticeClasses => exact keeps_notices s id
  case setLoafReports tag mode =>
    simp only [serve, doSetLoafReports]; split
    · exact .refl s
    · exact keeps_notices s id
  case start => exact keeps_doStart s
  case stop tag form =>
    simp only [serve, doStop]; split
    · exact .refl s
    · exact (keeps_raise s _).trans (keeps_finish _ _ _)
  case resume => exact keeps_doResume s
  case clear => exact .ite_state (fun _ => .refl s) fun _ => (keeps_lineClear s).trans (keeps_finish _ _ _)
  case readLineStatus => exact keeps_line s id id
  case writeProduct tag index p sig => exact keeps_doWriteProduct s index p sig
  case eraseProduct tag index => exact keeps_doEraseProduct s index
  case readProduct => exact keeps_onProduct s fun _ => .refl s
  case assignProduct tag lane product => exact keeps_doAssignProduct s lane product
  case writeDayCodes => exact .ite_state (fun _ => .of_views) fun _ => .refl s
  case laneSettings tag lane pairs => exact keeps_doLaneSettings s lane pairs
  case readLaneSettings => exact keeps_onLane s fun _ => .refl s
  case readQueue => exact keeps_onLane s fun _ => .ite_state (fun _ => .refl s) fun _ => .refl s
  case readLoaf tag loaf =>
    refine .ite_state (fun _ => .refl s) fun _ => ?_
    split <;> exact .refl s
  case trialPlan tag lane length height product => exact keeps_doTrialPlan s lane length height product
  case readPlannerStatus => exact keeps_planner s id
  case setWearRate tag lane rate =>
    exact keeps_onLane s fun l => keeps_modSlicer l s (f := fun sl => { sl with wearRate := min rate.toNat Limits.wearRateMax })
      fun ⟨hs, _⟩ => ⟨hs, Nat.min_le_right _ _⟩
  case bladeChange =>
    exact keeps_onLane s fun l => .ite_state (fun _ => .refl s) fun _ => keeps_modSlicer l s fun ⟨_, hw⟩ => ⟨Nat.zero_le _, hw⟩
  case readSlicer => exact keeps_onLane s fun _ => .refl s
  case writeWatch tag entry w => exact keeps_doWriteWatch s entry w
  case readCapture => exact .ite_state (fun _ => .refl s) fun _ => .refl s
  case flushCapture => exact keeps_watch s (fun _ => Nat.zero_le _) id
  case connect tag first second => exact keeps_doConnect s first second
  case headSettings tag head pairs => exact keeps_doHeadSettings s head pairs
  case readHead => exact keeps_onHead s fun _ => .refl s
  case reloadMagazine tag head count => exact keeps_doReloadMagazine s head count
  case learnSignature =>
    refine keeps_onHead s fun h => ?_
    dsimp only; split
    · exact .refl s
    · exact learn_order_same s h _
  case setSignature tag index present value => exact keeps_doSetSignature s index present value
  case tieCheck tag head setting => exact keeps_doTieCheck s head setting
  case readTier => exact keeps_onHead s fun _ => .refl s
  case crumbSettings tag lane pairs => exact keeps_doCrumbSettings s lane pairs
  case setCrumbMode tag lane mode => exact keeps_doSetCrumbMode s lane mode
  case purgeStart tag lane => exact keeps_doPurgeStart s lane
  case purgeStop tag lane => exact keeps_doPurgeStop s lane
  case singlePurge tag lane => exact keeps_doSinglePurge s lane
  case crumbReset => exact keeps_onLane s fun l => (keeps_resetCrumb l s).trans (keeps_finish _ _ _)
  case readCrumb => exact keeps_onLane s fun _ => .refl s
  case closeShift => exact keeps_closeShift s false
  case readTotals => exact keeps_onProduct s fun _ => .refl s
  case readSnapshot tag part =>
    simp only [serve, doReadSnapshot]; split
    · exact .refl s
    · split <;> exact .refl s
  all_goals exact .refl s

end

end Sys2Proof.Machine
end

section
/-! A step is a millisecond or a command; a command is an event or the arrival of a request's frame (R174). Each keeps the five
properties of O5 to O9, and the state after reset has them (O4). -/

namespace Sys2Proof.Machine

/-! ### Requests as the arrival of their frames -/

/-- A request's command is the arrival of its frame, which its owner serves. -/
theorem exec_of_isRequest {i : Instr} (h : Instr.isRequest i = true) (s : State) : exec i s = .next (s.arrive (requestFrame i) (serve i)) := by
  cases i
  all_goals first
    | rfl
    | exact absurd h (by simp [Instr.isRequest, encode])

section
variable (s : State)

theorem keeps_link (k : LinkPort) : Keeps s { s with link := k } := .of_views

theorem keeps_formReply (f : Frame) (code : ResultCode) (data : List Byte) (clearsLost : Bool) : Keeps s (s.formReply f code data clearsLost) :=
  .of_views

theorem keeps_conclude {f : Frame} {r : Served} (h : Keeps s r.state) : Keeps s (State.conclude f r) := by
  unfold State.conclude
  split
  · exact h.trans (keeps_link _ _)
  · exact h.trans (keeps_formReply _ _ _ _ _)

theorem keeps_arrive {f : Frame} {take : State → Served} (h : ∀ t, Keeps t (take t).state) : Keeps s (s.arrive f take) := by
  unfold State.arrive
  split
  · exact keeps_conclude s (h s)
  · exact keeps_link s _
  · exact keeps_link s _

theorem keeps_takeFrame (f : Frame) : Keeps s (takeFrame f s).state := by
  unfold takeFrame
  split
  · exact .refl s
  · exact keeps_serve s _

theorem keeps_completeFrame (n : Nat) (got : List Byte) : Keeps s (s.completeFrame n got) := by
  refine .ite (fun _ => ?_) fun _ => keeps_link s _
  exact (keeps_link s _).trans (keeps_arrive _ fun t => keeps_takeFrame t _)

theorem keeps_takeByte (b : Byte) : Keeps s (s.takeByte b) := by
  unfold State.takeByte
  split
  · exact .ite (fun _ => keeps_link s _) fun _ => .refl s
  · exact .ite (fun _ => keeps_link s _) fun _ => keeps_link s _
  · exact .ite (fun _ => keeps_link s _) fun _ => keeps_completeFrame s _ _

theorem keeps_nextFrame : Keeps s s.nextFrame := by
  unfold State.nextFrame
  split
  · exact keeps_link s _
  · exact (keeps_link s _).trans (keeps_conclude _ (keeps_takeFrame _ _))

/-! ### Events -/

theorem keeps_arrival (l : Lane) (n : Nat) : Keeps s (s.arrival l n) := by
  unfold State.arrival
  split
  · exact .refl s
  · have hissued : ∀ x : List IssuedRequest, Keeps s { s with planner := { s.planner with issued := x } } := fun x => keeps_planner s id
    exact .ite (fun _ => hissued _) fun _ => ((hissued _).trans (keeps_takeArrival _ l n)).trans (keeps_finish _ _ _)

theorem keeps_replyTrial (p : Plan) : Keeps s (s.replyTrial p) := by
  unfold State.replyTrial
  split
  · exact .refl s
  · split
    · exact keeps_formReply s _ _ _ _
    · exact .refl s

theorem keeps_setHeadInputs (h : Head) (f : HeadInputs → HeadInputs) : Keeps s (s.setHeadInputs h f) := .of_views
theorem keeps_setTierInputs (h : Head) (f : TierInputs → TierInputs) : Keeps s (s.setTierInputs h f) := .of_views

/-- R152: an input that becomes asserted raises its immediate cause. -/
theorem keeps_raise_input {inputs : Inputs} {c : Cause} (hc : c.immediate = true) : Keeps s ({ s with inputs := inputs }.raise c) :=
  ⟨(KeepsBlocks.of_views (s := s)).trans (keepsBlocks_raise _ c), fun _ _ => moving_raise_of_immediate _ hc⟩

/-- R150: safety inputs of which fewer are asserted make no immediate cause present. -/
theorem keeps_inputs_less {inputs : Inputs} (heStop : inputs.eStop = true → s.inputs.eStop = true)
    (hguards : inputs.guards.toList.any id = true → s.inputs.guards.toList.any id = true) : Keeps s { s with inputs := inputs } := by
  refine ⟨.of_views, causesRest_of_less id ?_⟩
  simp only [State.immediateCausePresent, State.eStopPresent, State.guardOpenPresent, Bool.or_eq_true, or_assoc]
  exact Or.imp heStop (Or.imp_left hguards)

theorem guards_any_set_false {v : Vector Bool 4} {g : Fin 4} (h : (v.set g false).toList.any id = true) : v.toList.any id = true := by
  rw [List.any_eq_true] at h ⊢
  obtain ⟨x, hx, hid⟩ := h
  obtain ⟨k, hk, rfl⟩ := List.mem_iff_getElem.mp hx
  simp only [Vector.getElem_toList, Vector.getElem_set, id_eq] at hid
  split at hid
  · cases hid
  · exact ⟨_, List.getElem_mem (l := v.toList) (by simpa using hk), by simpa using hid⟩

theorem keeps_tick : Keeps s s.tick := by
  refine .of_figures fun k => ?_
  exact { k with
    crumb := forall_lane.mpr ⟨k.crumb .a, k.crumb .b⟩
    tiers := k.tiers
    geometry := forall_lane.mpr ⟨k.geometry .a, k.geometry .b⟩
    slicers := forall_lane.mpr ⟨k.slicers .a, k.slicers .b⟩
    misses := forall_head.mpr ⟨k.misses .one, k.misses .two⟩ }

end

/-! ### Power-on -/

section
variable (inputs : Inputs) (pending : List Instr)

theorem powerOn_causesRest : (State.powerOn inputs pending).CausesRest := fun _ => rfl

theorem powerOn_airOrdered : (State.powerOn inputs pending).AirOrdered := by
  simp [State.AirOrdered, State.powerOn, Air.initial, forall_lane, PerLane.get, Crumb.initial]

theorem powerOn_held : (State.powerOn inputs pending).held = [] := rfl

theorem powerOn_productsDefined : (State.powerOn inputs pending).ProductsDefined := by
  refine ⟨?_, ?_, ?_, by simp [powerOn_held]⟩
  · simp [forall_lane, State.powerOn, PerLane.get, Assignment.initial]
  · simp [forall_lane, State.powerOn, PerLane.get, Assignment.initial]
  · simp [forall_lane, State.powerOn, PerLane.get, LaneState.initial, fromCurtain_product]

theorem powerOn_totals (p : ProductIx) : (State.powerOn inputs pending).totals.products[p] = ProductTotals.zero := by
  simp [State.powerOn, Totals.initial]

theorem powerOn_booksKept : (State.powerOn inputs pending).BooksKept := by
  rw [booksKept_iff]
  refine ⟨by simp [State.ids, powerOn_held], forall_lane.mpr ⟨by simp [State.powerOn, PerLane.get, LaneState.initial],
    by simp [State.powerOn, PerLane.get, LaneState.initial]⟩, by simp [State.powerOn, Router.initial], ?_, fun p => ?_, fun x hx => by cases hx⟩
  · exact fun h _ => by cases h <;> rfl
  · rw [balanced_iff, powerOn_totals]; rfl

theorem powerOn_figuresInRange : (State.powerOn inputs pending).FiguresInRange := by
  rw [← figuresKept_iff]
  constructor
  case geometry => exact forall_lane.mpr ⟨by simp [State.powerOn, PerLane.get, LaneState.initial, Geometry.InRange],
    by simp [State.powerOn, PerLane.get, LaneState.initial, Geometry.InRange]⟩
  case slicers => exact forall_lane.mpr ⟨⟨Nat.zero_le _, Nat.zero_le _⟩, ⟨Nat.zero_le _, Nat.zero_le _⟩⟩
  case crumb => exact fun l => by cases l <;> simp [State.powerOn, PerLane.get, Crumb.initial, Crumb.InRange, Limits.max24]
  case tiers => exact fun h => by cases h <;> simp [State.powerOn, PerHead.get, Tier.initial, Tier.InRange]
  case misses => exact fun h => by cases h <;> exact Nat.zero_le _
  case chains => intro p _; simp [State.powerOn, Watch.initial]
  all_goals simp [State.powerOn, Notices.initial, Watch.initial, Planner.initial, Totals.initial]

theorem keeps_powerOn (s : State) : Keeps s (State.powerOn inputs pending) :=
  ⟨⟨⟨fun _ => powerOn_airOrdered inputs pending, fun _ => powerOn_productsDefined inputs pending, fun _ => powerOn_figuresInRange inputs pending⟩,
    fun _ => powerOn_booksKept inputs pending⟩, fun _ => powerOn_causesRest inputs pending⟩

end

/-! ### Every command and every step -/

/-- The command answers a state that keeps the five properties. -/
def Holds (s : State) (o : Host.Outcome State Fault Refusal) : Prop := ∃ t, o = .next t ∧ Keeps s t

section
variable (s : State)

theorem holds_next {t : State} (h : Keeps s t) : Holds s (.next t) := ⟨t, rfl, h⟩

theorem holds_ite {c : Prop} [Decidable c] {t u : State} (h : c → Keeps s t) (k : ¬ c → Keeps s u) :
    Holds s (if c then .next t else .next u) := by
  split
  · exact holds_next s (h ‹_›)
  · exact holds_next s (k ‹_›)

theorem holds_completes {c : Prop} [Decidable c] {t u : State} (ht : Keeps s t) (hu : Keeps t u) :
    Holds s (if c then .next (State.finish s none u) else .next t) :=
  holds_ite s (fun _ => (ht.trans hu).trans (keeps_finish _ _ _)) fun _ => ht

theorem holds_planCompletion : Holds s (execPlanCompletion s) := by
  unfold execPlanCompletion
  split
  · exact holds_next s (.refl s)
  · split
    · exact holds_next s ((keeps_completeGauge s _ _ _).trans (keeps_finish _ _ _))
    · exact holds_next s (.refl s)

theorem holds_trialPlanCompletion : Holds s (execTrialPlanCompletion s) := by
  unfold execTrialPlanCompletion
  split
  · exact holds_next s (.refl s)
  · split
    · exact holds_next s (.refl s)
    · exact holds_next s (((keeps_completed s _).trans (keeps_replyTrial _ _)).trans (keeps_startNext _))

theorem holds_tieDone (h : Head) (e : Edge) : Holds s (execTieDone h e s) := by
  have hseen : Keeps s (s.setTierInputs h fun i => { i with cycleComplete := edgeLevel e }) := keeps_setTierInputs s h _
  unfold execTieDone
  dsimp only
  split
  · exact holds_next s hseen
  · exact holds_ite s (fun _ => (hseen.trans (keeps_takeTieDone h _ _)).trans (keeps_finish _ _ _)) fun _ => hseen

theorem keeps_tierTick (h : Head) (lines : BitVec 4) : Keeps s (s.tierTick h lines) :=
  .ite (fun _ => .refl s) fun _ => keeps_modTier h s id

theorem holds_tierEncoderTick (h : Head) (lines : StepLines) : Holds s (execTierEncoderTick h lines s) := by
  cases lines
  · exact holds_next s ((keeps_setTierInputs s h _).trans (keeps_tierTick _ h _))
  · exact holds_next s (keeps_setTierInputs s h _)

theorem holds_openingTimeout (h : Head) : Holds s (execOpeningTimeout h s) :=
  holds_ite s (fun _ => (keeps_takeOpeningTimeout h s).trans (keeps_finish _ _ _)) fun _ => .refl s

theorem holds_headStateTimeout (h : Head) : Holds s (execHeadStateTimeout h s) :=
  holds_ite s (fun _ => ((keeps_modHead_same h s (f := fun x => { x with timer := none }) (fun _ => rfl) fun _ => rfl).trans
    (keeps_raiseJam _ _)).trans (keeps_finish _ _ _)) fun _ => .refl s

theorem holds_exec (i : Instr) : Holds s (exec i s) := by
  by_cases hreq : Instr.isRequest i = true
  · rw [exec_of_isRequest hreq]
    exact holds_next s (keeps_arrive s fun t => keeps_serve t i)
  cases i
  case powerOn => exact holds_next s (keeps_powerOn _ _ s)
  case frameComplete => exact holds_ite s (fun _ => keeps_takeByte s _) fun _ => .refl s
  case byteReceived => exact holds_next s (keeps_takeByte s _)
  case interByteTimeout => exact holds_next s (keeps_link s _)
  case replySent => exact holds_ite s (fun _ => keeps_nextFrame s) fun _ => .refl s
  case leadingEdge => exact holds_next s (keeps_beamsBlocked s _ _ _)
  case highestBeamRaise => exact holds_next s (keeps_beamsBlocked s _ _ _)
  case trailingEdge => exact holds_next s (keeps_curtainClears s _ _)
  case voidClose => exact holds_next s (keeps_curtainClears s _ _)
  case bladeLineArrival => exact holds_next s (keeps_reach s _ _ _)
  case trailingEdgePastBlade => exact holds_next s (keeps_reach s _ _ _)
  case rejectGateArrival => exact holds_next s (keeps_reach s _ _ _)
  case routerGateArrival => exact holds_next s (keeps_reach s _ _ _)
  case diverterPulseEnd => exact holds_next s (keeps_modLane _ s)
  case gaugeRequestArrival => exact holds_next s (keeps_arrival s _ _)
  case planCompletion => exact holds_planCompletion s
  case trialPlanCompletion => exact holds_trialPlanCompletion s
  case cutDue => exact holds_next s (keeps_cutDue s _)
  case strokeCompletion => exact holds_next s (keeps_bladeHomeRises s _)
  case bladeHomeSeen => exact holds_next s (keeps_bladeHomeSeen s _)
  case homingCompletion => exact holds_next s (keeps_bladeHomeSeen s _)
  case bladeHomeLost => exact holds_next s (keeps_bladeHomeFalls s _)
  case strokeTimeout => exact holds_ite s (fun _ => keeps_slicerTimeout s _) fun _ => .refl s
  case homingTimeout => exact holds_ite s (fun _ => keeps_slicerTimeout s _) fun _ => .refl s
  case bagOpen h e => exact holds_completes s (keeps_setHeadInputs s h _) (keeps_takeBagOpen h _)
  case loafIn h e => exact holds_completes s (keeps_setHeadInputs s h _) (keeps_takeLoafIn h _)
  case gatherDone h e => exact holds_completes s (keeps_setHeadInputs s h _) (keeps_takeGatherDone h _)
  case dischargeClear h e => exact holds_completes s (keeps_setHeadInputs s h _) (keeps_takeDischargeClear h _)
  case openingTimeout => exact holds_openingTimeout s _
  case bagFeedPulseEnd => exact holds_next s (keeps_modHead_same _ s (fun _ => rfl) fun _ => rfl)
  case tieDone => exact holds_tieDone s _ _
  case headStateTimeout => exact holds_headStateTimeout s _
  case gapWaitExpiry => exact holds_ite s (fun _ => (keeps_giveUpPurge s _).trans (keeps_finish _ _ _)) fun _ => .refl s
  case holdOffExpiry => exact holds_ite s (fun _ => (keeps_modCrumb _ s rfl id).trans (keeps_finish _ _ _)) fun _ => .refl s
  case purgeTimeExpiry => exact holds_ite s (fun h => (keeps_settlePurge _ s _ h.1).trans (keeps_finish _ _ _)) fun _ => .refl s
  case settleExpiry => exact holds_ite s (fun _ => (keeps_completePurge s _).trans (keeps_finish _ _ _)) fun _ => .refl s
  case eStopAsserted => exact holds_ite s (fun _ => .refl s) fun _ => (keeps_raise_input s rfl).trans (keeps_finish _ _ _)
  case guardOpens => exact holds_ite s (fun _ => .refl s) fun _ => (keeps_raise_input s rfl).trans (keeps_finish _ _ _)
  case eStopReleased => exact holds_next s (keeps_inputs_less s (fun h => nomatch h) id)
  case guardCloses => exact holds_next s (keeps_inputs_less s id guards_any_set_false)
  case resumeWindowExpiry => exact holds_next s (keeps_line s id id)
  case tierEncoderTick => exact holds_tierEncoderTick s _ _
  all_goals exact absurd rfl hreq

theorem holds_step : Holds s (step s) := by
  unfold step
  split
  · exact holds_next s (keeps_tick s)
  · rename_i c rest _
    obtain ⟨t, he, hk⟩ := holds_exec { s with pending := rest } c
    exact ⟨t, he, Keeps.trans .of_views hk⟩

theorem keeps_step {t : State} (h : step s = .next t) : Keeps s t := by
  obtain ⟨u, he, hk⟩ := holds_step s
  rw [he] at h
  cases h
  exact hk

end

/-! ### The statements -/

/-- Settles O4: the state after reset is the state a power-on leaves. -/
theorem resetKeepsTheProperties : Obligations.ResetKeepsTheProperties :=
  ⟨powerOn_causesRest _ _, powerOn_airOrdered _ _, powerOn_productsDefined _ _, powerOn_booksKept _ _, powerOn_figuresInRange _ _⟩

/-- Settles O5. -/
theorem everyStepKeepsCausesRest : Obligations.EveryStepKeepsCausesRest := fun s _ h hstep => (keeps_step s hstep).rest h

/-- Settles O6. -/
theorem everyStepKeepsTheAirOrdered : Obligations.EveryStepKeepsTheAirOrdered := fun s _ h hstep => (keeps_step s hstep).air h

/-- Settles O7. -/
theorem everyStepKeepsProductsDefined : Obligations.EveryStepKeepsProductsDefined := fun s _ h hstep => (keeps_step s hstep).products h

/-- Settles O8. -/
theorem everyStepKeepsTheBooks : Obligations.EveryStepKeepsTheBooks := fun s _ h hstep => (keeps_step s hstep).books h

/-- Settles O9. -/
theorem everyStepKeepsFiguresInRange : Obligations.EveryStepKeepsFiguresInRange := fun s _ h hstep => (keeps_step s hstep).figures h

end Sys2Proof.Machine
end

section
/-! What a command leaves alone whatever it is: the queue of waiting commands (O10), and, but for the few commands that write
them, lane positions and product entries (O11). Every operation but the telling of travel moves no belt. -/

namespace Sys2Proof.Machine

/-! ### Belts stand -/

section
variable (l : Lane) (s : State)

@[simp] theorem belt_settleHold (k : Lane) : (s.settleHold k).lanes.belt l = s.lanes.belt l := belt_modLane k l _ s fun _ => ⟨rfl, rfl⟩

@[simp] theorem belt_finish (before : State) (asked : Option Lane) : (State.finish before asked s).lanes.belt l = s.lanes.belt l := by
  simp [State.finish]

@[simp] theorem belt_raiseJam (c : Cause) : (s.raiseJam c).lanes.belt l = s.lanes.belt l := by
  unfold State.raiseJam; split <;> simp

@[simp] theorem belt_giveSource (h : Head) (src : Source) : (s.giveSource h src).lanes.belt l = s.lanes.belt l := by
  unfold State.giveSource; dsimp only; split <;> simp

@[simp] theorem belt_applyPendingSource (h : Head) : (s.applyPendingSource h).lanes.belt l = s.lanes.belt l := by
  unfold State.applyPendingSource; split <;> simp

@[simp] theorem belt_magazineReport (h : Head) : (s.magazineReport h).lanes.belt l = s.lanes.belt l := by
  unfold State.magazineReport; dsimp only; (repeat' split) <;> simp

@[simp] theorem belt_tieStart (h : Head) (r : LoafRecord) : (s.tieStart h r).lanes.belt l = s.lanes.belt l := by
  simp [State.tieStart]

@[simp] theorem belt_handOff (h : Head) : (s.handOff h).lanes.belt l = s.lanes.belt l := by
  unfold State.handOff; (repeat' split) <;> simp [State.noClipPath]

@[simp] theorem belt_takeGatherDone (h : Head) : (s.takeGatherDone h).lanes.belt l = s.lanes.belt l := by simp [State.takeGatherDone]

@[simp] theorem belt_takeDischargeClear (h : Head) : (s.takeDischargeClear h).lanes.belt l = s.lanes.belt l := by
  unfold State.takeDischargeClear; dsimp only; (repeat' split) <;> simp

@[simp] theorem belt_mismatchTie (h : Head) (tie : Tie) (e : Half) : (s.mismatchTie h tie e).lanes.belt l = s.lanes.belt l := by
  unfold State.mismatchTie; dsimp only; split <;> simp

@[simp] theorem belt_takeTieDone (h : Head) (tie : Tie) : (s.takeTieDone h tie).lanes.belt l = s.lanes.belt l := by
  unfold State.takeTieDone; dsimp only; (repeat' split) <;> simp

@[simp] theorem belt_takeOpeningTimeout (h : Head) : (s.takeOpeningTimeout h).lanes.belt l = s.lanes.belt l := by
  unfold State.takeOpeningTimeout; dsimp only; split <;> simp

@[simp] theorem belt_resumeHead (step : HeadStep) (h : Head) : (s.resumeHead step h).lanes.belt l = s.lanes.belt l := by
  unfold State.resumeHead; dsimp only; (repeat' split) <;> simp

@[simp] theorem belt_clearHead (h : Head) : (s.clearHead h).lanes.belt l = s.lanes.belt l := by
  unfold State.clearHead; dsimp only; split <;> simp

@[simp] theorem belt_startStroke (k : Lane) (c : Cut) : (s.startStroke k c).lanes.belt l = s.lanes.belt l := by simp [State.startStroke]

@[simp] theorem belt_freeBlade (k : Lane) : (s.freeBlade k).lanes.belt l = s.lanes.belt l := by
  unfold State.freeBlade; split <;> simp

@[simp] theorem belt_startHoming (k : Lane) : (s.startHoming k).lanes.belt l = s.lanes.belt l := by
  unfold State.startHoming; (repeat' split) <;> simp

@[simp] theorem belt_offerCut (k : Lane) (c : Cut) : (s.offerCut k c).lanes.belt l = s.lanes.belt l := by
  unfold State.offerCut; (repeat' split) <;> simp [State.holdCut, State.abandonLoaf]

@[simp] theorem belt_completeStroke (k : Lane) (c : Cut) : (s.completeStroke k c).lanes.belt l = s.lanes.belt l := by
  simp [State.completeStroke]

@[simp] theorem belt_failPlan (n : Nat) (o : PlanOutcome) (reason : Reason) : (s.failPlan n o reason).lanes.belt l = s.lanes.belt l := by
  simp [State.failPlan]

@[simp] theorem belt_deliverPlan (k : Lane) (n : Nat) (p : Plan) (w : Bool) : (s.deliverPlan k n p w).lanes.belt l = s.lanes.belt l := by
  unfold State.deliverPlan; split <;> simp

@[simp] theorem belt_completeGauge (k : Lane) (n : Nat) (c : CurrentPlan) : (s.completeGauge k n c).lanes.belt l = s.lanes.belt l := by
  unfold State.completeGauge; dsimp only; split <;> simp

@[simp] theorem belt_takeArrival (k : Lane) (n : Nat) : (s.takeArrival k n).lanes.belt l = s.lanes.belt l := by
  unfold State.takeArrival; split <;> simp

@[simp] theorem belt_admitLoaf (k : Lane) (lead : Quad) (high : Nat) (p : ProductIx) (span : Nat) :
    (s.admitLoaf k lead high p span).lanes.belt l = s.lanes.belt l := by
  unfold State.admitLoaf; dsimp only
  rw [foldl_keeps (fun t : State => t.lanes.belt l) _ fun t e => by unfold State.takeReached; split <;> simp]
  simp

@[simp] theorem belt_leadingEdgeEvent (k : Lane) (beams : BitVec 48) : (s.leadingEdgeEvent k beams).lanes.belt l = s.lanes.belt l := by
  unfold State.leadingEdgeEvent; dsimp only; (repeat' split) <;> simp

@[simp] theorem belt_classifySpan (k : Lane) (lead : Quad) (high : Nat) (p : Option ProductIx) :
    (s.classifySpan k lead high p).lanes.belt l = s.lanes.belt l := by
  unfold State.classifySpan; dsimp only; (repeat' split) <;> simp

@[simp] theorem belt_closeWindow (k : Lane) : (s.closeWindow k).lanes.belt l = s.lanes.belt l := belt_modLane k l _ s fun _ => ⟨rfl, rfl⟩

@[simp] theorem belt_startLine : s.startLine.lanes.belt l = s.lanes.belt l := by simp [State.startLine, State.homeBlades]

@[simp] theorem belt_resumeLine : s.resumeLine.lanes.belt l = s.lanes.belt l := by simp [State.resumeLine, State.homeBlades]

@[simp] theorem belt_connectAll (pairs : List (Head × Option Source)) : (s.connectAll pairs).lanes.belt l = s.lanes.belt l := by
  refine foldl_keeps (fun t : State => t.lanes.belt l) _ (fun t p => ?_) pairs s
  unfold State.connectPair State.connectHead; (repeat' split) <;> simp

@[simp] theorem belt_clearLane (k : Lane) : (s.clearLane k).lanes.belt l = s.lanes.belt l := by
  unfold State.clearLane
  rw [belt_modLane]
  · exact foldl_keeps (fun t : State => t.lanes.belt l) _ (fun t r => by simp [State.clearRecord]) _ s
  · exact fun _ => ⟨rfl, rfl⟩

@[simp] theorem belt_lineClear : s.lineClear.lanes.belt l = s.lanes.belt l := by
  simp [State.lineClear, State.clearLanes, State.clearHeads]

@[simp] theorem belt_timeoutAbandons (k : Lane) : (s.timeoutAbandons k).lanes.belt l = s.lanes.belt l := by simp [State.timeoutAbandons]

end

/-! ### What stands still -/

/-- The waiting commands, the product entries and a lane's position. -/
def State.still (l : Lane) (s : State) : List Instr × Vector (Option ProductEntry) 16 × Quad := (s.pending, s.products, (s.lanes.belt l).1)

/-- A request that writes a product entry. -/
def Instr.writesEntry : Instr → Bool
  | .writeProduct .. | .eraseProduct .. | .setSignature .. => true
  | _ => false

section
variable (l : Lane) (s : State)

@[simp] theorem served_state (t : State) (data : List Byte) : (served t data).state = t := rfl
@[simp] theorem refuse_state (t : State) (code : ResultCode) (data : List Byte) : (refuse t code data).state = t := rfl

theorem onLane_still {b : Byte} {f : Lane → Served} (h : ∀ k, (f k).state.still l = s.still l) : (onLane b s f).state.still l = s.still l := by
  unfold onLane; split
  · rfl
  · exact h _

theorem onHead_still {b : Byte} {f : Head → Served} (h : ∀ k, (f k).state.still l = s.still l) : (onHead b s f).state.still l = s.still l := by
  unfold onHead; split
  · rfl
  · exact h _

theorem onProduct_still {b : Byte} {f : ProductIx → Served} (h : ∀ k, (f k).state.still l = s.still l) :
    (onProduct b s f).state.still l = s.still l := by
  unfold onProduct; split
  · rfl
  · exact h _

theorem ite_still {c : Prop} [Decidable c] {x y : Served} (h : c → x.state.still l = s.still l) (k : ¬ c → y.state.still l = s.still l) :
    (if c then x else y).state.still l = s.still l := by
  split
  · exact h ‹_›
  · exact k ‹_›

theorem serve_still {i : Instr} (hw : Instr.writesEntry i = false) : (serve i s).state.still l = s.still l := by
  cases i
  case start => exact ite_still l s (fun _ => rfl) fun _ => by simp [State.still]
  case stop tag form =>
    simp only [serve, doStop]; split
    · rfl
    · simp [State.still]
  case resume => exact ite_still l s (fun _ => rfl) fun _ => by simp [State.still]
  case clear => exact ite_still l s (fun _ => rfl) fun _ => by simp [State.still]
  case readNotices => exact ite_still l s (fun _ => rfl) fun _ => rfl
  case setLoafReports tag mode =>
    simp only [serve, doSetLoafReports]; split <;> rfl
  case readProduct => exact onProduct_still l s fun _ => rfl
  case assignProduct tag lane product =>
    refine onLane_still l s fun k => ?_
    dsimp only; split
    · rfl
    · exact ite_still l s (fun _ => by simp [State.still]) fun _ => rfl
  case writeDayCodes => exact ite_still l s (fun _ => rfl) fun _ => rfl
  case laneSettings tag lane pairs =>
    refine onLane_still l s fun k => ite_still l s (fun _ => ?_) fun _ => rfl
    split
    · rfl
    · cases k <;> cases l <;> rfl
  case readLaneSettings => exact onLane_still l s fun _ => rfl
  case readQueue => exact onLane_still l s fun _ => ite_still l s (fun _ => rfl) fun _ => rfl
  case readLoaf tag loaf =>
    refine ite_still l s (fun _ => rfl) fun _ => ?_
    split <;> rfl
  case trialPlan =>
    exact onLane_still l s fun _ => ite_still l s (fun _ => onProduct_still l s fun _ => ite_still l s (fun _ => rfl) fun _ =>
      ite_still l s (fun _ => by simp [State.still]) fun _ => rfl) fun _ => rfl
  case setWearRate => exact onLane_still l s fun _ => rfl
  case bladeChange => exact onLane_still l s fun _ => ite_still l s (fun _ => rfl) fun _ => rfl
  case readSlicer => exact onLane_still l s fun _ => rfl
  case writeWatch tag entry w => 
    simp only [serve, doWriteWatch]; split
    · rfl
    · split <;> rfl
  case readCapture => exact ite_still l s (fun _ => rfl) fun _ => rfl
  case connect tag first second =>
    simp only [serve, doConnect]; split
    · rfl
    · refine ite_still l s (fun _ => ?_) fun _ => rfl
      split <;> simp [State.still]
  case headSettings => exact onHead_still l s fun _ => ite_still l s (fun _ => rfl) fun _ => rfl
  case readHead => exact onHead_still l s fun _ => rfl
  case reloadMagazine tag head count =>
    refine onHead_still l s fun k => ?_
    dsimp only; split <;> simp [State.still]
  case learnSignature tag head order =>
    refine onHead_still l s fun k => ?_
    dsimp only; split <;> rfl
  case tieCheck tag head setting =>
    simp only [serve, doTieCheck]; split
    · exact foldl_keeps (State.still l) (fun u h => u.modTier h (Tier.setCheck _)) (fun _ _ => rfl) _ s
    · rfl
  case readTier => exact onHead_still l s fun _ => rfl
  case crumbSettings => exact onLane_still l s fun _ => ite_still l s (fun _ => by simp [State.still]) fun _ => rfl
  case setCrumbMode tag lane mode =>
    refine onLane_still l s fun k => ?_
    split
    · rfl
    · exact ite_still l s (fun _ => rfl) fun _ => ite_still l s (fun _ => rfl) fun _ => by simp [State.still]
  case purgeStart tag lane =>
    refine onLane_still l s fun k => ?_
    split
    · rfl
    · rfl
    · exact ite_still l s (fun _ => rfl) fun _ => ite_still l s (fun _ => rfl) fun _ => by simp [State.still, purgeReply]
    · exact ite_still l s (fun _ => rfl) fun _ => ite_still l s (fun _ => rfl) fun _ => ite_still l s (fun _ => rfl) fun _ => by
        simp [State.still, purgeReply]
  case purgeStop tag lane =>
    refine onLane_still l s fun k => ?_
    split <;> simp [State.still, purgeReply]
  case singlePurge =>
    exact onLane_still l s fun _ => ite_still l s (fun _ => rfl) fun _ => ite_still l s (fun _ => rfl) fun _ =>
      ite_still l s (fun _ => by simp [State.still]) fun _ => rfl
  case crumbReset => exact onLane_still l s fun _ => by simp [State.still]
  case readCrumb => exact onLane_still l s fun _ => rfl
  case closeShift => simp [serve, doCloseShift, State.still]
  case readTotals => exact onProduct_still l s fun _ => rfl
  case readSnapshot tag part =>
    simp only [serve, doReadSnapshot]; split
    · rfl
    · split <;> rfl
  case writeProduct => cases hw
  case eraseProduct => cases hw
  case setSignature => cases hw
  all_goals rfl

/-- The waiting commands and a lane's position, which no request touches. -/
def State.stand (l : Lane) (s : State) : List Instr × Quad := (s.pending, (s.lanes.belt l).1)

theorem stand_of_still {s t : State} (h : t.still l = s.still l) : t.stand l = s.stand l := by
  have h' := congrArg (fun x : List Instr × Vector (Option ProductEntry) 16 × Quad => (x.1, x.2.2)) h
  exact h'

theorem serve_stand (i : Instr) : (serve i s).state.stand l = s.stand l := by
  by_cases hw : Instr.writesEntry i = false
  · exact stand_of_still l (serve_still l s hw)
  · cases i
    case writeProduct tag index p sig =>
      simp only [serve, doWriteProduct, onProduct]; split
      · rfl
      · split
        · rfl
        · split <;> rfl
    case eraseProduct tag index =>
      simp only [serve, doEraseProduct, onProduct]; split
      · rfl
      · (repeat' split) <;> rfl
    case setSignature tag index present value =>
      simp only [serve, doSetSignature, onProduct]; split
      · rfl
      · (repeat' split) <;> rfl
    all_goals exact absurd rfl hw

theorem conclude_still (f : Frame) (r : Served) : (State.conclude f r).still l = r.state.still l := by
  unfold State.conclude; split <;> rfl

theorem conclude_stand (f : Frame) (r : Served) : (State.conclude f r).stand l = r.state.stand l := stand_of_still l (conclude_still l f r)

theorem arrive_still {f : Frame} {take : State → Served} (h : (take s).state.still l = s.still l) : (s.arrive f take).still l = s.still l := by
  unfold State.arrive; split
  · exact (conclude_still l f _).trans h
  · rfl
  · rfl

theorem arrive_stand {f : Frame} {take : State → Served} (h : (take s).state.stand l = s.stand l) : (s.arrive f take).stand l = s.stand l := by
  unfold State.arrive; split
  · exact (conclude_stand l f _).trans h
  · rfl
  · rfl

theorem takeFrame_stand (f : Frame) : (takeFrame f s).state.stand l = s.stand l := by
  unfold takeFrame; split
  · rfl
  · exact serve_stand l s _

theorem takeByte_stand (b : Byte) : (s.takeByte b).stand l = s.stand l := by
  unfold State.takeByte State.completeFrame
  dsimp only
  (repeat' split) <;> first
    | rfl
    | exact arrive_stand l { s with link := s.link.hunt } (takeFrame_stand l _ _)

theorem nextFrame_stand : s.nextFrame.stand l = s.stand l := by
  unfold State.nextFrame; split
  · rfl
  · exact (conclude_stand l _ _).trans (takeFrame_stand l _ _)

/-! ### Commands -/

/-- What a command leaves alone: the waiting commands, the position of a stopped lane, and, where it writes none, the
product entries. -/
structure Leaves (entries : Prop) (s t : State) : Prop where
  pending : t.pending = s.pending
  position : ∀ l, s.conveyorRuns l = false → (t.lanes.get l).position = (s.lanes.get l).position
  products : entries → t.products = s.products

theorem Leaves.of_still {e : Prop} {s t : State} (h : ∀ l, t.still l = s.still l) : Leaves e s t :=
  ⟨congrArg Prod.fst (h .a), fun l _ => congrArg (fun x => x.2.2) (h l), fun _ => congrArg (fun x => x.2.1) (h .a)⟩

theorem Leaves.of_stand {s t : State} (h : ∀ l, t.stand l = s.stand l) : Leaves False s t :=
  ⟨congrArg Prod.fst (h .a), fun l _ => congrArg (fun x => x.2) (h l), False.elim⟩

theorem Leaves.trans_still {e : Prop} {s t u : State} (h : Leaves e s t) (k : ∀ l, u.still l = t.still l) : Leaves e s u := by
  have hk := Leaves.of_still (e := e) (s := t) (t := u) k
  exact ⟨hk.pending.trans h.pending, fun l hl => (congrArg (fun x => x.2.2) (k l)).trans (h.position l hl), fun he => (hk.products he).trans (h.products he)⟩

/-- R14: a stopped lane's position stands. -/
theorem leaves_travel (k : Lane) (d : Quad) : Leaves True s (s.travel k d) := by
  refine ⟨by simp, fun l hl => ?_, by simp⟩
  unfold State.travel; split
  · have hne : l ≠ k := by rintro rfl; simp_all
    simp [PerLane.get_set_ne _ _ hne]
  · rfl

theorem leaves_advanceTo {k : Lane} (hk : s.conveyorRuns k = true) (p : Quad) : Leaves True s (s.advanceTo k p) := by
  refine ⟨by simp, fun l hl => ?_, by simp⟩
  have hne : l ≠ k := by rintro rfl; simp_all
  simp [State.advanceTo, PerLane.get_set_ne _ _ hne]

theorem Leaves.imp {e f : Prop} {s t : State} (h : Leaves e s t) (k : f → e) : Leaves f s t := ⟨h.pending, h.position, fun hf => h.products (k hf)⟩

/-- The command answers a state that leaves this alone. -/
def Settles (entries : Prop) (s : State) (o : Host.Outcome State Fault Refusal) : Prop := ∃ t, o = .next t ∧ Leaves entries s t

theorem settles_next {e : Prop} {s t : State} (h : Leaves e s t) : Settles e s (.next t) := ⟨t, rfl, h⟩

theorem settles_still {e : Prop} {s t : State} (h : ∀ l, t.still l = s.still l) : Settles e s (.next t) := settles_next (.of_still h)

theorem settles_ite {e : Prop} {s : State} {c : Prop} [Decidable c] {x y : Host.Outcome State Fault Refusal}
    (h : c → Settles e s x) (k : ¬ c → Settles e s y) : Settles e s (if c then x else y) := by
  split
  · exact h ‹_›
  · exact k ‹_›

theorem settles_same {e : Prop} {s : State} : Settles e s (.next s) := settles_still fun _ => rfl

theorem leaves_beamsBlocked (k : Lane) (d : Quad) (beams : BitVec 48) : Leaves True s (s.beamsBlocked k d beams) := by
  unfold State.beamsBlocked
  split
  · exact .of_still fun _ => rfl
  · dsimp only
    split
    · exact (leaves_travel s k d).trans_still fun l => by simp [State.still, State.setCurtain]
    · refine (leaves_travel s k d).trans_still fun l => ?_
      simp [State.still, State.setCurtain]
    · exact (leaves_travel s k d).trans_still fun l => rfl

theorem leaves_curtainClears (k : Lane) (d : Quad) : Leaves True s (s.curtainClears k d) := by
  unfold State.curtainClears
  dsimp only
  split
  · exact (leaves_travel s k d).trans_still fun l => rfl
  · exact (leaves_travel s k d).trans_still fun l => by simp [State.still, State.setCurtain]
  · exact (leaves_travel s k d).trans_still fun l => by simp [State.still, State.setCurtain]

theorem leaves_reach (e : Positional) (k : Lane) (n : Nat) : Leaves True s (s.reach e k n) := by
  unfold State.reach
  split
  · exact .of_still fun _ => rfl
  · rename_i r _
    split
    · rename_i h
      have hruns : s.conveyorRuns k = true := by simp_all
      exact (leaves_advanceTo s hruns (pointAt r.lead (e.distance (s.lanes.get k).geometry r))).trans_still fun l => by simp [State.still]
    · exact .of_still fun _ => rfl

theorem leaves_cutDue (k : Lane) : Leaves True s (s.cutDue k) := by
  unfold State.cutDue
  split
  · exact .of_still fun _ => rfl
  · split
    · exact .of_still fun _ => rfl
    · rename_i r p c _
      split
      · rename_i hruns
        exact (leaves_advanceTo s hruns (pointAt r.lead ((s.lanes.get k).geometry.dBlade + c))).trans_still fun l => by simp [State.still]
      · exact .of_still fun _ => rfl

theorem arrival_still (k : Lane) (n : Nat) : (s.arrival k n).still l = s.still l := by
  unfold State.arrival
  split
  · rfl
  · dsimp only; split <;> simp [State.still]

theorem bladeHomeRises_still (k : Lane) : (s.bladeHomeRises k).still l = s.still l := by
  unfold State.bladeHomeRises
  dsimp only; split <;> simp [State.still, State.setBladeHome]

theorem bladeHomeSeen_still (k : Lane) : (s.bladeHomeSeen k).still l = s.still l := by
  unfold State.bladeHomeSeen; split
  · rfl
  · exact bladeHomeRises_still l s k

theorem bladeHomeFalls_still (k : Lane) : (s.bladeHomeFalls k).still l = s.still l := by
  unfold State.bladeHomeFalls
  dsimp only
  (repeat' split) <;> simp [State.still, State.setBladeHome]

theorem slicerTimeout_still (k : Lane) : (s.slicerTimeout k).still l = s.still l := by simp [State.slicerTimeout, State.still]

theorem takeTieDone_stand (h : Head) (tie : Tie) : (s.takeTieDone h tie).stand l = s.stand l := by simp [State.stand]

theorem settles_planCompletion : Settles True s (execPlanCompletion s) := by
  unfold execPlanCompletion
  split
  · exact settles_same
  · split
    · exact settles_still fun l => by simp [State.still]
    · exact settles_same

theorem settles_trialPlanCompletion : Settles True s (execTrialPlanCompletion s) := by
  unfold execTrialPlanCompletion
  split
  · exact settles_same
  · split
    · exact settles_same
    · exact settles_still fun l => by simp [State.still]

theorem settles_tieDone (h : Head) (e : Edge) : Settles (e = .falls) s (execTieDone h e s) := by
  unfold execTieDone
  dsimp only
  split
  · exact settles_still fun _ => rfl
  · refine settles_ite (fun hc => ?_) fun _ => settles_still fun _ => rfl
    cases e
    · refine settles_next (Leaves.imp (.of_stand fun l => ?_) nofun)
      simp [State.stand, State.setTierInputs]
    · simp [becomesAsserted, edgeLevel] at hc

/-- The commands that can write a product entry: power-on, a frame handed over, the three requests and a tie-done. -/
def Instr.canWrite : Instr → Bool
  | .powerOn | .frameComplete _ | .byteReceived _ | .replySent | .tieDone _ .rises => true
  | i => Instr.writesEntry i

/-- What each command but power-on leaves alone. -/
theorem exec_settles {c : Instr} (hc : c ≠ .powerOn) : Settles (Instr.canWrite c = false) s (exec c s) := by
  by_cases hreq : Instr.isRequest c = true
  · rw [exec_of_isRequest hreq]
    refine settles_next ?_
    by_cases hw : Instr.writesEntry c = false
    · exact .of_still fun l => arrive_still l s (serve_still l s hw)
    · refine Leaves.imp (.of_stand fun l => arrive_stand l s (serve_stand l s c)) fun h => hw ?_
      unfold Instr.canWrite at h
      split at h
      case h_6 => exact h
      all_goals cases h
  cases c
  case powerOn => exact absurd rfl hc
  case frameComplete => exact settles_ite (fun _ => settles_next (.imp (.of_stand fun l => takeByte_stand l s _) nofun)) fun _ => settles_same
  case byteReceived => exact settles_next (.imp (.of_stand fun l => takeByte_stand l s _) nofun)
  case interByteTimeout => exact settles_still fun _ => rfl
  case replySent => exact settles_ite (fun _ => settles_next (.imp (.of_stand fun l => nextFrame_stand l s) nofun)) fun _ => settles_same
  case leadingEdge => exact settles_next ((leaves_beamsBlocked s _ _ _).imp fun _ => trivial)
  case highestBeamRaise => exact settles_next ((leaves_beamsBlocked s _ _ _).imp fun _ => trivial)
  case trailingEdge => exact settles_next ((leaves_curtainClears s _ _).imp fun _ => trivial)
  case voidClose => exact settles_next ((leaves_curtainClears s _ _).imp fun _ => trivial)
  case bladeLineArrival => exact settles_next ((leaves_reach s _ _ _).imp fun _ => trivial)
  case trailingEdgePastBlade => exact settles_next ((leaves_reach s _ _ _).imp fun _ => trivial)
  case rejectGateArrival => exact settles_next ((leaves_reach s _ _ _).imp fun _ => trivial)
  case routerGateArrival => exact settles_next ((leaves_reach s _ _ _).imp fun _ => trivial)
  case diverterPulseEnd lane => exact settles_still fun l => by cases lane <;> cases l <;> rfl
  case gaugeRequestArrival => exact settles_still fun l => arrival_still l s _ _
  case planCompletion => exact (settles_planCompletion s).imp fun _ h => ⟨h.1, h.2.imp fun _ => trivial⟩
  case trialPlanCompletion => exact (settles_trialPlanCompletion s).imp fun _ h => ⟨h.1, h.2.imp fun _ => trivial⟩
  case cutDue => exact settles_next ((leaves_cutDue s _).imp fun _ => trivial)
  case strokeCompletion => exact settles_still fun l => bladeHomeRises_still l s _
  case bladeHomeSeen => exact settles_still fun l => bladeHomeSeen_still l s _
  case homingCompletion => exact settles_still fun l => bladeHomeSeen_still l s _
  case bladeHomeLost => exact settles_still fun l => bladeHomeFalls_still l s _
  case strokeTimeout => exact settles_ite (fun _ => settles_still fun l => slicerTimeout_still l s _) fun _ => settles_same
  case homingTimeout => exact settles_ite (fun _ => settles_still fun l => slicerTimeout_still l s _) fun _ => settles_same
  case bagOpen => exact settles_ite (fun _ => settles_still fun _ => by simp [State.still, State.setHeadInputs]) fun _ => settles_still fun _ => rfl
  case loafIn => exact settles_ite (fun _ => settles_still fun _ => by simp [State.still, State.setHeadInputs]) fun _ => settles_still fun _ => rfl
  case gatherDone => exact settles_ite (fun _ => settles_still fun _ => by simp [State.still, State.setHeadInputs]) fun _ => settles_still fun _ => rfl
  case dischargeClear =>
    exact settles_ite (fun _ => settles_still fun _ => by simp [State.still, State.setHeadInputs]) fun _ => settles_still fun _ => rfl
  case openingTimeout => exact settles_ite (fun _ => settles_still fun _ => by simp [State.still]) fun _ => settles_same
  case bagFeedPulseEnd => exact settles_still fun _ => rfl
  case tieDone h e => exact (settles_tieDone s h e).imp fun _ k => ⟨k.1, k.2.imp fun hw => by cases e with | rises => cases hw | falls => rfl⟩
  case headStateTimeout => exact settles_ite (fun _ => settles_still fun _ => by simp [State.still]) fun _ => settles_same
  case gapWaitExpiry => exact settles_ite (fun _ => settles_still fun _ => by simp [State.still]) fun _ => settles_same
  case holdOffExpiry => exact settles_ite (fun _ => settles_still fun _ => by simp [State.still]) fun _ => settles_same
  case purgeTimeExpiry => exact settles_ite (fun _ => settles_still fun _ => by simp [State.still]) fun _ => settles_same
  case settleExpiry => exact settles_ite (fun _ => settles_still fun _ => by simp [State.still]) fun _ => settles_same
  case eStopAsserted => exact settles_ite (fun _ => settles_same) fun _ => settles_still fun _ => by simp [State.still, State.setEStop]
  case eStopReleased => exact settles_still fun _ => rfl
  case guardOpens => exact settles_ite (fun _ => settles_same) fun _ => settles_still fun _ => by simp [State.still, State.setGuard]
  case guardCloses => exact settles_still fun _ => rfl
  case resumeWindowExpiry => exact settles_still fun _ => rfl
  case tierEncoderTick h lines =>
    cases lines
    · refine settles_still fun l => ?_
      unfold State.tierTick; split <;> rfl
    · exact settles_still fun _ => rfl
  all_goals exact absurd rfl hreq

end

/-! ### The statements -/

/-- Settles O10. -/
theorem noCommandTouchesTheQueue : Obligations.NoCommandTouchesTheQueue := by
  intro c s
  by_cases hc : c = .powerOn
  · subst hc; exact ⟨_, rfl, rfl⟩
  · obtain ⟨t, he, ht⟩ := exec_settles s hc
    exact ⟨t, he, ht.pending⟩

/-- Settles O11. -/
theorem positionAndProductsHaveTheirWriters : Obligations.PositionAndProductsHaveTheirWriters := by
  refine ⟨fun c l s hc hstop => ?_, fun c s => ?_⟩
  · obtain ⟨t, he, ht⟩ := exec_settles s hc
    exact ⟨t, he, ht.position l hstop⟩
  · by_cases hw : Instr.canWrite c = false
    · have hc : c ≠ .powerOn := by rintro rfl; cases hw
      obtain ⟨t, he, ht⟩ := exec_settles s hc
      exact .inl ⟨t, he, ht.products hw⟩
    · right
      cases c
      case tieDone h e => cases e <;> simp_all [Instr.canWrite, Instr.writesEntry]
      all_goals simp_all [Instr.canWrite, Instr.writesEntry]

end Sys2Proof.Machine
end

section
/-! The step itself (O1, O2), the values of power-on (O3), and a request's arrival at the Link Port (O15). -/

namespace Sys2Proof.Machine

/-- Settles O1. -/
theorem stepTakesTheFrontCommand : Obligations.StepTakesTheFrontCommand := fun _ _ _ => rfl

/-- Settles O2: with no command waiting a step is State.tick. -/
theorem idleStepIsOneMillisecond : Obligations.IdleStepIsOneMillisecond := by
  intro s hidle
  refine ⟨s.tick, by simp [step, hidle], forall_lane.mpr ⟨rfl, rfl⟩, forall_lane.mpr ⟨rfl, rfl⟩, forall_head.mpr ⟨rfl, rfl⟩,
    forall_lane.mpr ⟨rfl, rfl⟩, ?_⟩
  exact ⟨rfl, rfl, hidle, rfl, rfl, rfl, rfl, rfl, rfl, rfl, rfl, rfl, rfl, rfl, rfl, rfl⟩

/-- Settles O3. -/
theorem powerOnValues : Obligations.PowerOnValues := by
  refine ⟨fun s => ⟨_, rfl, rfl, rfl, ?_, ?_, forall_lane.mpr ⟨rfl, rfl⟩, forall_lane.mpr ⟨rfl, rfl⟩, rfl, rfl,
    forall_lane.mpr ⟨rfl, rfl⟩, ?_, ?_, rfl, rfl, rfl⟩, fun s => ⟨_, rfl, forall_head.mpr ⟨rfl, rfl⟩, rfl, forall_head.mpr ⟨rfl, rfl⟩,
    forall_lane.mpr ⟨rfl, rfl⟩, rfl, rfl, rfl, rfl, rfl, ?_, forall_lane.mpr ⟨rfl, rfl⟩, forall_head.mpr ⟨rfl, rfl⟩, rfl, rfl, rfl, rfl⟩⟩
  · exact fun p => by simp [State.powerOn]
  · exact fun k => by simp [State.powerOn, DayCode.initial]
  · exact fun i => by simp [State.powerOn, Watch.initial, WatchEntry.initial]
  · exact fun p => by simp [State.powerOn, Watch.initial]
  · exact fun p => powerOn_totals _ _ p

theorem exec_of_encode {i : Instr} {f : Frame} (h : encode i = some f) (s : State) : exec i s = .next (s.arrive f (serve i)) := by
  have hframe : requestFrame i = f := by rw [requestFrame, h]; rfl
  rw [exec_of_isRequest (by rw [Instr.isRequest, h]; rfl), hframe]

/-- Settles O15. -/
theorem requestsArriveAsFrames : Obligations.RequestsArriveAsFrames := by
  intro i f s _ hf
  rw [exec_of_encode hf]
  refine ⟨fun h => by rw [arrive_of_empty h], fun h w => by rw [arrive_of_handled h w], fun h w => by rw [arrive_of_full h w]⟩

end Sys2Proof.Machine
end

section
/-! Frames and requests: reading back what the encoder writes (O12), writing back what the decoder reads (O13), and the checks of
kind and length (O14). -/

namespace Sys2Proof.Machine

/-! ### Values in bytes -/

@[simp] theorem halfOf_bytes (h : Half) : halfOf (hiByte h) (loByte h) = h := by
  apply BitVec.eq_of_toNat_eq
  simp only [halfOf, hiByte, loByte, BitVec.toNat_ofNat]
  have := h.isLt
  omega

@[simp] theorem hiByte_halfOf (a b : Byte) : hiByte (halfOf a b) = a := by
  apply BitVec.eq_of_toNat_eq
  simp only [halfOf, hiByte, BitVec.toNat_ofNat]
  have := a.isLt; have := b.isLt
  omega

@[simp] theorem loByte_halfOf (a b : Byte) : loByte (halfOf a b) = b := by
  apply BitVec.eq_of_toNat_eq
  simp only [halfOf, loByte, BitVec.toNat_ofNat]
  have := a.isLt; have := b.isLt
  omega

@[simp] theorem halfBytes_halfOf (a b : Byte) : halfBytes (halfOf a b) = [a, b] := by simp [halfBytes]

@[simp] theorem quadOf_bytes (q : Quad) : quadOf (quadByte q 3) (quadByte q 2) (quadByte q 1) (quadByte q 0) = q := by
  apply BitVec.eq_of_toNat_eq
  simp only [quadOf, quadByte, BitVec.toNat_ofNat]
  have := q.isLt
  omega

theorem quadByte_quadOf (a b c d : Byte) : quadByte (quadOf a b c d) 3 = a ∧ quadByte (quadOf a b c d) 2 = b ∧
    quadByte (quadOf a b c d) 1 = c ∧ quadByte (quadOf a b c d) 0 = d := by
  have := a.isLt; have := b.isLt; have := c.isLt; have := d.isLt
  refine ⟨?_, ?_, ?_, ?_⟩ <;> apply BitVec.eq_of_toNat_eq <;> simp only [quadOf, quadByte, BitVec.toNat_ofNat] <;> omega

theorem ofNat_byte_toNat (b : Byte) : BitVec.ofNat 8 b.toNat = b := by simp

/-! ### Lists of pairs -/

@[simp] theorem settingsOf_bytes : ∀ pairs : List Setting, settingsOf (settingsBytes pairs) = some pairs
  | [] => rfl
  | p :: rest => by simp [settingsBytes, settingsOf, settingsOf_bytes rest]

@[simp] theorem dayPairsOf_bytes : ∀ pairs : List DayPair, dayPairsOf (dayPairsBytes pairs) = some pairs
  | [] => rfl
  | p :: rest => by simp [dayPairsBytes, dayPairsOf, dayPairsOf_bytes rest]

theorem settingsBytes_of : ∀ {body : List Byte} {pairs : List Setting}, settingsOf body = some pairs → settingsBytes pairs = body
  | [], _, h => by cases h; rfl
  | i :: a :: b :: c :: d :: rest, pairs, h => by
    simp only [settingsOf, Option.map_eq_some_iff] at h
    obtain ⟨more, hmore, rfl⟩ := h
    obtain ⟨h3, h2, h1, h0⟩ := quadByte_quadOf a b c d
    simp [settingsBytes, settingsBytes_of hmore, h3, h2, h1, h0]
  | [_], _, h => by cases h
  | [_, _], _, h => by cases h
  | [_, _, _], _, h => by cases h
  | [_, _, _, _], _, h => by cases h

theorem dayPairsBytes_of : ∀ {body : List Byte} {pairs : List DayPair}, dayPairsOf body = some pairs → dayPairsBytes pairs = body
  | [], _, h => by cases h; rfl
  | i :: a :: b :: c :: rest, pairs, h => by
    simp only [dayPairsOf, Option.map_eq_some_iff] at h
    obtain ⟨more, hmore, rfl⟩ := h
    simp [dayPairsBytes, dayPairsBytes_of hmore]
  | [_], _, h => by cases h
  | [_, _], _, h => by cases h
  | [_, _, _], _, h => by cases h

theorem settingsOf_isSome : ∀ body : List Byte, (settingsOf body).isSome = true ↔ 5 ∣ body.length
  | [] => by simp [settingsOf]
  | i :: a :: b :: c :: d :: rest => by
    have := settingsOf_isSome rest
    simp only [settingsOf, Option.isSome_map, this, List.length_cons]; omega
  | [_] => by simp [settingsOf]
  | [_, _] => by simp [settingsOf]
  | [_, _, _] => by simp [settingsOf]
  | [_, _, _, _] => by simp [settingsOf]

theorem dayPairsOf_isSome : ∀ body : List Byte, (dayPairsOf body).isSome = true ↔ 4 ∣ body.length
  | [] => by simp [dayPairsOf]
  | i :: a :: b :: c :: rest => by
    have := dayPairsOf_isSome rest
    simp only [dayPairsOf, Option.isSome_map, this, List.length_cons]; omega
  | [_] => by simp [dayPairsOf]
  | [_, _] => by simp [dayPairsOf]
  | [_, _, _] => by simp [dayPairsOf]

/-! ### Bodies -/

theorem noBody_eq {i j : Instr} {body : List Byte} : noBody i body = some j ↔ body = [] ∧ i = j := by
  cases body <;> simp [noBody]

theorem oneByte_eq {make : Byte → Instr} {j : Instr} {body : List Byte} : oneByte make body = some j ↔ ∃ a, body = [a] ∧ make a = j := by
  rcases body with _ | ⟨a, _ | ⟨b, rest⟩⟩ <;> simp [oneByte]

theorem twoBytes_eq {make : Byte → Byte → Instr} {j : Instr} {body : List Byte} :
    twoBytes make body = some j ↔ ∃ a b, body = [a, b] ∧ make a b = j := by
  rcases body with _ | ⟨a, _ | ⟨b, _ | ⟨c, rest⟩⟩⟩ <;> simp [twoBytes]

theorem byteHalf_eq {make : Byte → Half → Instr} {j : Instr} {body : List Byte} :
    byteHalf make body = some j ↔ ∃ a b c, body = [a, b, c] ∧ make a (halfOf b c) = j := by
  rcases body with _ | ⟨a, _ | ⟨b, _ | ⟨c, _ | ⟨d, rest⟩⟩⟩⟩ <;> simp [byteHalf]

theorem settingsBody_eq {make : Byte → List Setting → Instr} {j : Instr} {body : List Byte} :
    settingsBody make body = some j ↔
      ∃ sel pairs, body = sel :: BitVec.ofNat 8 pairs.length :: settingsBytes pairs ∧ pairs.length < 256 ∧ make sel pairs = j := by
  constructor
  · intro h
    unfold settingsBody at h
    split at h
    · rename_i sel count rest
      split at h
      · rename_i pairs hpairs
        split at h
        · rename_i hlen
          refine ⟨sel, pairs, ?_, hlen ▸ count.isLt, Option.some.inj h⟩
          rw [hlen, ofNat_byte_toNat, settingsBytes_of hpairs]
        · cases h
      · cases h
    · cases h
  · rintro ⟨sel, pairs, rfl, hlen, rfl⟩
    simp [settingsBody, Nat.mod_eq_of_lt hlen]

theorem writeDayCodesBody_eq {tag : Byte} {j : Instr} {body : List Byte} : writeDayCodesBody tag body = some j ↔
    ∃ pairs, body = BitVec.ofNat 8 pairs.length :: dayPairsBytes pairs ∧ pairs.length < 256 ∧ .writeDayCodes tag pairs = j := by
  constructor
  · intro h
    unfold writeDayCodesBody at h
    split at h
    · rename_i count rest
      split at h
      · rename_i pairs hpairs
        split at h
        · rename_i hlen
          refine ⟨pairs, ?_, hlen ▸ count.isLt, Option.some.inj h⟩
          rw [hlen, ofNat_byte_toNat, dayPairsBytes_of hpairs]
        · cases h
      · cases h
    · cases h
  · rintro ⟨pairs, rfl, hlen, rfl⟩
    simp [writeDayCodesBody, Nat.mod_eq_of_lt hlen]

/-! ### Encoding, then decoding -/

theorem settingsFit_lt {pairs : List Setting} (h : settingsFit pairs = true) : pairs.length < 256 := by
  simp only [settingsFit, decide_eq_true_eq] at h; omega

theorem requestOf_encode {i : Instr} {f : Frame} (hw : i.wellFormed = true) (hf : encode i = some f) :
    requestOf f.kind f.tag f.body = some (some i) := by
  cases i
  case writeProduct tag index p sig =>
    cases hf
    cases sig <;> simp [requestOf, writeProductBody, halfBytes]
  case writeDayCodes tag pairs =>
    cases hf
    simp only [Instr.wellFormed, decide_eq_true_eq] at hw
    exact congrArg some (writeDayCodesBody_eq.mpr ⟨pairs, rfl, by omega, rfl⟩)
  case laneSettings tag lane pairs => cases hf; exact congrArg some (settingsBody_eq.mpr ⟨lane, pairs, rfl, settingsFit_lt hw, rfl⟩)
  case headSettings tag head pairs => cases hf; exact congrArg some (settingsBody_eq.mpr ⟨head, pairs, rfl, settingsFit_lt hw, rfl⟩)
  case crumbSettings tag lane pairs => cases hf; exact congrArg some (settingsBody_eq.mpr ⟨lane, pairs, rfl, settingsFit_lt hw, rfl⟩)
  case readLoaf => cases hf; simp [requestOf, readLoafBody, halfBytes]
  case trialPlan => cases hf; simp [requestOf, trialPlanBody, halfBytes]
  case setWearRate => cases hf; simp [requestOf, byteHalf, halfBytes]
  case writeWatch => cases hf; simp [requestOf, writeWatchBody, halfBytes]
  case connect tag first second => cases hf; cases second <;> rfl
  case reloadMagazine => cases hf; simp [requestOf, byteHalf, halfBytes]
  case setSignature => cases hf; simp [requestOf, setSignatureBody, halfBytes]
  all_goals cases hf; try rfl

/-- Settles O12. -/
theorem requestFramesDecode : Obligations.RequestFramesDecode := by
  intro i f hw hf
  simp [decodeRequest, requestOf_encode hw hf]

/-! ### Decoding, then encoding -/

theorem decodeRequest_ok {f : Frame} {i : Instr} : decodeRequest f = .ok i ↔ requestOf f.kind f.tag f.body = some (some i) := by
  unfold decodeRequest
  split <;> simp_all

theorem settingsFit_of {sel n : Byte} {pairs : List Setting} (h : (sel :: n :: settingsBytes pairs).length ≤ 248) : settingsFit pairs = true := by
  simp only [List.length_cons, Sys2Proof.Laws.Layout.settingsBytes_length] at h
  simp only [settingsFit, decide_eq_true_eq]; omega

theorem writeProductBody_encode {tag : Byte} {body : List Byte} {i : Instr} (h : writeProductBody tag body = some i) :
    encode i = some ⟨0x18, tag, body⟩ ∧ i.wellFormed = true := by
  unfold writeProductBody at h
  split at h
  · cases h; simp [encode, Instr.wellFormed]
  · cases h; simp [encode, Instr.wellFormed]
  · cases h

theorem writeWatchBody_encode {tag : Byte} {body : List Byte} {i : Instr} (h : writeWatchBody tag body = some i) :
    encode i = some ⟨0x30, tag, body⟩ ∧ i.wellFormed = true := by
  unfold writeWatchBody at h
  split at h
  · cases h; simp [encode, Instr.wellFormed]
  · cases h

theorem readLoafBody_encode {tag : Byte} {body : List Byte} {i : Instr} (h : readLoafBody tag body = some i) :
    encode i = some ⟨0x23, tag, body⟩ ∧ i.wellFormed = true := by
  unfold readLoafBody at h
  split at h
  · cases h; simp [encode, Instr.wellFormed]
  · cases h

theorem trialPlanBody_encode {tag : Byte} {body : List Byte} {i : Instr} (h : trialPlanBody tag body = some i) :
    encode i = some ⟨0x28, tag, body⟩ ∧ i.wellFormed = true := by
  unfold trialPlanBody at h
  split at h
  · cases h; simp [encode, Instr.wellFormed]
  · cases h

theorem connectBody_encode {tag : Byte} {body : List Byte} {i : Instr} (h : connectBody tag body = some i) :
    encode i = some ⟨0x38, tag, body⟩ ∧ i.wellFormed = true := by
  unfold connectBody at h
  split at h <;> cases h <;> exact ⟨rfl, rfl⟩

theorem setSignatureBody_encode {tag : Byte} {body : List Byte} {i : Instr} (h : setSignatureBody tag body = some i) :
    encode i = some ⟨0x42, tag, body⟩ ∧ i.wellFormed = true := by
  unfold setSignatureBody at h
  split at h
  · cases h; simp [encode, Instr.wellFormed]
  · cases h

theorem writeDayCodesBody_encode {tag : Byte} {body : List Byte} {i : Instr} (hfit : body.length ≤ 248)
    (h : writeDayCodesBody tag body = some i) : encode i = some ⟨0x1D, tag, body⟩ ∧ i.wellFormed = true := by
  obtain ⟨pairs, rfl, -, rfl⟩ := writeDayCodesBody_eq.mp h
  simp only [List.length_cons, Sys2Proof.Laws.Layout.dayPairsBytes_length] at hfit
  refine ⟨rfl, ?_⟩
  simp only [Instr.wellFormed, decide_eq_true_eq]; omega

/-- The body of each kind is of one of a few shapes; in each the request read is the one that writes the body. -/
theorem encode_requestOf {kind tag : Byte} {body : List Byte} {i : Instr} (hfit : body.length ≤ 248) (h : requestOf kind tag body = some (some i)) :
    encode i = some ⟨kind, tag, body⟩ ∧ i.wellFormed = true := by
  unfold requestOf at h
  split at h
  case h_50 => cases h
  all_goals rw [Option.some.injEq] at h
  all_goals first
    | (obtain ⟨rfl, rfl⟩ := noBody_eq.mp h; exact ⟨rfl, rfl⟩)
    | (obtain ⟨a, rfl, rfl⟩ := oneByte_eq.mp h; exact ⟨rfl, rfl⟩)
    | (obtain ⟨a, b, rfl, rfl⟩ := twoBytes_eq.mp h; exact ⟨rfl, rfl⟩)
    | (obtain ⟨a, b, c, rfl, rfl⟩ := byteHalf_eq.mp h; simp [encode, Instr.wellFormed])
    | (obtain ⟨sel, pairs, rfl, -, rfl⟩ := settingsBody_eq.mp h; exact ⟨rfl, settingsFit_of hfit⟩)
    | exact writeProductBody_encode h
    | exact writeWatchBody_encode h
    | exact readLoafBody_encode h
    | exact trialPlanBody_encode h
    | exact connectBody_encode h
    | exact setSignatureBody_encode h
    | exact writeDayCodesBody_encode hfit h

/-- Settles O13. -/
theorem decodedFramesEncode : Obligations.DecodedFramesEncode := by
  intro f i hfit h
  exact encode_requestOf hfit (decodeRequest_ok.mp h)

/-! ### Kinds and lengths -/

theorem noBody_isSome {i : Instr} {body : List Byte} : (noBody i body).isSome = true ↔ body.length = 0 := by
  cases body <;> simp [noBody]

theorem oneByte_isSome {make : Byte → Instr} {body : List Byte} : (oneByte make body).isSome = true ↔ body.length = 1 := by
  rcases body with _ | ⟨a, _ | ⟨b, rest⟩⟩ <;> simp [oneByte]

theorem twoBytes_isSome {make : Byte → Byte → Instr} {body : List Byte} : (twoBytes make body).isSome = true ↔ body.length = 2 := by
  rcases body with _ | ⟨a, _ | ⟨b, _ | ⟨c, rest⟩⟩⟩ <;> simp [twoBytes]

theorem byteHalf_isSome {make : Byte → Half → Instr} {body : List Byte} : (byteHalf make body).isSome = true ↔ body.length = 3 := by
  rcases body with _ | ⟨a, _ | ⟨b, _ | ⟨c, _ | ⟨d, rest⟩⟩⟩⟩ <;> simp [byteHalf]

theorem readLoafBody_isSome {tag : Byte} {body : List Byte} : (readLoafBody tag body).isSome = true ↔ body.length = 2 := by
  rcases body with _ | ⟨a, _ | ⟨b, _ | ⟨c, rest⟩⟩⟩ <;> simp [readLoafBody]

theorem setSignatureBody_isSome {tag : Byte} {body : List Byte} : (setSignatureBody tag body).isSome = true ↔ body.length = 4 := by
  rcases body with _ | ⟨a, _ | ⟨b, _ | ⟨c, _ | ⟨d, _ | ⟨e, rest⟩⟩⟩⟩⟩ <;> simp [setSignatureBody]

theorem connectBody_isSome {tag : Byte} {body : List Byte} : (connectBody tag body).isSome = true ↔ body.length = 2 ∨ body.length = 4 := by
  rcases body with _ | ⟨a, _ | ⟨b, _ | ⟨c, _ | ⟨d, _ | ⟨e, rest⟩⟩⟩⟩⟩ <;> simp [connectBody]

theorem trialPlanBody_isSome {tag : Byte} {body : List Byte} : (trialPlanBody tag body).isSome = true ↔ body.length = 6 := by
  rcases body with _ | ⟨a, _ | ⟨b, _ | ⟨c, _ | ⟨d, _ | ⟨e, _ | ⟨f, _ | ⟨g, rest⟩⟩⟩⟩⟩⟩⟩ <;> simp [trialPlanBody]

/-- A list of a known length is the list of its places. -/
theorem eq_places {n : Nat} {body : List Byte} (h : body.length = n) : body = List.ofFn fun k : Fin n => body[k]'(by omega) := by
  subst h; simp

theorem writeProductBody_isSome {tag : Byte} {body : List Byte} :
    (writeProductBody tag body).isSome = true ↔ body.length = 16 ∨ body.length = 18 := by
  constructor
  · intro h
    unfold writeProductBody at h
    split at h
    · exact .inl rfl
    · exact .inr rfl
    · cases h
  · rintro (h | h)
    · rw [eq_places h]; simp [List.ofFn_succ, writeProductBody]
    · rw [eq_places h]; simp [List.ofFn_succ, writeProductBody]

theorem writeWatchBody_isSome {tag : Byte} {body : List Byte} : (writeWatchBody tag body).isSome = true ↔ body.length = 21 := by
  constructor
  · intro h
    unfold writeWatchBody at h
    split at h
    · rfl
    · cases h
  · intro h
    rw [eq_places h]; simp [List.ofFn_succ, writeWatchBody]

theorem settingsOf_length {body : List Byte} {pairs : List Setting} (h : settingsOf body = some pairs) : body.length = 5 * pairs.length := by
  rw [← settingsBytes_of h, Sys2Proof.Laws.Layout.settingsBytes_length]

theorem dayPairsOf_length {body : List Byte} {pairs : List DayPair} (h : dayPairsOf body = some pairs) : body.length = 4 * pairs.length := by
  rw [← dayPairsBytes_of h, Sys2Proof.Laws.Layout.dayPairsBytes_length]

theorem settingsBody_isSome {make : Byte → List Setting → Instr} {body : List Byte} :
    (settingsBody make body).isSome = true ↔ body.length = 2 + 5 * (body[1]?.map BitVec.toNat).getD 0 := by
  rcases body with _ | ⟨sel, _ | ⟨count, rest⟩⟩
  · simp [settingsBody]
  · simp [settingsBody]
  · cases hp : settingsOf rest with
    | none =>
      have hno : ¬ 5 ∣ rest.length := by rw [← settingsOf_isSome, hp]; simp
      simp [settingsBody, hp]; omega
    | some pairs =>
      have := settingsOf_length hp
      by_cases hc : pairs.length = count.toNat <;> simp [settingsBody, hp, hc] <;> omega

theorem writeDayCodesBody_isSome {tag : Byte} {body : List Byte} :
    (writeDayCodesBody tag body).isSome = true ↔ body.length = 1 + 4 * (body[0]?.map BitVec.toNat).getD 0 := by
  rcases body with _ | ⟨count, rest⟩
  · simp [writeDayCodesBody]
  · cases hp : dayPairsOf rest with
    | none =>
      have hno : ¬ 4 ∣ rest.length := by rw [← dayPairsOf_isSome, hp]; simp
      simp [writeDayCodesBody, hp]; omega
    | some pairs =>
      have := dayPairsOf_length hp
      by_cases hc : pairs.length = count.toNat <;> simp [writeDayCodesBody, hp, hc] <;> omega

/-- R182: the body of a listed kind is read exactly where its length is one of the kind's. -/
theorem requestOf_of_length {kind tag : Byte} {body : List Byte} {o : Option Instr} (h : requestOf kind tag body = some o) :
    ∃ ls, bodyLengths ⟨kind, tag, body⟩ = some ls ∧ (o.isSome = true ↔ body.length ∈ ls) := by
  unfold requestOf at h
  split at h
  case h_50 => cases h
  all_goals
    obtain rfl := Option.some.inj h
    refine ⟨_, rfl, ?_⟩
    simp only [List.mem_cons, List.not_mem_nil, or_false]
    first
      | exact noBody_isSome
      | exact oneByte_isSome
      | exact twoBytes_isSome
      | exact byteHalf_isSome
      | exact settingsBody_isSome
      | exact writeDayCodesBody_isSome
      | exact writeProductBody_isSome
      | exact writeWatchBody_isSome
      | exact readLoafBody_isSome
      | exact trialPlanBody_isSome
      | exact connectBody_isSome
      | exact setSignatureBody_isSome

theorem bodyLengths_of_unlisted {kind tag : Byte} {body : List Byte} (h : requestOf kind tag body = none) :
    bodyLengths ⟨kind, tag, body⟩ = none := by
  unfold requestOf at h
  split at h
  case h_50 => simp_all [bodyLengths, ← BitVec.toNat_inj]
  all_goals cases h

/-- Settles O14. -/
theorem kindAndLengthAreCheckedFirst : Obligations.KindAndLengthAreCheckedFirst := by
  intro f s
  cases hr : requestOf f.kind f.tag f.body with
  | none =>
    have hnone : bodyLengths f = none := bodyLengths_of_unlisted hr
    refine ⟨fun _ => by simp [takeFrame, decodeRequest, hr, refuse], fun ls h => ?_, fun ls h => ?_⟩ <;> simp [hnone] at h
  | some o =>
    obtain ⟨known, hknown, hlen⟩ := requestOf_of_length hr
    have hknown : bodyLengths f = some known := hknown
    refine ⟨fun h => by simp [hknown] at h, fun ls h hout => ?_, fun ls h hin => ?_⟩ <;> obtain rfl := Option.some.inj (hknown.symm.trans h)
    · have : o = none := by simpa using mt hlen.mp hout
      simp [takeFrame, decodeRequest, hr, this, refuse]
    · obtain ⟨i, rfl⟩ := Option.isSome_iff_exists.mp (hlen.mpr hin)
      have hok : decodeRequest f = .ok i := by simp [decodeRequest, hr]
      exact ⟨i, hok, by simp [takeFrame, hok]⟩

end Sys2Proof.Machine
end

section
/-! The receiver of the Link Port byte by byte (O16), and the events of the port, the form of a reply and the value codes (O17). -/

namespace Sys2Proof.Machine

/-! ### One byte (R173) -/

section
variable {s : State} {b : Byte}

theorem takeByte_other (h : s.link.receiver = .hunting) (hb : b ≠ 0xC3) : s.takeByte b = s := by
  unfold State.takeByte; rw [h]; exact if_neg hb

theorem takeByte_start (h : s.link.receiver = .hunting) (hb : b = 0xC3) : s.takeByte b = { s with link := s.link.gather .length } := by
  unfold State.takeByte; rw [h]; exact if_pos hb

theorem takeByte_badLength (h : s.link.receiver = .length) (hb : inRange 2 250 b.toNat = false) : s.takeByte b = { s with link := s.link.hunt } := by
  unfold State.takeByte; rw [h]; simp [hb]

theorem takeByte_goodLength (h : s.link.receiver = .length) (hb : inRange 2 250 b.toNat = true) :
    s.takeByte b = { s with link := s.link.gather (.content b.toNat []) } := by
  unfold State.takeByte; rw [h]; simp [hb]

theorem takeByte_more {n : Nat} {got : List Byte} (h : s.link.receiver = .content n got) (hb : got.length + 1 < n + 2) :
    s.takeByte b = { s with link := s.link.gather (.content n (got ++ [b])) } := by
  unfold State.takeByte; rw [h]; exact if_pos hb

theorem takeByte_last {n : Nat} {got : List Byte} (h : s.link.receiver = .content n got) (hb : ¬ got.length + 1 < n + 2) :
    s.takeByte b = s.completeFrame n (got ++ [b]) := by
  unfold State.takeByte; rw [h]; exact if_neg hb

end

theorem inRange_eq_true {low high n : Nat} : inRange low high n = true ↔ low ≤ n ∧ n ≤ high := by simp [inRange]

theorem inRange_eq_false {low high n : Nat} : inRange low high n = false ↔ n < low ∨ high < n := by
  simp only [inRange, Bool.and_eq_false_iff, decide_eq_false_iff_not]; omega

/-- The receiver goes on in a frame with these bytes of its content gathered. -/
def State.gathered (n : Nat) (got : List Byte) (s : State) : State := { s with link := s.link.gather (.content n got) }

/-- Content bytes before the last gather up. -/
theorem execAll_gathered (n : Nat) (rest : List Instr) (s : State) : ∀ (bytes got : List Byte), got.length + bytes.length < n + 2 →
    execAll (bytes.map .byteReceived ++ rest) (s.gathered n got) = execAll rest (s.gathered n (got ++ bytes))
  | [], got, _ => by simp
  | b :: bytes, got, h => by
    simp only [List.length_cons] at h
    have hb : exec (.byteReceived b) (s.gathered n got) = .next (s.gathered n (got ++ [b])) :=
      congrArg Host.Outcome.next (takeByte_more (n := n) (got := got) rfl (by omega))
    have ih := execAll_gathered n rest s bytes (got ++ [b]) (by simp; omega)
    rw [List.append_assoc] at ih
    simpa [execAll, hb] using ih

theorem halfBytes_inj {a b : Half} : halfBytes a = halfBytes b ↔ a = b := by
  refine ⟨fun h => ?_, congrArg _⟩
  simp only [halfBytes, List.cons.injEq, and_true] at h
  rw [← halfOf_bytes a, ← halfOf_bytes b, h.1, h.2]

/-- The receiver hunts again. -/
def State.hunting (s : State) : State := { s with link := s.link.hunt }

/-- R174: the complete content of a frame is checked, and its frame arrives where the check is right. -/
theorem completeFrame_eq (f : Frame) (check : BitVec 16) (s : State) :
    s.completeFrame (f.body.length + 2) (f.kind :: f.tag :: (f.body ++ halfBytes check)) =
      if check = frameCheck f then s.hunting.arrive f (takeFrame f) else s.hunting := by
  have htake : (f.kind :: f.tag :: (f.body ++ halfBytes check)).take (f.body.length + 2) = f.kind :: f.tag :: f.body := by simp
  have hdrop : (f.kind :: f.tag :: (f.body ++ halfBytes check)).drop (f.body.length + 2) = halfBytes check := by simp
  unfold State.completeFrame
  rw [htake, hdrop]
  simp only [halfBytes_inj]
  rfl

theorem hunting_eq {s : State} (h : s.link.receiver = .hunting) : s.hunting = { s with link := { s.link with interByte := none } } := by
  unfold State.hunting LinkPort.hunt; rw [← h]

/-- R173: the bytes of a frame, from a hunting receiver. -/
theorem execAll_frame (f : Frame) (check : BitVec 16) (s : State) (hfit : f.body.length ≤ 248) (h : s.link.receiver = .hunting) :
    execAll ((frameBytes f check).map .byteReceived) s =
      some (if check = frameCheck f then s.hunting.arrive f (takeFrame f) else s.hunting) := by
  have hlength : (BitVec.ofNat 8 (f.body.length + 2)).toNat = f.body.length + 2 := by
    rw [BitVec.toNat_ofNat]; omega
  have hstart : exec (.byteReceived 0xC3) s = .next { s with link := s.link.gather .length } :=
    congrArg Host.Outcome.next (takeByte_start h rfl)
  have hcount : exec (.byteReceived (BitVec.ofNat 8 (f.body.length + 2))) { s with link := s.link.gather .length } =
      .next (s.gathered (f.body.length + 2) []) := by
    refine congrArg Host.Outcome.next ((takeByte_goodLength rfl ?_).trans ?_)
    · rw [inRange_eq_true, hlength]; omega
    · rw [hlength]; rfl
  have hcontent := execAll_gathered (f.body.length + 2) [.byteReceived (loByte check)] s (f.kind :: f.tag :: (f.body ++ [hiByte check])) []
    (by simp)
  have hlast : exec (.byteReceived (loByte check)) (s.gathered (f.body.length + 2) (f.kind :: f.tag :: (f.body ++ [hiByte check]))) =
      .next (if check = frameCheck f then s.hunting.arrive f (takeFrame f) else s.hunting) := by
    refine congrArg Host.Outcome.next ((takeByte_last rfl ?_).trans ?_)
    · simp
    · refine Eq.trans ?_ (completeFrame_eq f check (s.gathered (f.body.length + 2) (f.kind :: f.tag :: (f.body ++ [hiByte check]))))
      simp [halfBytes]
  have hbytes : (frameBytes f check).map Instr.byteReceived = .byteReceived 0xC3 :: .byteReceived (BitVec.ofNat 8 (f.body.length + 2)) ::
      ((f.kind :: f.tag :: (f.body ++ [hiByte check])).map .byteReceived ++ [.byteReceived (loByte check)]) := by
    simp [frameBytes, halfBytes]
  rw [hbytes]
  simp only [execAll, hstart, hcount]
  rw [hcontent]
  simp only [execAll, hlast, List.nil_append]

/-- Settles O16. -/
theorem frameBytesReachThePort : Obligations.FrameBytesReachThePort := by
  refine ⟨fun f s hfit h => ?_, fun f check s hfit h hcheck => ?_⟩
  · rw [execAll_frame f _ s hfit h, if_pos rfl, hunting_eq h]
  · rw [execAll_frame f _ s hfit h, if_neg hcheck, hunting_eq h]

/-! ### The last byte, the timeout and the end of a reply -/

theorem exec_frameComplete_last (f : Frame) (check : BitVec 16) (s : State)
    (h : s.link.receiver = .content (f.body.length + 2) (f.kind :: f.tag :: (f.body ++ [hiByte check]))) :
    exec (.frameComplete (loByte check)) s = .next (if check = frameCheck f then s.hunting.arrive f (takeFrame f) else s.hunting) := by
  have hawaits : s.link.receiver.awaitsLast = true := by rw [h]; simp [Receiver.awaitsLast]
  have hbyte : s.takeByte (loByte check) = if check = frameCheck f then s.hunting.arrive f (takeFrame f) else s.hunting := by
    rw [takeByte_last h (by simp), ← completeFrame_eq]
    simp [halfBytes]
  exact (if_pos hawaits).trans (congrArg Host.Outcome.next hbyte)

theorem exec_replySent {s : State} {h : Handled} {r : Frame} (hh : s.link.handled = some h) (hr : h.reply = some r) :
    exec .replySent s = .next s.nextFrame := if_pos (by simp [LinkPort.replying, hh, hr])

theorem exec_replySent_none {s : State} (h : ∀ x, s.link.handled = some x → x.reply = none) :
    exec .replySent s = .next s ∧ s.transmitOutput = [] := by
  cases hh : s.link.handled with
  | none => exact ⟨if_neg (by simp [LinkPort.replying, hh]), by simp [State.transmitOutput, hh]⟩
  | some x => exact ⟨if_neg (by simp [LinkPort.replying, hh, h x hh]), by simp [State.transmitOutput, hh, h x hh]⟩

/-! ### The summary byte (R176) -/

theorem summary_bits (st : LineState) (waiting lost overrun : Bool) :
    let b := BitVec.ofNat 8 ((LineState.code st).toNat + bit 2 waiting + bit 3 lost + bit 4 overrun)
    b.toNat % 4 = (LineState.code st).toNat ∧ b.getLsbD 2 = waiting ∧ b.getLsbD 3 = lost ∧ b.getLsbD 4 = overrun ∧ b.toNat < 32 := by
  cases st <;> revert waiting lost overrun <;> decide

theorem lineState_code_toNat (st : LineState) : (LineState.code st).toNat = (match st with
    | .stopped => 0
    | .running => 1
    | .draining => 2
    | .halted => 3) := by
  cases st <;> rfl

theorem formReply_transmits (f : Frame) (code : ResultCode) (data : List Byte) (clears : Bool) (s : State) :
    (s.formReply f code data clears).transmitOutput =
      let counted := BitVec.ofNat 8 (data.length + 4) :: (f.kind + 0x80) :: f.tag :: code.byte :: s.summaryByte :: data
      0xC3 :: (counted ++ [hiByte (crc16 counted), loByte (crc16 counted)]) := by
  rfl

/-! ### Value codes -/

theorem productCode_toNat (p : ProductIx) : (productCode (some p)).toNat = p.val := by
  simp only [productCode, BitVec.toNat_ofNat]
  have := p.isLt
  omega

/-- Settles O17. -/
theorem portEvents : Obligations.PortEvents := by
  refine ⟨fun b s => ⟨fun h hb => ?_, fun h hb => ?_, fun h hb => ?_, fun h hlow hhigh => ?_, fun n got h hb => ?_⟩,
    fun f check s => ⟨fun h => ⟨fun hc => ?_, fun hc => ?_⟩, rfl⟩, ⟨fun s h r hh hr => ⟨fun hw => ?_, fun f hw => ?_⟩, fun s => exec_replySent_none⟩,
    fun f code data clears s => ⟨s.summaryByte, rfl, ?_⟩, ?_⟩
  · exact congrArg Host.Outcome.next (takeByte_other h hb)
  · exact congrArg Host.Outcome.next (takeByte_start h hb)
  · exact congrArg Host.Outcome.next (takeByte_badLength h (inRange_eq_false.mpr hb))
  · exact congrArg Host.Outcome.next (takeByte_goodLength h (inRange_eq_true.mpr ⟨hlow, hhigh⟩))
  · exact congrArg Host.Outcome.next (takeByte_more h hb)
  · rw [exec_frameComplete_last f check s h, if_pos hc]; rfl
  · rw [exec_frameComplete_last f check s h, if_neg hc]; rfl
  · rw [exec_replySent hh hr, State.nextFrame, hw]
  · rw [exec_replySent hh hr, State.nextFrame, hw]
  · obtain ⟨hstate, hbits⟩ := summary_bits s.line.state (!s.notices.queue.isEmpty) s.notices.lost s.link.overrun
    obtain ⟨hwaiting, hlost, hoverrun, hlt⟩ := hbits
    exact ⟨hstate.trans (lineState_code_toNat _), hwaiting, hlost, hoverrun, hlt, formReply_transmits f code data clears s⟩
  · refine ⟨fun n => ?_, rfl, ⟨rfl, rfl⟩, ⟨rfl, rfl⟩, ⟨rfl, rfl⟩, rfl, fun h => rfl, rfl, productCode_toNat, rfl, fun x => rfl, rfl, rfl, rfl,
      rfl, rfl, rfl, rfl, rfl, fun x => rfl, rfl, rfl, rfl, rfl, fun c m => rfl, fun p => ⟨rfl, rfl⟩, rfl, rfl, rfl, rfl, fun _ _ _ _ _ => rfl, rfl,
      fun n => rfl⟩
    simp [beBytes]

end Sys2Proof.Machine
end

section
/-! Refusals (O18): a request that is not answered OK has changed nothing, and a lane out of range is refused first. -/

namespace Sys2Proof.Machine

/-- A reply other than OK comes with the state as it was found, and clears no notice lost. -/
def Served.CleanFor (s : State) (r : Served) : Prop :=
  ∀ code data, r.reply = some (code, data) → code ≠ .ok → r.state = s ∧ r.clearsLost = false

section
variable (s : State)

theorem clean_served (t : State) (data : List Byte) : (served t data).CleanFor s := by
  intro code data h hc; cases h; exact absurd rfl hc

theorem clean_refuse (code : ResultCode) (data : List Byte) : (refuse s code data).CleanFor s := fun _ _ _ _ => ⟨rfl, rfl⟩

theorem clean_onLane {b : Byte} {f : Lane → Served} (h : ∀ l, (f l).CleanFor s) : (onLane b s f).CleanFor s := by
  unfold onLane; split
  · exact clean_refuse s _ _
  · exact h _

theorem clean_onHead {b : Byte} {f : Head → Served} (h : ∀ l, (f l).CleanFor s) : (onHead b s f).CleanFor s := by
  unfold onHead; split
  · exact clean_refuse s _ _
  · exact h _

theorem clean_onProduct {b : Byte} {f : ProductIx → Served} (h : ∀ l, (f l).CleanFor s) : (onProduct b s f).CleanFor s := by
  unfold onProduct; split
  · exact clean_refuse s _ _
  · exact h _

theorem clean_ite {c : Prop} [Decidable c] {x y : Served} (h : x.CleanFor s) (k : y.CleanFor s) : (if c then x else y).CleanFor s := by
  split
  · exact h
  · exact k

theorem clean_serve (i : Instr) : (serve i s).CleanFor s := by
  cases i
  case readNotices tag count =>
    refine clean_ite s ?_ (clean_refuse s _ _)
    intro code data h hc; cases h; exact absurd rfl hc
  case setLoafReports tag mode =>
    simp only [serve, doSetLoafReports]; split
    · exact clean_refuse s _ _
    · exact clean_served s _ _
  case start => exact clean_ite s (clean_refuse s _ _) (clean_served s _ _)
  case stop tag form =>
    simp only [serve, doStop]; split
    · exact clean_refuse s _ _
    · exact clean_served s _ _
  case resume => exact clean_ite s (clean_refuse s _ _) (clean_served s _ _)
  case clear => exact clean_ite s (clean_refuse s _ _) (clean_served s _ _)
  case writeProduct tag index p sig =>
    refine clean_onProduct s fun p => ?_
    split
    · exact clean_refuse s _ _
    · exact clean_ite s (clean_refuse s _ _) (clean_served s _ _)
  case eraseProduct =>
    exact clean_onProduct s fun p => clean_ite s (clean_refuse s _ _) (clean_ite s (clean_refuse s _ _) (clean_served s _ _))
  case readProduct => exact clean_onProduct s fun p => clean_served s _ _
  case assignProduct =>
    refine clean_onLane s fun l => ?_
    dsimp only; split
    · exact clean_refuse s _ _
    · exact clean_ite s (clean_served s _ _) (clean_refuse s _ _)
  case writeDayCodes => exact clean_ite s (clean_served s _ _) (clean_refuse s _ _)
  case laneSettings =>
    refine clean_onLane s fun l => clean_ite s ?_ (clean_refuse s _ _)
    split
    · exact clean_refuse s _ _
    · exact clean_served s _ _
  case readLaneSettings => exact clean_onLane s fun _ => clean_served s _ _
  case readQueue => exact clean_onLane s fun _ => clean_ite s (clean_served s _ _) (clean_refuse s _ _)
  case readLoaf =>
    refine clean_ite s (clean_refuse s _ _) ?_
    split
    · exact clean_refuse s _ _
    · exact clean_served s _ _
  case trialPlan =>
    refine clean_onLane s fun _ => clean_ite s (clean_onProduct s fun p => clean_ite s (clean_refuse s _ _) (clean_ite s ?_ (clean_refuse s _ _)))
      (clean_refuse s _ _)
    intro code data h; cases h
  case setWearRate => exact clean_onLane s fun _ => clean_served s _ _
  case bladeChange => exact clean_onLane s fun _ => clean_ite s (clean_refuse s _ _) (clean_served s _ _)
  case readSlicer => exact clean_onLane s fun _ => clean_served s _ _
  case writeWatch =>
    simp only [serve, doWriteWatch]; split
    · exact clean_refuse s _ _
    · split
      · exact clean_refuse s _ _
      · exact clean_served s _ _
  case readCapture => exact clean_ite s (clean_served s _ _) (clean_refuse s _ _)
  case connect =>
    simp only [serve, doConnect]; split
    · exact clean_refuse s _ _
    · exact clean_ite s (clean_served s _ _) (clean_refuse s _ _)
  case headSettings => exact clean_onHead s fun _ => clean_ite s (clean_served s _ _) (clean_refuse s _ _)
  case readHead => exact clean_onHead s fun _ => clean_served s _ _
  case reloadMagazine => exact clean_onHead s fun _ => clean_served s _ _
  case learnSignature =>
    refine clean_onHead s fun _ => ?_
    dsimp only; split
    · exact clean_refuse s _ _
    · exact clean_served s _ _
  case setSignature =>
    refine clean_onProduct s fun _ => ?_
    split
    · exact clean_refuse s _ _
    · exact clean_ite s (clean_refuse s _ _) (clean_ite s (clean_refuse s _ _) (clean_served s _ _))
  case tieCheck =>
    simp only [serve, doTieCheck]; split
    · exact clean_served s _ _
    · exact clean_refuse s _ _
  case readTier => exact clean_onHead s fun _ => clean_served s _ _
  case crumbSettings => exact clean_onLane s fun _ => clean_ite s (clean_served s _ _) (clean_refuse s _ _)
  case setCrumbMode =>
    refine clean_onLane s fun _ => ?_
    split
    · exact clean_refuse s _ _
    · exact clean_ite s (clean_refuse s _ _) (clean_ite s (clean_refuse s _ _) (clean_served s _ _))
  case purgeStart =>
    refine clean_onLane s fun _ => ?_
    split
    · exact clean_refuse s _ _
    · exact clean_refuse s _ _
    · exact clean_ite s (clean_refuse s _ _) (clean_ite s (clean_refuse s _ _) (clean_served s _ _))
    · exact clean_ite s (clean_refuse s _ _) (clean_ite s (clean_refuse s _ _) (clean_ite s (clean_refuse s _ _) (clean_served s _ _)))
  case purgeStop =>
    refine clean_onLane s fun _ => ?_
    split
    · exact clean_refuse s _ _
    · exact clean_refuse s _ _
    · exact clean_served s _ _
    · exact clean_served s _ _
  case singlePurge =>
    exact clean_onLane s fun _ => clean_ite s (clean_refuse s _ _) (clean_ite s (clean_refuse s _ _) (clean_ite s (clean_served s _ _) (clean_served s _ _)))
  case crumbReset => exact clean_onLane s fun _ => clean_served s _ _
  case readCrumb => exact clean_onLane s fun _ => clean_served s _ _
  case readTotals => exact clean_onProduct s fun _ => clean_served s _ _
  case readSnapshot =>
    simp only [serve, doReadSnapshot]; split
    · exact clean_refuse s _ _
    · split
      · exact clean_refuse s _ _
      · exact clean_served s _ _
  case identify => exact clean_served s _ _
  case flushNotices => exact clean_served s _ _
  case setNoticeClasses => exact clean_served s _ _
  case readLineStatus => exact clean_served s _ _
  case readAssignment => exact clean_served s _ _
  case readPlannerStatus => exact clean_served s _ _
  case readWatch => exact clean_served s _ _
  case flushCapture => exact clean_served s _ _
  case readRouter => exact clean_served s _ _
  case closeShift => exact clean_served s _ _
  case readLaneTotals => exact clean_served s _ _
  all_goals exact clean_refuse s _ _

theorem clean_takeFrame (f : Frame) : (takeFrame f s).CleanFor s := by
  unfold takeFrame; split
  · exact clean_refuse s _ _
  · exact clean_serve s _

end

/-- The requests that carry a lane, by the lane byte. -/
def Instr.laneByte : Instr → Option Byte
  | .assignProduct _ b _ | .laneSettings _ b _ | .readLaneSettings _ b | .readQueue _ b _ | .trialPlan _ b _ _ _ | .setWearRate _ b _
  | .bladeChange _ b | .readSlicer _ b | .crumbSettings _ b _ | .setCrumbMode _ b _ | .purgeStart _ b | .purgeStop _ b
  | .singlePurge _ b | .crumbReset _ b | .readCrumb _ b => some b
  | _ => none

/-- R182: each of them resolves its lane before anything else. -/
theorem rejects_of_laneByte {i : Instr} {b : Byte} (hi : Instr.laneByte i = some b) (hb : 1 < b.toNat) {s : State} (hfree : s.link.handled = none) :
    Rejects i s .badValue [] := by
  have hserve : serve i s = refuse s .badValue := by
    cases i <;> cases hi <;> exact onLane_of_one_lt hb s _
  refine rejects_of_refuse (serve i) (exec_of_isRequest ?_ s) hfree hserve
  cases i <;> cases hi <;> rfl

/-- Settles O18. -/
theorem refusedRequestsChangeNothing : Obligations.RefusedRequestsChangeNothing := by
  refine ⟨fun f s => clean_takeFrame s f, fun tag b c rate length height pairs s hfree hb i hi => ?_⟩
  refine rejects_of_laneByte (b := b) ?_ hb hfree
  simp only [List.mem_cons, List.not_mem_nil, or_false] at hi
  rcases hi with rfl | rfl | rfl | rfl | rfl | rfl | rfl | rfl | rfl | rfl | rfl | rfl | rfl | rfl | rfl <;> rfl

end Sys2Proof.Machine
end

section
/-! The Notice Queue (O19): placing and reading notices, the sixteen records, and the loaf report of a removal. -/

namespace Sys2Proof.Machine

/-! ### Numbers in bytes -/

@[simp] theorem beBytes_one (n : Nat) : beBytes 1 n = [BitVec.ofNat 8 n] := by simp [beBytes]
@[simp] theorem beBytes_two (n : Nat) : beBytes 2 n = [BitVec.ofNat 8 (n / 256), BitVec.ofNat 8 n] := by simp [beBytes]
@[simp] theorem beBytes_three (n : Nat) : beBytes 3 n = [BitVec.ofNat 8 (n / 65536), BitVec.ofNat 8 (n / 256), BitVec.ofNat 8 n] := by
  simp [beBytes]
@[simp] theorem beBytes_four (n : Nat) :
    beBytes 4 n = [BitVec.ofNat 8 (n / 16777216), BitVec.ofNat 8 (n / 65536), BitVec.ofNat 8 (n / 256), BitVec.ofNat 8 n] := by
  simp [beBytes]

theorem fourBits_onlyFour (i : Fin 4) : fourBits (onlyFour i) = BitVec.ofNat 8 (2 ^ i.val) := by revert i; decide

theorem headBits_onlyHead (h : Head) : headBits (onlyHead h) = Head.code h := by cases h <;> decide

theorem laneBits_onlyLane (l : Lane) : laneBits (onlyLane l) = Lane.code l + 1 := by cases l <;> decide

theorem jamStates_only (h : Head) (st : HeadStep) : jamStates (PerHead.set ⟨none, none⟩ h (some st)) =
    if h = .one then HeadStep.code st else 16 * HeadStep.code st := by
  cases h <;> cases st <;> decide

theorem flags_byte (f : LoafFlags) : f.byte = BitVec.ofNat 8 ([f.closeGap, f.overlong, f.lateCut, f.miscut, f.uncheckedTie].foldr
    (fun b n => (if b then 1 else 0) + 2 * n) 0) := by
  obtain ⟨a, b, c, d, e⟩ := f
  revert a b c d e; decide

/-! ### Placing (R177) -/

theorem place_disabled {n : Notice} {q : Notices} (h : q.enabled.getLsbD n.classBit = false) : q.place n = q := by simp [Notices.place, h]

theorem place_queued {n : Notice} {q : Notices} (h : q.enabled.getLsbD n.classBit = true) (hroom : q.queue.length < Limits.noticePlaces) :
    q.place n = { q with queue := q.queue ++ [n] } := by simp [Notices.place, h, hroom]

theorem place_lost {n : Notice} {q : Notices} (h : q.enabled.getLsbD n.classBit = true) (hfull : Limits.noticePlaces ≤ q.queue.length) :
    q.place n = { q with lost := true } := by simp [Notices.place, h, Nat.not_lt.mpr hfull]

/-! ### The sixteen records -/

theorem record_of_data {n : Notice} {k : Nat} {data : List Byte} (hclass : n.classBit = k) (hdata : n.data = data) (hlen : data.length ≤ 16) :
    n.classBit = k ∧ data.length ≤ 16 ∧ n.record = data ++ List.replicate (16 - data.length) 0 :=
  ⟨hclass, hlen, by rw [Notice.record, hdata]⟩

theorem stopCause_data (c : Cause) (st : LineState) : (Notice.stopCause c st).data = [(0x02 : Byte)] ++ (match c with
         | .eStop => [(1 : Byte), 0, 0]
         | .guardOpen g => [2, BitVec.ofNat 8 (2 ^ g.val), 0]
         | .repeatFault => [3, 0, 0]
         | .slicerJam l => [4, Lane.code l + 1, 0]
         | .headJam h at' => [5, Head.code h, if h = .one then HeadStep.code at' else 16 * HeadStep.code at']
         | .bagEmpty h => [6, Head.code h, 0]
         | .commandHalt => [7, 0, 0]
         | .clipEmpty h => [8, Head.code h, 0]
         | .tieFault h => [9, Head.code h, 0]
         | .watchStop e => [10, BitVec.ofNat 8 (2 ^ e.val), 0]
         | .commandStop => [11, 0, 0]) ++ [LineState.code st] := by
  cases c <;> simp [Notice.data, Cause.block, causeBlockOf, Cause.priority, fourBits_onlyFour, headBits_onlyHead, laneBits_onlyLane, jamStates_only]

/-! ### The statement -/

theorem reportModeOf_eq_some {b : Byte} {m : ReportMode} (h : reportModeOf b = some m) : ReportMode.code m = b := by
  unfold reportModeOf at h
  (repeat' split at h) <;> cases h <;> simp_all [ReportMode.code]

theorem reportModeOf_eq_none {b : Byte} (h : 2 < b.toNat) : reportModeOf b = none := by
  have hne : ∀ c : Byte, c.toNat ≤ 2 → b ≠ c := fun c hc hb => by subst hb; omega
  unfold reportModeOf
  rw [if_neg (hne 0 (by decide)), if_neg (hne 1 (by decide)), if_neg (hne 2 (by decide))]

/-- Settles O19. -/
theorem noticesPlacedReadAndReported : Obligations.NoticesPlacedReadAndReported := by
  refine ⟨fun n s => ⟨fun h => ?_, fun h hroom => ?_, fun h hfull => ?_, ?_⟩, ?_, fun tag b s hfree => ⟨fun hlow hhigh => ?_, ?_, ?_, fun m hm => ?_, fun hb => ?_, fun hb => ?_⟩, ?_⟩
  · rw [State.notify, place_disabled h]
  · rw [State.notify, place_queued h hroom]
  · rw [State.notify, place_lost h hfull]
  · simp [State.attn]
  · intro l h p e n m k v w x y on st r
    refine ⟨fun left latched => ?_, fun c => ?_, fun before after => ?_, ?_, ?_, ?_, ?_, ?_, ?_, ?_, ?_, fun how => ?_, ?_, fun step => ?_, ?_, ?_⟩
    · refine record_of_data rfl ?_ (by simp)
      cases latched <;> rfl
    · refine record_of_data rfl (stopCause_data c st) ?_
      cases c <;> simp
    · exact record_of_data rfl rfl (by simp)
    · exact record_of_data rfl (by simp [Notice.data]) (by simp)
    · exact record_of_data rfl (by simp [Notice.data]) (by simp)
    · exact record_of_data rfl (by simp [Notice.data]) (by simp)
    · exact record_of_data rfl (by simp [Notice.data]) (by simp)
    · exact record_of_data rfl (by simp [Notice.data]) (by simp)
    · exact record_of_data rfl (by simp [Notice.data]) (by simp)
    · exact record_of_data rfl (by simp [Notice.data, productCode]) (by simp)
    · exact record_of_data rfl (by simp [Notice.data, productCode]) (by simp)
    · refine record_of_data rfl ?_ (by simp)
      cases how <;> simp [Notice.data, PurgeEnd.code]
    · exact record_of_data rfl (by simp [Notice.data, boolCode]) (by simp)
    · exact record_of_data rfl (by simp [Notice.data, boolCode]) (by simp)
    · exact record_of_data rfl (by simp [Notice.data, boolCode]) (by simp)
    · refine record_of_data rfl ?_ (by simp)
      simp only [Notice.data, flags_byte]
      cases r.leftBy <;> cases r.head <;> simp [productCode, boolCode, LeftBy.code, headCode]
  · refine congrArg Host.Outcome.next ((arrive_of_empty hfree).trans ?_)
    rw [State.conclude, doReadNotices, if_pos (inRange_eq_true.mpr ⟨hlow, hhigh⟩)]
    rfl
  · exact accepts_of_served doFlushNotices rfl hfree rfl
  · exact accepts_of_served (doSetNoticeClasses b) rfl hfree rfl
  · refine accepts_of_served (doSetLoafReports b) rfl hfree ?_
    simp [doSetLoafReports, hm, reportModeOf_eq_some hm]
  · refine rejects_of_refuse (doReadNotices b) rfl hfree (if_neg ?_)
    rw [inRange_eq_true]
    rintro ⟨hlow, hhigh⟩
    rcases hb with rfl | hb
    · cases hlow
    · omega
  · refine rejects_of_refuse (doSetLoafReports b) rfl hfree ?_
    simp [doSetLoafReports, reportModeOf_eq_none hb]
  · intro r how h tie s
    refine ⟨fun hm => ?_, fun hm => ?_, fun hm => ?_⟩
    · simp only [State.report, hm]
    · simp only [State.report, hm]
    · simp only [State.report, hm]; rfl

end Sys2Proof.Machine
end

section
/-! The Product Table's requests (O23, O24) and LANE SETTINGS (O25). -/

namespace Sys2Proof.Machine

/-! ### Operands -/

theorem onProduct_of_toNat {b : Byte} {p : ProductIx} (h : b.toNat = p.val) (s : State) (f : ProductIx → Served) : onProduct b s f = f p := by
  rw [onProduct, productOf_of_toNat h]

theorem onProduct_of_large {b : Byte} (h : 15 < b.toNat) (s : State) (f : ProductIx → Served) : onProduct b s f = refuse s .badValue := by
  rw [onProduct, productOf_eq_none h]

theorem finOf_of_eq {n k : Nat} {i : Fin n} (h : k = i.val) : finOf n k = some i := by subst h; simp [finOf]

theorem finOf_eq_none {n k : Nat} (h : n ≤ k) : finOf n k = none := by simp [finOf]; omega

theorem boolOf_eq_some {b : Byte} {x : Bool} : boolOf b = some x ↔ b = boolCode x := by
  unfold boolOf
  split
  · rename_i h; subst h; cases x <;> simp [boolCode]
  · split
    · rename_i h; subst h; cases x <;> simp [boolCode]
    · cases x <;> simp_all [boolCode]

theorem exists_boolCode {b : Byte} (h : b.toNat ≤ 1) : ∃ x, b = boolCode x := by
  have : b.toNat = 0 ∨ b.toNat = 1 := by omega
  rcases this with h | h
  · exact ⟨false, BitVec.eq_of_toNat_eq h⟩
  · exact ⟨true, BitVec.eq_of_toNat_eq h⟩

theorem boolCode_toNat_le (x : Bool) : (boolCode x).toNat ≤ 1 := by cases x <;> decide

/-! ### Product entries (R1 to R5) -/

/-- R3: the entry that fields within their ranges describe. -/
theorem productEntryOf_allowed {f : ProductBody} (sig : Option Half) {w : Bool} {c : Fin 8} (h : ProductFieldsAllowed f) (hw : f.wholeOk = boolCode w)
    (hc : f.shelfClass.toNat = c.val) : productEntryOf f sig = some ⟨f.article.toNat, f.tNom.toNat, f.tMin.toNat, f.tMax.toNat, f.heel.toNat, f.kerf.toNat,
      f.nMax.toNat, f.crumbFactor.toNat, w, c, sig⟩ := by
  obtain ⟨hmin, hnom, hmax, htop, hheel, hkerf, hn, hn', -, -⟩ := h
  unfold productEntryOf
  rw [hw, boolOf_code, finOf_of_eq hc]
  refine if_pos ?_
  simp only [inRange, Bool.and_eq_true, decide_eq_true_eq]
  omega

theorem productEntryOf_isSome {f : ProductBody} {sig : Option Half} {e : ProductEntry} (h : productEntryOf f sig = some e) : ProductFieldsAllowed f := by
  unfold productEntryOf at h
  split at h
  · rename_i w c hw hc
    split at h
    · rename_i hr
      simp only [inRange, Bool.and_eq_true, decide_eq_true_eq] at hr
      rw [boolOf_eq_some] at hw
      have hwhole := boolCode_toNat_le w
      rw [← hw] at hwhole
      have hclass : f.shelfClass.toNat < 8 := by
        unfold finOf at hc
        split at hc
        · assumption
        · cases hc
      unfold ProductFieldsAllowed
      omega
    · cases h
  · cases h

theorem productEntryOf_eq_none {f : ProductBody} (sig : Option Half) (h : ¬ ProductFieldsAllowed f) : productEntryOf f sig = none := by
  cases he : productEntryOf f sig with
  | none => rfl
  | some e => exact absurd (productEntryOf_isSome he) h

theorem exists_productEntryOf {f : ProductBody} (sig : Option Half) (h : ProductFieldsAllowed f) : ∃ e, productEntryOf f sig = some e := by
  obtain ⟨-, -, -, -, -, -, -, -, hwhole, hclass⟩ := id h
  obtain ⟨w, hw⟩ := exists_boolCode hwhole
  exact ⟨_, productEntryOf_allowed sig h hw (c := ⟨f.shelfClass.toNat, by omega⟩) rfl⟩

/-- R2: what names an entry. -/
theorem inUse_iff (p : ProductIx) (s : State) : s.inUse p = true ↔
    (∃ l, (s.assign.get l).active = some p) ∨ (∃ l, (s.assign.get l).pending = some (some p)) ∨
    (∃ l lead highest, (s.lanes.get l).window = .span lead highest (some p)) ∨
    (∃ l, ∃ r ∈ (s.lanes.get l).queue, r.product = p) ∨ (∃ h, ∃ r, (s.heads.get h).record = some r ∧ r.product = p) := by
  have hwindow : ∀ w : Window, w.product = some p ↔ ∃ lead highest, w = .span lead highest (some p) := by
    intro w; cases w <;> simp [Window.product]
  have hlane : ∀ P : Lane → Prop, (∃ l, P l) ↔ P .a ∨ P .b := fun P => ⟨fun ⟨l, h⟩ => by cases l <;> simp [h], fun h => h.elim (⟨_, ·⟩) (⟨_, ·⟩)⟩
  have hhead : ∀ P : Head → Prop, (∃ l, P l) ↔ P .one ∨ P .two := fun P => ⟨fun ⟨l, h⟩ => by cases l <;> simp [h], fun h => h.elim (⟨_, ·⟩) (⟨_, ·⟩)⟩
  simp only [hlane, hhead, ← hwindow, PerLane.get, PerHead.get]
  simp only [State.inUse, State.held, Bool.or_eq_true, decide_eq_true_eq, List.any_eq_true, List.mem_append, Option.mem_toList]
  grind

theorem productReport_none {p : ProductIx} {s : State} (h : s.products[p] = none) : s.productReport p = List.replicate 20 0 := by
  unfold State.productReport; rw [h]

theorem productReport_some {p : ProductIx} {s : State} {e : ProductEntry} (h : s.products[p] = some e) : s.productReport p =
    [1] ++ beBytes 2 e.article ++ beBytes 2 e.tNom ++ beBytes 2 e.tMin ++ beBytes 2 e.tMax ++ beBytes 2 e.heel ++
    beBytes 1 e.kerf ++ beBytes 1 e.nMax ++ beBytes 1 e.crumbFactor ++ [boolCode e.wholeOk] ++ beBytes 1 e.shelfClass.val ++
    [boolCode e.signature.isSome] ++ halfBytes (e.signature.getD 0) ++ [boolCode (s.inUse p)] := by
  unfold State.productReport; rw [h]

/-- Settles O23. -/
theorem productRequests : Obligations.ProductRequests := by
  refine ⟨fun tag index p s hfree hp => ⟨fun f sig w c hf hw hc huse => ?_, fun hdef huse => ?_, ?_⟩, fun p s => ⟨productReport_none, fun e he => ?_⟩,
    fun tag index f sig s hfree => ⟨fun hlarge => ⟨?_, ?_, ?_⟩, fun p hp => ⟨fun hf => ?_, fun hf huse => ?_, fun hnone => ?_, fun hdef huse => ?_⟩⟩, inUse_iff⟩
  · refine accepts_of_served (doWriteProduct index f sig) rfl hfree ?_
    rw [doWriteProduct, onProduct_of_toNat hp, productEntryOf_allowed sig hf hw hc]
    simp only [huse]; rfl
  · refine accepts_of_served (doEraseProduct index) rfl hfree ?_
    rw [doEraseProduct, onProduct_of_toNat hp]
    simp only [Option.isNone_iff_eq_none, if_neg hdef, huse]; rfl
  · exact accepts_of_served (doReadProduct index) rfl hfree (onProduct_of_toNat hp s _)
  · rw [productReport_some he]
    cases hs : e.signature <;> simp [boolCode, halfBytes, hiByte, loByte]
  · exact rejects_of_refuse (doWriteProduct index f sig) rfl hfree (onProduct_of_large hlarge s _)
  · exact rejects_of_refuse (doEraseProduct index) rfl hfree (onProduct_of_large hlarge s _)
  · exact rejects_of_refuse (doReadProduct index) rfl hfree (onProduct_of_large hlarge s _)
  · refine rejects_of_refuse (doWriteProduct index f sig) rfl hfree ?_
    rw [doWriteProduct, onProduct_of_toNat hp, productEntryOf_eq_none sig hf]
  · refine rejects_of_refuse (doWriteProduct index f sig) rfl hfree ?_
    obtain ⟨e, he⟩ := exists_productEntryOf sig hf
    rw [doWriteProduct, onProduct_of_toNat hp, he]
    simp only [huse]; rfl
  · refine rejects_of_refuse (doEraseProduct index) rfl hfree ?_
    rw [doEraseProduct, onProduct_of_toNat hp]
    simp only [hnone]; rfl
  · refine rejects_of_refuse (doEraseProduct index) rfl hfree ?_
    rw [doEraseProduct, onProduct_of_toNat hp]
    simp only [Option.isNone_iff_eq_none, if_neg hdef, huse]; rfl

/-! ### Assignments (R8 to R12) -/

theorem productOrNoneOf_eq_none {b : Byte} (h : 15 < b.toNat) (hn : b ≠ 0xFF) : productOrNoneOf b = none := by
  rw [productOrNoneOf, if_neg hn, productOf_eq_none h]; rfl

theorem productOrNoneOf_of_toNat {b : Byte} {p : ProductIx} (h : b.toNat = p.val) : productOrNoneOf b = some (some p) := by
  have hn : b ≠ 0xFF := by rintro rfl; have := p.isLt; have : (0xFF : Byte).toNat = 255 := rfl; omega
  rw [productOrNoneOf, if_neg hn, productOf_of_toNat h]; rfl

theorem defined_of {x : Option ProductIx} {s : State} (h : ∀ p, x = some p → s.products[p] ≠ none) : s.defined x = true := by
  cases x with
  | none => rfl
  | some p => exact Option.isSome_iff_ne_none.mpr (h p rfl)

theorem order_eq (stopped : Prop) [Decidable stopped] (x : Option ProductIx) (a : Assignment) :
    a.order (decide stopped) x = if stopped then ⟨x, none⟩ else ⟨a.active, some x⟩ := by
  by_cases h : stopped <;> simp [Assignment.order, h]

theorem doAssignProduct_accepts (l : Lane) (x : Option ProductIx) (s : State) (h : ∀ p, x = some p → s.products[p] ≠ none) :
    let new := (s.assign.get l).order (decide (s.line.state = .stopped)) x
    doAssignProduct (Lane.code l) (productCode x) s =
      served (State.finish s none (s.modAssign l fun _ => new)) ((s.assign.get l).bytes ++ new.bytes) := by
  rw [doAssignProduct, onLane_code, productOrNoneOf_code]
  exact if_pos (defined_of h)

/-! ### Day codes (R13) -/

theorem distinctBytes_iff : ∀ {l : List Byte}, distinctBytes l = true ↔ l.Nodup
  | [] => by simp [distinctBytes]
  | x :: rest => by simp [distinctBytes, distinctBytes_iff (l := rest)]

theorem codeChar_iff {c : Byte} : codeChar c = true ↔ (0x41 ≤ c.toNat ∧ c.toNat ≤ 0x5A) ∨ (0x30 ≤ c.toNat ∧ c.toNat ≤ 0x39) := by
  simp [codeChar, inRange]

theorem dayPairsOk_iff {pairs : List DayPair} : dayPairsOk pairs = true ↔ pairs.length ≤ 8 ∧
    (∀ p ∈ pairs, p.index.toNat ≤ 7 ∧ codeChar p.c1 = true ∧ codeChar p.c2 = true ∧ codeChar p.c3 = true) ∧ (pairs.map DayPair.index).Nodup := by
  simp only [dayPairsOk, Bool.and_eq_true, decide_eq_true_eq, List.all_eq_true, DayPair.ok, distinctBytes_iff, and_assoc]

theorem setDayCode_get (codes : Vector DayCode 8) (p : DayPair) (k : Fin 8) :
    (setDayCode codes p)[k] = if p.index.toNat = k.val then ⟨p.c1, p.c2, p.c3⟩ else codes[k] := by
  unfold setDayCode
  split
  · rename_i i hi
    have hval : i.val = p.index.toNat := by
      unfold finOf at hi
      split at hi <;> cases hi; rfl
    simp [Vector.getElem_set, hval]
  · rename_i hi
    have hlarge : p.index.toNat ≠ k.val := fun h => by rw [finOf_of_eq h] at hi; cases hi
    rw [if_neg hlarge]

/-- R13: with no index twice, each pair stands in its entry and the others are left. -/
theorem foldl_setDayCode (k : Fin 8) : ∀ (pairs : List DayPair) (codes : Vector DayCode 8), (pairs.map DayPair.index).Nodup →
    (∀ p ∈ pairs, p.index.toNat = k.val → (pairs.foldl setDayCode codes)[k] = ⟨p.c1, p.c2, p.c3⟩) ∧
    ((∀ p ∈ pairs, p.index.toNat ≠ k.val) → (pairs.foldl setDayCode codes)[k] = codes[k])
  | [], codes, _ => by simp
  | q :: rest, codes, h => by
    rw [List.map_cons, List.nodup_cons] at h
    obtain ⟨hset, hkeep⟩ := foldl_setDayCode k rest (setDayCode codes q) h.2
    rw [setDayCode_get] at hkeep
    refine ⟨fun p hp hk => ?_, fun hne => ?_⟩
    · rcases List.mem_cons.mp hp with rfl | hp
      · have hrest : ∀ x ∈ rest, x.index.toNat ≠ k.val := fun x hx hxk => h.1 (List.mem_map.mpr ⟨x, hx, BitVec.eq_of_toNat_eq (hxk.trans hk.symm)⟩)
        exact (hkeep hrest).trans (if_pos hk)
      · exact hset p hp hk
    · have hq := hne q List.mem_cons_self
      exact (hkeep fun x hx => hne x (List.mem_cons_of_mem _ hx)).trans (if_neg hq)

/-- Settles O24. -/
theorem assignmentsAndDayCodes : Obligations.AssignmentsAndDayCodes := by
  refine ⟨?_, fun tag lane product s hfree => ⟨fun hb => rejects_of_laneByte rfl hb hfree, ?_⟩,
    fun tag pairs s hfree => ⟨accepts_of_served doReadAssignment rfl hfree rfl, ?_⟩⟩
  · rintro tag lane product l x s hfree rfl rfl hdef
    refine accepts_of_served (doAssignProduct (Lane.code l) (productCode x)) rfl hfree ((doAssignProduct_accepts l x s hdef).trans ?_)
    rw [order_eq]; rfl
  · rintro l rfl
    refine ⟨fun hlarge hn => ?_, fun p hp hnone => ?_⟩
    · refine rejects_of_refuse (doAssignProduct (Lane.code l) product) rfl hfree ?_
      rw [doAssignProduct, onLane_code, productOrNoneOf_eq_none hlarge hn]; rfl
    · refine rejects_of_refuse (doAssignProduct (Lane.code l) product) rfl hfree ?_
      rw [doAssignProduct, onLane_code, productOrNoneOf_of_toNat hp]
      refine if_neg ?_
      have hnone' : (s.products[p]).isSome = false := by rw [hnone]; rfl
      exact Bool.not_eq_true _ |>.mpr hnone'
  · simp only [← codeChar_iff]
    refine ⟨fun h => ⟨pairs.foldl setDayCode s.dayCodes, ?_, fun k => foldl_setDayCode k pairs _ h.2.2⟩, fun h => ?_⟩
    · exact accepts_of_served (doWriteDayCodes pairs) rfl hfree (if_pos (dayPairsOk_iff.mpr h))
    · exact rejects_of_refuse (doWriteDayCodes pairs) rfl hfree (if_neg (mt dayPairsOk_iff.mp h))

/-! ### Lane geometry (R16) -/

theorem geometry_apply (g : Geometry) (p : Setting) : g.apply p =
    ⟨if p.item = 1 then p.value.toNat else g.dBlade, if p.item = 2 then p.value.toNat else g.dReject,
      if p.item = 3 then p.value.toNat else g.dRouter, if p.item = 4 then p.value.toNat else g.minGap,
      if p.item = 5 then p.value.toNat else g.debrisLen, if p.item = 6 then p.value.toNat else g.beamPitch⟩ := by
  unfold Geometry.apply
  split <;> simp_all [← BitVec.toNat_inj]

theorem geometry_foldl : ∀ (pairs : List Setting) (g : Geometry), pairs.foldl Geometry.apply g =
    ⟨lastFor 1 g.dBlade pairs, lastFor 2 g.dReject pairs, lastFor 3 g.dRouter pairs, lastFor 4 g.minGap pairs,
      lastFor 5 g.debrisLen pairs, lastFor 6 g.beamPitch pairs⟩
  | [], g => rfl
  | p :: rest, g => by
    rw [List.foldl_cons, geometry_foldl rest, geometry_apply]; rfl

theorem geometryPairOk_iff {p : Setting} : geometryPairOk p = true ↔
    (p.item = 1 ∧ 500 ≤ p.value.toNat ∧ p.value.toNat ≤ 20000) ∨ (p.item = 2 ∧ 501 ≤ p.value.toNat ∧ p.value.toNat ≤ 30000) ∨
    (p.item = 3 ∧ 502 ≤ p.value.toNat ∧ p.value.toNat ≤ 40000) ∨ (p.item = 4 ∧ p.value.toNat ≤ 2000) ∨
    (p.item = 5 ∧ 10 ≤ p.value.toNat ∧ p.value.toNat ≤ 500) ∨ (p.item = 6 ∧ 10 ≤ p.value.toNat ∧ p.value.toNat ≤ 60) := by
  unfold geometryPairOk
  split <;> simp_all [← BitVec.toNat_inj, inRange]

/-- Settles O25. -/
theorem laneSettingsTaken : Obligations.LaneSettingsTaken := by
  rintro tag lane l pairs s hfree rfl
  simp only [← geometryPairOk_iff]
  have hfold := geometry_foldl pairs (s.lanes.get l).geometry
  refine ⟨fun hstate => ?_, fun hstate hfail => ?_, fun hstate hpass => ?_⟩
  · refine rejects_of_refuse (doLaneSettings (Lane.code l) pairs) rfl hfree ?_
    rw [doLaneSettings, onLane_code]
    exact if_neg hstate
  · refine rejects_of_refuse (doLaneSettings (Lane.code l) pairs) rfl hfree ?_
    have hnone : (s.lanes.get l).geometry.withPairs pairs = none := by
      refine if_neg fun hok => hfail ?_
      rw [hfold] at hok
      simpa [inRange, Geometry.ordered, and_assoc] using hok
    rw [doLaneSettings, onLane_code]
    exact (if_pos hstate).trans (by rw [hnone])
  · refine accepts_of_served (doLaneSettings (Lane.code l) pairs) rfl hfree ?_
    have hsome : (s.lanes.get l).geometry.withPairs pairs = some (pairs.foldl Geometry.apply (s.lanes.get l).geometry) := by
      refine if_pos ?_
      rw [hfold]
      simpa [inRange, Geometry.ordered, and_assoc] using hpass
    rw [doLaneSettings, onLane_code]
    exact (if_pos hstate).trans (by rw [hsome, hfold]; rfl)

end Sys2Proof.Machine
end

section
/-! The end of an event (O21): the start tests and purges, the drain's test and the infeed holds, each by what it makes of the
state an event leaves. -/

namespace Sys2Proof.Machine

/-! ### The drain's test (R160) -/

/-- R160: both lanes are empty and no head holds a record. -/
def State.Complete (s : State) : Prop :=
  (∀ l, (s.lanes.get l).queue = [] ∧ (s.lanes.get l).window = .clear) ∧ ∀ h, (s.heads.get h).record = none

theorem isOpen_eq_false {w : Window} : w.isOpen = false ↔ w = .clear := by cases w <;> simp [Window.isOpen]

theorem drained_iff (s : State) : s.drained = true ↔ s.Complete := by
  simp only [State.drained, State.laneEmpty, State.Complete, forall_lane, forall_head, PerLane.get, PerHead.get, Bool.and_eq_true,
    List.isEmpty_iff, Bool.not_eq_true', isOpen_eq_false, Option.isNone_iff_eq_none, and_assoc]

theorem drainTest_of_complete {s : State} (h : s.line.state = .draining) (hc : s.Complete) : s.drainTest = { s with
    line := ⟨.stopped, s.line.causes.atStopped, s.line.latched, none⟩
    notices := s.notices.place (.lineState .draining .stopped s.line.latched) } := by
  unfold State.drainTest
  rw [if_pos ⟨h, (drained_iff s).mpr hc⟩]
  simp [State.setLine, State.notify, h]

theorem drainTest_of_not {s : State} (h : ¬ (s.line.state = .draining ∧ s.Complete)) : s.drainTest = s :=
  if_neg fun k => h ⟨k.1, (drained_iff s).mp k.2⟩

/-- The test reads the line, the lanes and the heads alone. -/
theorem drainTest_congr {s t : State} (hline : t.line = s.line) (hlanes : t.lanes = s.lanes) (hheads : t.heads = s.heads) (hnotices : t.notices = s.notices) :
    t.drainTest.line = s.drainTest.line ∧ t.drainTest.notices = s.drainTest.notices := by
  have hcomplete : t.Complete ↔ s.Complete := by simp [State.Complete, hlanes, hheads]
  by_cases h : s.line.state = .draining ∧ s.Complete
  · rw [drainTest_of_complete h.1 h.2, drainTest_of_complete (hline ▸ h.1) (hcomplete.mpr h.2)]
    simp [hline, hnotices]
  · rw [drainTest_of_not h, drainTest_of_not (by rwa [hline, hcomplete])]
    exact ⟨hline, hnotices⟩

/-! ### The infeed holds (R37) -/

theorem settleHolds_get (x : State) (l : Lane) : (((x.settleHold .a).settleHold .b).lanes.get l) =
    { x.lanes.get l with
      holdInEffect := (x.holdSources l).requested && ((x.lanes.get l).holdInEffect || !((x.lanes.get l).window.isOpen && x.conveyorRuns l)) } := by
  cases l <;> rfl

theorem settleHolds_sources (x : State) (l : Lane) : ((x.settleHold .a).settleHold .b).holdSources l = x.holdSources l := by cases l <;> rfl

theorem settleHolds_conveyorRuns (x : State) (l : Lane) : ((x.settleHold .a).settleHold .b).conveyorRuns l = x.conveyorRuns l := by cases l <;> rfl

theorem holdSources_eq (t : State) (l : Lane) : t.holdSources l =
    { line := decide (t.line.state ≠ .running), product := decide ((t.assign.get l).active = none),
      fill := decide (23 ≤ (t.lanes.get l).queue.length), laneHold := (t.lanes.get l).gateHeld.isSome,
      crumb := !(t.crumb.get l).manual &&
        (decide ((t.crumb.get l).step = .gapWait) || decide ((t.crumb.get l).step = .purging) || decide ((t.crumb.get l).step = .settling)) } := by
  have hproduct : (t.assign.get l).active.isNone = decide ((t.assign.get l).active = none) := by cases (t.assign.get l).active <;> rfl
  have hcrumb : (t.crumb.get l).holdsInfeed = (!(t.crumb.get l).manual &&
      (decide ((t.crumb.get l).step = .gapWait) || decide ((t.crumb.get l).step = .purging) || decide ((t.crumb.get l).step = .settling))) := by
    unfold Crumb.holdsInfeed; cases (t.crumb.get l).step <;> simp
  rw [State.holdSources, hproduct, hcrumb]
  rfl

/-! ### The controllers (R134, R136) -/

/-- A controller that differs in its step, last step, manual mark and phase timer at most. -/
def Crumb.Restepped (c d : Crumb) : Prop := ∃ step last manual phase, d = { c with step := step, last := last, manual := manual, phase := phase }

theorem Crumb.Restepped.refl (c : Crumb) : c.Restepped c := ⟨c.step, c.last, c.manual, c.phase, rfl⟩

theorem Crumb.Restepped.trans {c d e : Crumb} (h : c.Restepped d) (k : d.Restepped e) : c.Restepped e := by
  obtain ⟨s1, l1, m1, p1, rfl⟩ := h
  obtain ⟨s2, l2, m2, p2, rfl⟩ := k
  exact ⟨s2, l2, m2, p2, rfl⟩

theorem goTo_restepped (x : CrumbStep) (c : Crumb) (m : Bool) (p : Option Nat) : c.Restepped { c.goTo x with manual := m, phase := p } := by
  unfold Crumb.goTo
  split
  · exact ⟨c.step, c.last, m, p, rfl⟩
  · exact ⟨x, c.step, m, p, rfl⟩

theorem modCrumb_restepped {l k : Lane} {f : Crumb → Crumb} {s : State} (h : (s.crumb.get l).Restepped (f (s.crumb.get l))) :
    (s.crumb.get k).Restepped ((s.modCrumb l f).crumb.get k) := by
  by_cases hk : k = l
  · subst hk; simpa using h
  · simpa [PerLane.get_set_ne _ _ hk] using Crumb.Restepped.refl _

theorem startTest_restepped (l k : Lane) (s : State) : (s.crumb.get k).Restepped ((s.startTest l).crumb.get k) := by
  rcases startTest_cases l s with h | ⟨h, -⟩
  · rw [h]; exact .refl _
  · rw [h]
    exact modCrumb_restepped (s := s) (f := fun c => { c.goTo .gapWait with manual := false, phase := some Limits.gapWaitMs }) (goTo_restepped _ _ _ _)

theorem beginPurge_restepped (l k : Lane) (s : State) : (s.crumb.get k).Restepped ((s.beginPurge l).crumb.get k) := by
  rcases beginPurge_cases l s with h | ⟨h, -⟩
  · rw [h]; exact .refl _
  · rw [h]
    refine modCrumb_restepped ?_
    have := goTo_restepped .purging (s.crumb.get l) ((s.crumb.get l).goTo .purging).manual (some (s.crumb.get l).purgeTime)
    exact this

theorem testAtEnd_restepped (before after s : State) (asked : Option Lane) (l k : Lane) :
    (s.crumb.get k).Restepped ((State.testAtEnd before asked after l s).crumb.get k) := by
  unfold State.testAtEnd; split
  · exact startTest_restepped l k s
  · exact .refl _

theorem purgeTests_restepped (before s : State) (asked : Option Lane) (k : Lane) :
    (s.crumb.get k).Restepped ((State.purgeTests before asked s).crumb.get k) :=
  (((testAtEnd_restepped before s s asked .a k).trans (testAtEnd_restepped before s _ asked .b k)).trans
    (beginPurge_restepped .a k _)).trans (beginPurge_restepped .b k _)

/-- R136: a controller in GAP_WAIT with the grant on a quiet lane could begin its purge. -/
def State.canPurge (l : Lane) (s : State) : Prop := (s.crumb.get l).step = .gapWait ∧ s.air.holder = some l ∧ s.quiet l = true

theorem beginPurge_cannot (l : Lane) (s : State) : ¬ (s.beginPurge l).canPurge l := by
  unfold State.beginPurge
  split
  · simp [State.canPurge]
  · rename_i h; exact h

theorem beginPurge_other {l k : Lane} (hk : k ≠ l) (s : State) : (s.beginPurge l).canPurge k ↔ s.canPurge k := by
  rcases beginPurge_cases l s with h | ⟨h, -⟩ <;> rw [h]
  simp [State.canPurge, PerLane.get_set_ne _ _ hk, State.quiet]

theorem purgeTests_cannot (before s : State) (asked : Option Lane) (l : Lane) : ¬ (State.purgeTests before asked s).canPurge l := by
  unfold State.purgeTests
  cases l
  · rw [beginPurge_other (by decide)]; exact beginPurge_cannot .a _
  · exact beginPurge_cannot .b _

/-! ### The end of an event -/

section
variable (before s : State) (asked : Option Lane)

theorem finish_crumb : (State.finish before asked s).crumb = (State.purgeTests before asked s).crumb := by simp [State.finish]

theorem finish_air : (State.finish before asked s).air = (State.purgeTests before asked s).air := by simp [State.finish]

theorem finish_drain : (State.finish before asked s).line = s.drainTest.line ∧ (State.finish before asked s).notices = s.drainTest.notices := by
  have h := drainTest_congr (s := s) (t := State.purgeTests before asked s) (by simp) (by simp) (by simp) (by simp)
  simpa [State.finish] using h

theorem finish_sources (l : Lane) : (State.finish before asked s).holdSources l = (State.purgeTests before asked s).drainTest.holdSources l :=
  settleHolds_sources _ l

/-- R37: a lane at the end of an event. -/
theorem finish_lane (l : Lane) : (State.finish before asked s).lanes.get l =
    { s.lanes.get l with holdInEffect := ((State.finish before asked s).holdSources l).requested &&
      ((s.lanes.get l).holdInEffect || !((s.lanes.get l).window.isOpen && (State.finish before asked s).conveyorRuns l)) } := by
  have h := settleHolds_get (State.purgeTests before asked s).drainTest l
  rw [finish_sources]
  have hruns : (State.finish before asked s).conveyorRuns l = (State.purgeTests before asked s).drainTest.conveyorRuns l :=
    settleHolds_conveyorRuns _ l
  rw [hruns]
  exact h.trans (by simp)

theorem finish_quiet (l : Lane) : (State.finish before asked s).quiet l = s.quiet l := by simp [State.quiet, finish_lane]

end

/-- Settles O21. -/
theorem eventsEndSettled : Obligations.EventsEndSettled := by
  refine ⟨fun before s asked l => ⟨holdSources_eq _ l, ?_⟩, fun before s asked l => ?_, fun before s asked => ?_, fun before s asked => ?_, fun before s asked => ?_⟩
  · simp [finish_lane]
  · intro t hstep hair
    have hcannot := purgeTests_cannot before s asked l
    simp only [State.canPurge, ← finish_crumb, ← finish_air] at hcannot
    have hquiet : (State.purgeTests before asked s).quiet l = s.quiet l := by simp [State.quiet]
    rw [hquiet, ← finish_quiet before s asked l] at hcannot
    simpa using fun h => hcannot ⟨hstep, hair, h⟩
  · refine ⟨by simp, by simp, by simp, by simp, by simp, by simp, by simp, by simp, by simp, by simp, by simp, by simp, by simp, by simp, by simp,
      fun l => ?_, fun l => ?_⟩
    · simp [finish_lane]
    · rw [finish_crumb]; exact purgeTests_restepped before s asked l
  · obtain ⟨-, hnotices⟩ := finish_drain before s asked
    refine ⟨finish_crumb _ _ _, finish_air _ _ _, fun h hc => ?_, fun h => ?_⟩
    · rw [hnotices, drainTest_of_complete h hc]
    · rw [hnotices, drainTest_of_not h]
  · obtain ⟨hline, -⟩ := finish_drain before s asked
    refine ⟨fun h hc => ?_, fun h => ?_⟩
    · rw [hline, drainTest_of_complete h hc]; rfl
    · rw [hline, drainTest_of_not h]

end Sys2Proof.Machine
end

section
/-! The AUTO start test, the tests of an event's end, and the arbiter (O22). -/

namespace Sys2Proof.Machine

theorem moving_iff (s : State) : s.moving = true ↔ s.line.state = .running ∨ s.line.state = .draining := by
  unfold State.moving; cases s.line.state <;> simp

theorem beforeBlade_iff (x : Stage) : x.beforeBlade = true ↔ x ∈ [Stage.gauged, .planWait, .planned, .slicing] := by cases x <;> decide

theorem beforeBlade_eq_false (x : Stage) : x.beforeBlade = false ↔ x = .sliced ∨ x = .waiting ∨ x = .atHead := by cases x <;> decide

theorem isOpen_eq_true {w : Window} : w.isOpen = true ↔ w ≠ .clear := by cases w <;> simp [Window.isOpen]

/-- R134: a quiet lane has no record at or before the blade, and its gauge is CLEAR. -/
theorem quiet_iff (l : Lane) (s : State) : s.quiet l = true ↔
    (∀ r ∈ (s.lanes.get l).queue, r.stage.beforeBlade = false) ∧ (s.lanes.get l).window = .clear := by
  simp only [State.quiet, Bool.and_eq_true, List.all_eq_true, Bool.not_eq_true', isOpen_eq_false]

theorem goTo_of_ne {x : CrumbStep} {c : Crumb} (h : c.step ≠ x) : c.goTo x = { c with step := x, last := c.step } := if_neg h

/-- R134: the start test passes. -/
def State.Passes (l : Lane) (s : State) : Prop :=
  (s.crumb.get l).mode = .auto ∧ (s.crumb.get l).step = .watching ∧ s.moving = true ∧ (s.crumb.get l).holdOff = none ∧
    ((s.crumb.get l).tHigh ≤ (s.crumb.get l).load ∨ ((s.crumb.get l).tLow ≤ (s.crumb.get l).load ∧ s.quiet l = true))

theorem startTest_of_passes {l : Lane} {s : State} (h : s.Passes l) : s.startTest l = { s with
    crumb := s.crumb.set l { s.crumb.get l with step := .gapWait, last := .watching, manual := false, phase := some 10000 }
    air := s.air.request l } := by
  have hstep : (s.crumb.get l).step = .watching := h.2.1
  have hgo : (s.crumb.get l).goTo .gapWait = { s.crumb.get l with step := .gapWait, last := .watching } := by
    rw [goTo_of_ne (by rw [hstep]; decide), hstep]
  refine (if_pos h).trans ?_
  simp only [State.enterGapWait, State.modCrumb, hgo]
  rfl

theorem startTest_of_not {l : Lane} {s : State} (h : ¬ s.Passes l) : s.startTest l = s := if_neg h

/-- R134: the event calls for the lane's start test. -/
def Tested (before s : State) (asked : Option Lane) (l : Lane) : Prop := asked = some l ∨ leftBlade l before s = true ∨ windowClosed l before s = true

theorem testAtEnd_of_tested {before after s : State} {asked : Option Lane} {l : Lane} (h : Tested before after asked l) :
    State.testAtEnd before asked after l s = s.startTest l := if_pos h

theorem testAtEnd_of_not {before after s : State} {asked : Option Lane} {l : Lane} (h : ¬ Tested before after asked l) :
    State.testAtEnd before asked after l s = s := if_neg h

theorem leftBlade_iff (l : Lane) (before s : State) : leftBlade l before s = true ↔
    ∃ r ∈ (before.lanes.get l).queue, r.stage.beforeBlade = true ∧ ∀ x ∈ (s.lanes.get l).queue, x.number = r.number → ¬ x.stage.beforeBlade = true := by
  simp [leftBlade]

theorem windowClosed_iff (l : Lane) (before s : State) : windowClosed l before s = true ↔
    (before.lanes.get l).window ≠ .clear ∧ (s.lanes.get l).window = .clear := by
  rw [windowClosed, Bool.and_eq_true, Bool.not_eq_true', isOpen_eq_false, isOpen_eq_true]

theorem beginPurge_of_can {l : Lane} {s : State} (h : s.canPurge l) : s.beginPurge l = { s with
    crumb := s.crumb.set l { s.crumb.get l with step := .purging, last := .gapWait, phase := some (s.crumb.get l).purgeTime } } := by
  refine (if_pos h).trans ?_
  have hgo : (s.crumb.get l).goTo .purging = { s.crumb.get l with step := .purging, last := .gapWait } := by
    rw [goTo_of_ne (by rw [h.1]; decide), h.1]
  simp only [State.modCrumb, hgo]

theorem beginPurge_of_cannot {l : Lane} {s : State} (h : ¬ s.canPurge l) : s.beginPurge l = s := if_neg h

/-- Settles O22. -/
theorem purgeStartsAndTheAirArbiter : Obligations.PurgeStartsAndTheAirArbiter := by
  refine ⟨fun l s => ?_, fun before s asked => ?_, fun l a => ?_⟩
  · simp only [← moving_iff, ← beforeBlade_eq_false, ← quiet_iff]
    exact ⟨fun h => startTest_of_passes h, fun h => startTest_of_not h⟩
  · simp only [← beforeBlade_iff, Bool.not_eq_true]
    have htested : ∀ l, (asked = some l ∨ (∃ r ∈ (before.lanes.get l).queue, r.stage.beforeBlade = true ∧
        ∀ x ∈ (s.lanes.get l).queue, x.number = r.number → x.stage.beforeBlade = false) ∨
        ((before.lanes.get l).window ≠ .clear ∧ (s.lanes.get l).window = .clear)) ↔ Tested before s asked l := by
      intro l
      simp only [Tested, leftBlade_iff, windowClosed_iff, Bool.not_eq_true]
    simp only [htested]
    refine ⟨State.testAtEnd before asked s .a s, State.testAtEnd before asked s .b (State.testAtEnd before asked s .a s),
      testAtEnd_of_tested, testAtEnd_of_not, testAtEnd_of_tested, testAtEnd_of_not, ?_⟩
    have hbegins : ∀ (l : Lane) (u : State), (if (u.crumb.get l).step = .gapWait ∧ u.air.holder = some l ∧
        (∀ r ∈ (u.lanes.get l).queue, r.stage.beforeBlade = false) ∧ (u.lanes.get l).window = .clear then
        { u with crumb := u.crumb.set l { u.crumb.get l with step := .purging, last := .gapWait, phase := some (u.crumb.get l).purgeTime } }
      else u) = u.beginPurge l := by
      intro l u
      have hcan : u.canPurge l ↔ (u.crumb.get l).step = .gapWait ∧ u.air.holder = some l ∧
          (∀ r ∈ (u.lanes.get l).queue, r.stage.beforeBlade = false) ∧ (u.lanes.get l).window = .clear := by
        rw [State.canPurge, quiet_iff]
      split
      · exact (beginPurge_of_can (hcan.mpr ‹_›)).symm
      · exact (beginPurge_of_cannot (mt hcan.mp ‹_›)).symm
    simp only [hbegins]
    rfl
  · obtain ⟨holder, waiting⟩ := a
    cases l <;> refine ⟨fun h => ?_, fun h => ?_, fun h => ?_, fun h k => ?_, fun h k => ?_⟩ <;> simp_all [Air.request, Air.release, otherLane]

end Sys2Proof.Machine
end

section
/-! The infeed gauge: beams become blocked (O26), and the clearing of the last blocked beam (O27). -/

namespace Sys2Proof.Machine

/-- R14: lane position with the belt's travel since it was last told. -/
def State.positionAfter (l : Lane) (d : Quad) (s : State) : Quad :=
  if s.conveyorRuns l then (s.lanes.get l).position + d else (s.lanes.get l).position

/-- The travel and the curtain, as seen at an event of the gauge. -/
theorem seen_eq (l : Lane) (d : Quad) (beams : BitVec 48) (s : State) : (s.travel l d).setCurtain l beams = { s with
    inputs := { s.inputs with curtain := s.inputs.curtain.set l beams }
    lanes := s.lanes.set l { s.lanes.get l with position := s.positionAfter l d } } := by
  unfold State.travel State.positionAfter
  split
  · rfl
  · simp [State.setCurtain]
    exact (PerLane.set_get s.lanes l).symm

/-! ### The highest beam (R19) -/

theorem highest_fold (beams : BitVec 48) : ∀ (n : Nat), (∃ k < n, beams.getLsbD k = true) →
    let h := (List.range n).foldl (fun h k => if beams.getLsbD k then k else h) 0
    h < n ∧ beams.getLsbD h = true ∧ ∀ k < n, h < k → beams.getLsbD k = false
  | 0, h => by obtain ⟨k, hk, -⟩ := h; omega
  | n + 1, h => by
    simp only [List.range_succ, List.foldl_append, List.foldl_cons, List.foldl_nil]
    by_cases hn : beams.getLsbD n = true
    · rw [if_pos hn]
      exact ⟨by omega, hn, fun k hk hlt => by omega⟩
    · rw [if_neg hn]
      have hbelow : ∃ k < n, beams.getLsbD k = true := by
        obtain ⟨k, hk, hb⟩ := h
        have hne : k ≠ n := by rintro rfl; exact hn hb
        exact ⟨k, by omega, hb⟩
      obtain ⟨hlt, hset, habove⟩ := highest_fold beams n hbelow
      refine ⟨by omega, hset, fun k hk hkh => ?_⟩
      by_cases hkn : k = n
      · subst hkn; simpa using hn
      · exact habove k (by omega) hkh

theorem exists_beam {beams : BitVec 48} (h : beams ≠ 0) : ∃ k < 48, beams.getLsbD k = true := by
  by_contra hnone
  refine h (BitVec.eq_of_getLsbD_eq fun k hk => ?_)
  have := fun hb => hnone ⟨k, hk, hb⟩
  simpa using this

theorem highestBeam_spec {beams : BitVec 48} (h : beams ≠ 0) : highestBeam beams ≤ 47 ∧ beams.getLsbD (highestBeam beams) = true ∧
    ∀ k : Nat, highestBeam beams < k → beams.getLsbD k = false := by
  obtain ⟨hlt, hset, habove⟩ := highest_fold beams 48 (exists_beam h)
  refine ⟨Nat.le_of_lt_succ hlt, hset, fun k hk => ?_⟩
  by_cases hk48 : k < 48
  · exact habove k hk48 hk
  · exact BitVec.getLsbD_of_ge beams k (by omega)

/-! ### The leading edge (R11, R19, R138) -/

theorem spanOpened_eq (l : Lane) (beams : BitVec 48) (s : State) : s.spanOpened l beams = { s with
    assign := s.assign.set l (s.assign.get l).settled
    lanes := s.lanes.set l { s.lanes.get l with window := .span (s.lanes.get l).position (highestBeam beams) (s.assign.get l).fixed }
    notices := if (s.assign.get l).settled.active = (s.assign.get l).active then s.notices
      else s.notices.place (.productActive l (s.assign.get l).active (s.assign.get l).settled.active) } := by
  unfold State.spanOpened
  by_cases h : (s.assign.get l).settled.active = (s.assign.get l).active
  · simp only [if_pos h]; rfl
  · simp only [if_neg h]; rfl

theorem settlePurge_of {l : Lane} {how : PurgeEnd} {s : State} (h : (s.crumb.get l).step = .purging) : s.settlePurge l how = { s with
    crumb := s.crumb.set l { s.crumb.get l with step := .settling, last := .purging, phase := some (s.crumb.get l).settleTime, ended := how } } := by
  have hgo : (s.crumb.get l).goTo .settling = { s.crumb.get l with step := .settling, last := .purging } := by
    rw [goTo_of_ne (by rw [h]; decide), h]
  simp only [State.settlePurge, State.modCrumb, hgo]

theorem leadingEdgeEvent_of (l : Lane) (beams : BitVec 48) (s : State) : s.leadingEdgeEvent l beams = { s with
    assign := s.assign.set l (s.assign.get l).settled
    lanes := s.lanes.set l { s.lanes.get l with window := .span (s.lanes.get l).position (highestBeam beams) (s.assign.get l).fixed }
    notices := if (s.assign.get l).settled.active = (s.assign.get l).active then s.notices
      else s.notices.place (.productActive l (s.assign.get l).active (s.assign.get l).settled.active)
    crumb := if (s.crumb.get l).step = .purging then s.crumb.set l
        { s.crumb.get l with step := .settling, last := .purging, phase := some (s.crumb.get l).settleTime, ended := .leadingEdge }
      else s.crumb } := by
  rw [leadingEdgeEvent_eq, spanOpened_eq]
  by_cases h : (s.crumb.get l).step = .purging
  · rw [if_pos h]
    refine Eq.trans (settlePurge_of h) ?_
    simp only [if_pos h]
  · rw [if_neg h]; simp only [if_neg h]

theorem beamsBlocked_clear {l : Lane} {d : Quad} {beams : BitVec 48} {s : State} (hb : beams ≠ 0) (h : (s.lanes.get l).window = .clear) :
    s.beamsBlocked l d beams = State.finish s none (((s.travel l d).setCurtain l beams).leadingEdgeEvent l beams) := by
  unfold State.beamsBlocked; rw [if_neg hb, h]

theorem beamsBlocked_span {l : Lane} {d : Quad} {beams : BitVec 48} {s : State} {lead : Quad} {highest : Nat} {p : Option ProductIx}
    (hb : beams ≠ 0) (h : (s.lanes.get l).window = .span lead highest p) : s.beamsBlocked l d beams =
      ((s.travel l d).setCurtain l beams).modLane l fun q => { q with window := .span lead (max highest (highestBeam beams)) p } := by
  unfold State.beamsBlocked; rw [if_neg hb, h]

theorem beamsBlocked_void {l : Lane} {d : Quad} {beams : BitVec 48} {s : State} (hb : beams ≠ 0) (h : (s.lanes.get l).window = .void) :
    s.beamsBlocked l d beams = (s.travel l d).setCurtain l beams := by
  unfold State.beamsBlocked; rw [if_neg hb, h]

/-- Settles O26. -/
theorem beamsBlockedByTheGauge : Obligations.BeamsBlockedByTheGauge := by
  refine ⟨fun l d beams s hb i hi => ?_, fun beams h => highestBeam_spec h, fun a => ?_⟩
  · have hexec : exec i s = .next (s.beamsBlocked l d beams) := by
      simp only [List.mem_cons, List.not_mem_nil, or_false] at hi
      rcases hi with rfl | rfl <;> rfl
    rw [hexec]
    refine ⟨fun hw => ?_, fun lead highest p hw => ?_, fun hw => ?_⟩
    · rw [beamsBlocked_clear hb hw, leadingEdgeEvent_of, seen_eq]
      simp [State.positionAfter]
    · rw [beamsBlocked_span hb hw, seen_eq]
      simp [State.positionAfter, State.modLane]
    · rw [beamsBlocked_void hb hw, seen_eq]
      rfl
  · refine ⟨?_, ?_, fun q h => ?_, ?_, ?_⟩
    · rintro p rfl; exact ⟨rfl, rfl⟩
    · rintro rfl; exact ⟨rfl, rfl⟩
    · simp [Assignment.settled, Assignment.fixed, h]
    · rintro p rfl; exact ⟨rfl, rfl⟩
    · rintro rfl; exact ⟨rfl, rfl⟩

/-! ### The last blocked beam clears (R21 to R23) -/

section
variable {l : Lane} {d : Quad} {s : State}

theorem curtainClears_clear (h : (s.lanes.get l).window = .clear) : s.curtainClears l d = (s.travel l d).setCurtain l 0 := by
  unfold State.curtainClears; rw [h]

theorem curtainClears_void (h : (s.lanes.get l).window = .void) :
    s.curtainClears l d = State.finish s none (((s.travel l d).setCurtain l 0).closeWindow l) := by
  unfold State.curtainClears; rw [h]

theorem curtainClears_span {lead : Quad} {highest : Nat} {p : Option ProductIx} (h : (s.lanes.get l).window = .span lead highest p) :
    s.curtainClears l d = State.finish s none ((((s.travel l d).setCurtain l 0).classifySpan l lead highest p).closeWindow l) := by
  unfold State.curtainClears; rw [h]

theorem classifySpan_debris {lead : Quad} {highest : Nat} {p : Option ProductIx}
    (h : p = none ∨ ((s.lanes.get l).position - lead).toNat < (s.lanes.get l).geometry.debrisLen) :
    s.classifySpan l lead highest p = s.modLaneTotals l fun t => { t with debris := satAdd Limits.max32 t.debris 1 } := by
  unfold State.classifySpan
  cases p with
  | none => rfl
  | some p => exact if_pos (h.resolve_left (by simp))

theorem classifySpan_overrun {lead : Quad} {highest : Nat} {p : ProductIx}
    (h : (s.lanes.get l).geometry.debrisLen ≤ ((s.lanes.get l).position - lead).toNat) (hfull : 24 ≤ (s.lanes.get l).queue.length) :
    s.classifySpan l lead highest (some p) = s.notify (.queueOverrun l lead ((s.lanes.get l).position - lead)) := by
  unfold State.classifySpan
  exact (if_neg (Nat.not_lt.mpr h)).trans (if_pos hfull)

theorem classifySpan_loaf {lead : Quad} {highest : Nat} {p : ProductIx}
    (h : (s.lanes.get l).geometry.debrisLen ≤ ((s.lanes.get l).position - lead).toNat) (hroom : (s.lanes.get l).queue.length < 24) :
    s.classifySpan l lead highest (some p) = s.admitLoaf l lead highest p ((s.lanes.get l).position - lead).toNat := by
  unfold State.classifySpan
  exact (if_neg (Nat.not_lt.mpr h)).trans (if_neg (Nat.not_le.mpr hroom))

end

/-- R21: at the close the previous trailing edge becomes the position, which no classification has moved. -/
theorem closeWindow_eq {l : Lane} {u : State} {p : Quad} (h : (u.lanes.get l).position = p) :
    u.closeWindow l = { u with lanes := u.lanes.set l { u.lanes.get l with previous := some p, window := .clear } } := by
  subst h; rfl

theorem classifySpan_position (l : Lane) (lead : Quad) (highest : Nat) (p : Option ProductIx) (s : State) :
    ((s.classifySpan l lead highest p).lanes.get l).position = (s.lanes.get l).position :=
  congrArg Prod.fst (belt_classifySpan l s l lead highest p)

theorem satAdd_one (limit n : Nat) : satAdd limit n 1 = min limit (n + 1) := by unfold satAdd; omega

/-- Settles O27. -/
theorem spansAreClassified : Obligations.SpansAreClassified := by
  intro l d s q position seen close totals counted debris i hi
  have hexec : exec i s = .next (s.curtainClears l d) := by
    simp only [List.mem_cons, List.not_mem_nil, or_false] at hi
    rcases hi with rfl | rfl <;> rfl
  have hseen : (s.travel l d).setCurtain l 0 = seen := seen_eq l d 0 s
  have hlane : seen.lanes.get l = { q with position := position } := PerLane.get_set _ _ _
  have hposition : (seen.lanes.get l).position = position := by rw [hlane]
  have hdebrisLen : (seen.lanes.get l).geometry.debrisLen = q.geometry.debrisLen := by rw [hlane]
  have hqueue : (seen.lanes.get l).queue = q.queue := by rw [hlane]
  rw [hexec]
  refine ⟨fun hw => ?_, fun hw => ?_, fun lead highest product hw => ⟨fun h => ?_, fun hp hlen hfull => ?_, ?_⟩⟩
  · rw [curtainClears_clear hw, hseen]
  · rw [curtainClears_void hw, hseen, closeWindow_eq hposition]
  · rw [curtainClears_span hw, hseen, closeWindow_eq ((classifySpan_position l lead highest product seen).trans hposition)]
    rw [classifySpan_debris (by rwa [hposition, hdebrisLen])]
    have hcount : (seen.modLaneTotals l fun t => { t with debris := satAdd Limits.max32 t.debris 1 }) = debris := by
      simp only [satAdd_one]; rfl
    rw [hcount]
  · obtain ⟨p, rfl⟩ := Option.ne_none_iff_exists'.mp hp
    rw [curtainClears_span hw, hseen, closeWindow_eq ((classifySpan_position l lead highest _ seen).trans hposition)]
    rw [classifySpan_overrun (by rwa [hposition, hdebrisLen]) (by rwa [hqueue]), hposition]
  · rintro p rfl hlen hroom
    rw [curtainClears_span hw, hseen, closeWindow_eq ((classifySpan_position l lead highest _ seen).trans hposition)]
    rw [classifySpan_loaf (by rwa [hposition, hdebrisLen]) (by rwa [hqueue]), hposition]

end Sys2Proof.Machine
end

section
/-! The positional events of a record (O29, O30, O31). -/

namespace Sys2Proof.Machine

/-! ### Writing records -/

theorem onNumber_comp {n : Nat} {f g : LoafRecord → LoafRecord} (hf : ∀ r, (f r).number = r.number) :
    onNumber n g ∘ onNumber n f = onNumber n (fun r => g (f r)) := by
  funext r
  by_cases h : r.number = n <;> simp [onNumber, h, hf]

/-- Two writes of one record are one write. -/
theorem updateRecord_updateRecord {n : Nat} {f g : LoafRecord → LoafRecord} (hf : ∀ r, (f r).number = r.number) (s : State) :
    (s.updateRecord n f).updateRecord n g = s.updateRecord n fun r => g (f r) := by
  simp [State.updateRecord, onNumber_comp hf]

theorem held_unique {s : State} (h : s.BooksKept) {x y : LoafRecord} (hx : x ∈ s.held) (hy : y ∈ s.held) (hxy : x.number = y.number) : x = y :=
  List.inj_on_of_nodup_map h.1 hx hy hxy

theorem queued_held {s : State} {l : Lane} {n : Nat} {r : LoafRecord} (h : s.queued l n = some r) : r ∈ s.held ∧ r.number = n := by
  obtain ⟨hmem, hnum⟩ := queued_mem h
  refine ⟨?_, hnum⟩
  cases l <;> simp_all [State.held, PerLane.get]

/-- With the books kept a write is known by what it makes of the one record of its number. -/
theorem updateRecord_congr {s : State} (h : s.BooksKept) {r : LoafRecord} (hr : r ∈ s.held) {f g : LoafRecord → LoafRecord} (hfg : f r = g r) :
    s.updateRecord r.number f = s.updateRecord r.number g := by
  have hon : ∀ x ∈ s.held, onNumber r.number f x = onNumber r.number g x := by
    intro x hx
    unfold onNumber
    split
    · rw [held_unique h hx hr ‹_›, hfg]
    · rfl
  simp only [State.held, List.mem_append, Option.mem_toList] at hon
  have ha : s.lanes.a.queue.map (onNumber r.number f) = s.lanes.a.queue.map (onNumber r.number g) :=
    List.map_congr_left fun x hx => hon x (.inl (.inl (.inl hx)))
  have hb : s.lanes.b.queue.map (onNumber r.number f) = s.lanes.b.queue.map (onNumber r.number g) :=
    List.map_congr_left fun x hx => hon x (.inl (.inl (.inr hx)))
  have hone : s.heads.one.record.map (onNumber r.number f) = s.heads.one.record.map (onNumber r.number g) :=
    Option.map_congr fun x hx => hon x (.inl (.inr hx))
  have htwo : s.heads.two.record.map (onNumber r.number f) = s.heads.two.record.map (onNumber r.number g) :=
    Option.map_congr fun x hx => hon x (.inr hx)
  simp only [State.updateRecord, ha, hb, hone, htwo]

theorem becomeSliced_eq (r : LoafRecord) : r.becomeSliced = { r with stage := if r.stage = .planned ∨ r.stage = .slicing then .sliced else r.stage } := by
  unfold LoafRecord.becomeSliced
  cases h : r.stage <;> simp
  all_goals exact (congrArg (fun x => { r with stage := x }) h.symm).symm

/-- R67: no cut of the loaf is scheduled, pending or being made. -/
theorem doneWith_iff (n : Nat) (sl : Slicer) : sl.doneWith n = true ↔
    (∀ e ∈ sl.schedule, e.loaf ≠ n) ∧ sl.pending.map Cut.loaf ≠ some n ∧ sl.blade.strokeLoaf ≠ some n := by
  simp [Slicer.doneWith, and_assoc]

theorem strokeLoaf_ne {b : Blade} {n : Nat} : b.strokeLoaf ≠ some n ↔ ∀ c, b = .stroking c → c.loaf ≠ n := by
  cases b <;> simp [Blade.strokeLoaf]

theorem dropCuts_eq (n : Nat) (sl : Slicer) : sl.dropCuts n = { sl with
    schedule := sl.schedule.filter (fun y => decide (y.loaf ≠ n)), pending := sl.pending.filter (fun y => decide (y.loaf ≠ n)) } := by
  unfold Slicer.dropCuts Slicer.unschedule
  have hp : (if sl.pending.map Cut.loaf = some n then none else sl.pending) = sl.pending.filter (fun y => decide (y.loaf ≠ n)) := by
    cases sl.pending with
    | none => simp
    | some c => by_cases h : c.loaf = n <;> simp [h, Option.filter]
  rw [hp]
  simp [bne, BEq.beq]

/-! ### A point reached (R29) -/

/-- Lane position, advancing, come at or beyond a point. -/
theorem reach_of_due {e : Positional} {l : Lane} {n : Nat} {s : State} {r : LoafRecord} (hq : s.queued l n = some r) (hruns : s.conveyorRuns l = true)
    (hdue : e.due r.passed = true) : s.reach e l n =
      State.finish s none ((s.advanceTo l (pointAt r.lead (e.distance (s.lanes.get l).geometry r))).positionalEvent e l n) := by
  unfold State.reach
  rw [hq]
  simp only [hruns, hdue]
  rfl

theorem queued_advanceTo (l k : Lane) (p : Quad) (n : Nat) (s : State) : (s.advanceTo l p).queued k n = s.queued k n := by
  cases l <;> cases k <;> rfl

/-! ### The blade line and the trailing edge (R30, R31) -/

section
variable {l : Lane} {n : Nat} {s : State} {r : LoafRecord}

/-- The record's mark of the event taken. -/
theorem bladeLineEvent_planned (hq : s.queued l n = some r) (hp : r.plan ≠ none) :
    s.bladeLineEvent l n = s.updateRecord n fun x => { x with passed := { x.passed with bladeLine := true } } := by
  obtain ⟨p, hp⟩ := Option.ne_none_iff_exists'.mp hp
  unfold State.bladeLineEvent
  rw [hq]
  simp only [hp]

theorem failPlan_updateRecord {f : LoafRecord → LoafRecord} (hf : ∀ x, (f x).number = x.number) (outcome : PlanOutcome) (reason : Reason) :
    (s.updateRecord n f).failPlan n outcome reason =
      (s.updateRecord n fun x => (f x).planned (planWithoutCuts outcome (f x).length 0 false) (some reason)).evaluate n := by
  rw [State.failPlan, updateRecord_updateRecord hf]

theorem bladeLineEvent_late (hq : s.queued l n = some r) (hp : r.plan = none) :
    s.bladeLineEvent l n =
      let v := (s.updateRecord n fun x =>
         { x with passed := { x.passed with bladeLine := true }, stage := .planned
                  plan := some ⟨.latePlan, 0, 0, 0, x.length, [], 0, 0, false, false⟩
                  disposition := some (x.disposition.getD .latePlan) }).evaluate n
      { v with planner := s.planner.withdraw n } := by
  unfold State.bladeLineEvent
  rw [hq]
  simp only [hp]
  rw [failPlan_updateRecord]
  · have hplanner : ∀ f : LoafRecord → LoafRecord, ((s.updateRecord n f).evaluate n).planner = s.planner := fun f => by simp
    rw [hplanner]; rfl
  · exact fun _ => rfl

theorem trailingEvent_sliced (hq : s.queued l n = some r) (hstage : r.stage = .planned) (hdone : (s.slicers.get l).doneWith n = true) :
    s.trailingEvent l n = s.updateRecord n fun x => { x with
      passed := { x.passed with trailing := true }, stage := if x.stage = .planned ∨ x.stage = .slicing then .sliced else x.stage } := by
  unfold State.trailingEvent
  rw [hq]
  refine (if_pos ⟨hstage, hdone⟩).trans ?_
  refine (updateRecord_updateRecord (by exact fun _ => rfl) s).trans ?_
  simp only [becomeSliced_eq]

theorem trailingEvent_marked (hq : s.queued l n = some r) (h : ¬ (r.stage = .planned ∧ (s.slicers.get l).doneWith n = true)) :
    s.trailingEvent l n = s.updateRecord n fun x => { x with passed := { x.passed with trailing := true } } := by
  unfold State.trailingEvent
  rw [hq]
  exact if_neg h

end

/-- Settles O29. -/
theorem theBladeLineAndTheTrailingEdge : Obligations.TheBladeLineAndTheTrailingEdge := by
  refine ⟨fun l n r s hq hruns => ⟨fun hpassed hplan => ?_, fun hblade htrail => ⟨fun hstage hdone => ?_, fun h => ?_⟩⟩,
    fun l n r s hq hruns hpassed hplan => ?_, fun n f s hf => ?_⟩
  · refine congrArg Host.Outcome.next ((reach_of_due hq hruns (by simp [Positional.due, hpassed])).trans ?_)
    rw [State.positionalEvent, bladeLineEvent_planned ((queued_advanceTo l l _ n s).trans hq) hplan]; rfl
  · refine congrArg Host.Outcome.next ((reach_of_due hq hruns (by simp [Positional.due, hblade, htrail])).trans ?_)
    rw [← strokeLoaf_ne, ← doneWith_iff] at hdone
    rw [State.positionalEvent, trailingEvent_sliced ((queued_advanceTo l l _ n s).trans hq) hstage hdone]; rfl
  · refine congrArg Host.Outcome.next ((reach_of_due hq hruns (by simp [Positional.due, hblade, htrail])).trans ?_)
    rw [← strokeLoaf_ne, ← doneWith_iff] at h
    rw [State.positionalEvent, trailingEvent_marked ((queued_advanceTo l l _ n s).trans hq) fun k => h.elim (fun hs => hs k.1) fun hd => hd k.2]; rfl
  · refine congrArg Host.Outcome.next ((reach_of_due hq hruns (by simp [Positional.due, hpassed])).trans ?_)
    rw [State.positionalEvent, bladeLineEvent_late ((queued_advanceTo l l _ n s).trans hq) hplan]; rfl
  · exact ⟨fun l => updateRecord_queued_same hf l s, fun l m hm => updateRecord_queued_other hf hm l s, fun l => by rw [updateRecord_lane],
      fun l => updateRecord_numbers hf l s, fun h => updateRecord_head n f h s, rfl⟩

/-! ### The reject gate (R32) -/

/-- The rejected figure of a reason and the mark, as one removal counts them. -/
theorem bumpRejected_countMarked (x : ProductTotals) (reason : Reason) (marked : Bool) : (x.bumpRejected reason).countMarked marked = { x with
    rejWatch := x.rejWatch + (if reason = Reason.watch then 1 else 0)
    rejNoPlan := x.rejNoPlan + (if reason = Reason.noPlan then 1 else 0)
    rejLatePlan := x.rejLatePlan + (if reason = Reason.latePlan then 1 else 0)
    rejNoSpan := x.rejNoSpan + (if reason = Reason.noSpan then 1 else 0)
    rejMiscut := x.rejMiscut + (if reason = Reason.miscut then 1 else 0)
    rejUntied := x.rejUntied + (if reason = Reason.untied then 1 else 0)
    marked := if marked then min 4294967295 (x.marked + 1) else x.marked } := by
  cases marked <;> cases reason <;> simp [ProductTotals.countMarked, ProductTotals.bumpRejected, satAdd_one, Limits.max32]

theorem full32_eq_false {n : Nat} (h : n < 4294967295) : full32 n = false := 
  decide_eq_false (by unfold Limits.max32; omega)

theorem countRejected_of_room {r : LoafRecord} {reason : Reason} {s : State} (h : s.totals.products[r.product].rejected reason < 4294967295) :
    s.countRejected r reason = s.modProductTotals r.product fun t => (t.bumpRejected reason).countMarked r.marked := by
  rcases countLoaf_cases r.product (fun t => full32 (t.rejected reason)) (fun t => (t.bumpRejected reason).countMarked r.marked) s with ⟨-, h'⟩ | ⟨h', -⟩
  · exact h'
  · rw [full32_eq_false h] at h'; cases h'

section
variable {l : Lane} {n : Nat} {s : State} {r : LoafRecord}

theorem rejectGateEvent_marked (hq : s.queued l n = some r) (hd : r.disposition = none) :
    s.rejectGateEvent l n = s.updateRecord n fun x => { x with passed := { x.passed with rejectGate := true } } := by
  unfold State.rejectGateEvent
  rw [hq]
  simp only [hd]

theorem rejectGateEvent_diverted (hq : s.queued l n = some r) {reason : Reason} (hd : r.disposition = some reason)
    (hroom : s.totals.products[r.product].rejected reason < 4294967295) :
    s.rejectGateEvent l n = { s with
      lanes := s.lanes.set l { s.lanes.get l with diverter := some 300, queue := (s.lanes.get l).queue.filter (fun y => y.number != n) }
      slicers := s.slicers.set l ((s.slicers.get l).dropCuts n)
      totals := { s.totals with
        products := s.totals.products.set r.product ((s.totals.products[r.product].bumpRejected reason).countMarked r.marked) } }.report
          r .rejectGate none none := by
  unfold State.rejectGateEvent
  rw [hq]
  simp only [hd]
  rw [countRejected_of_room (by exact hroom)]
  simp [State.dequeue, State.modLane, State.modProductTotals, State.modSlicer, Limits.diverterMs]

end

/-- Settles O30. -/
theorem rejectGateDiverts : Obligations.RejectGateDiverts := by
  intro l n r s q sl point position
  refine ⟨fun hq hruns hblade hgate => ⟨fun hd => ?_, fun reason hd hroom => ?_⟩, rfl⟩
  · refine congrArg Host.Outcome.next ((reach_of_due hq hruns (by simp [Positional.due, hblade, hgate])).trans ?_)
    rw [State.positionalEvent, rejectGateEvent_marked ((queued_advanceTo l l _ n s).trans hq) hd]; rfl
  · refine congrArg Host.Outcome.next ((reach_of_due hq hruns (by simp [Positional.due, hblade, hgate])).trans ?_)
    rw [State.positionalEvent, rejectGateEvent_diverted ((queued_advanceTo l l _ n s).trans hq) hd hroom, dropCuts_eq, bumpRejected_countMarked]
    simp only [State.advanceTo, State.modLane, PerLane.get_set, PerLane.set_set]
    rfl

/-! ### The router gate (R33 to R35) -/

/-- R33: the record's lane slicing ends at the router gate. -/
def LoafRecord.slicing (r : LoafRecord) : Bool := decide (r.stage = .planned ∨ r.stage = .slicing)

/-- R33: a record at the router gate: cuts left are given up with MISCUT, and a record being sliced becomes SLICED. -/
def LoafRecord.atRouter (slicing cutsLeft : Bool) (x : LoafRecord) : LoafRecord :=
  { x with passed := { x.passed with routerGate := true }
           stage := if slicing then .sliced else x.stage
           flags := if slicing && cutsLeft then { x.flags with miscut := true } else x.flags
           disposition := if slicing && cutsLeft then some (x.disposition.getD .miscut) else x.disposition }

theorem endSlicing_of_slicing {l : Lane} {r : LoafRecord} (h : r.slicing = true) (s : State) : s.endSlicing l r =
    (s.modSlicer l (Slicer.dropCuts r.number)).updateRecord r.number fun x =>
      { (if (s.slicers.get l).hasCutsLeft r.number then x.miscut else x) with stage := .sliced } := by
  have h : r.stage = .planned ∨ r.stage = .slicing := by simpa [LoafRecord.slicing] using h
  rcases h with h | h <;> simp only [State.endSlicing, h]

theorem endSlicing_of_not {l : Lane} {r : LoafRecord} (h : r.slicing = false) (s : State) : s.endSlicing l r = s := by
  have h : r.stage ≠ .planned ∧ r.stage ≠ .slicing := by simpa [LoafRecord.slicing] using h
  unfold State.endSlicing
  cases hs : r.stage <;> simp_all

theorem atRouter_number (a b : Bool) (x : LoafRecord) : (x.atRouter a b).number = x.number := rfl

theorem marked_endSlicing {l : Lane} {n : Nat} {s : State} {r : LoafRecord} (hnum : r.number = n) :
    (s.updateRecord n fun x => { x with passed := { x.passed with routerGate := true } }).endSlicing l r =
      { s with slicers := if r.slicing then s.slicers.set l ((s.slicers.get l).dropCuts n) else s.slicers }.updateRecord n
        (LoafRecord.atRouter r.slicing ((s.slicers.get l).hasCutsLeft n)) := by
  subst hnum
  cases h : r.slicing with
  | false => rw [endSlicing_of_not h]; rfl
  | true =>
    rw [endSlicing_of_slicing h]
    have hswap : ∀ f : LoafRecord → LoafRecord, (s.updateRecord r.number f).modSlicer l (Slicer.dropCuts r.number) =
        (s.modSlicer l (Slicer.dropCuts r.number)).updateRecord r.number f := fun f => rfl
    rw [hswap]
    refine (updateRecord_updateRecord (by exact fun _ => rfl) _).trans ?_
    have hslicers : (s.updateRecord r.number fun x => { x with passed := { x.passed with routerGate := true } }).slicers = s.slicers := rfl
    rw [hslicers]
    cases (s.slicers.get l).hasCutsLeft r.number <;> rfl

/-- R33: the record at the gate is not one of the waiting ones, before or after. -/
theorem waitingCount_atRouter {l : Lane} {s : State} {r : LoafRecord} (hbooks : s.BooksKept) (hr : r ∈ (s.lanes.get l).queue)
    (hstage : r.stage ≠ .waiting) (cutsLeft : Bool) :
    ((s.updateRecord r.number (LoafRecord.atRouter r.slicing cutsLeft)).lanes.get l).waitingCount =
      (s.lanes.get l).queue.countP fun x => decide (x.stage = .waiting) := by
  rw [updateRecord_lane]
  simp only [LaneState.waitingCount, List.countP_map]
  refine List.countP_congr fun x hx => ?_
  simp only [Function.comp_apply, onNumber, decide_eq_true_eq]
  split
  · rename_i hnum
    obtain rfl : x = r := List.inj_on_of_nodup_map (queue_numbers_nodup hbooks l) hx hr hnum
    cases hs : x.slicing <;> simp [LoafRecord.atRouter, hstage]
  · simp

theorem routerGateEvent_eq {l : Lane} {n : Nat} {s : State} {r : LoafRecord} (hbooks : s.BooksKept) (hq : s.queued l n = some r)
    (hstage : r.stage ≠ .waiting) :
    let u := { s with slicers := if r.slicing then s.slicers.set l ((s.slicers.get l).dropCuts n) else s.slicers }
    let mark := LoafRecord.atRouter r.slicing ((s.slicers.get l).hasCutsLeft n)
    s.routerGateEvent l n =
      if ((s.lanes.get l).queue.countP fun x => decide (x.stage = .waiting)) < 2 then
        { u.updateRecord n (fun x => { mark x with stage := .waiting }) with
          router := { s.router with waitingOrder := s.router.waitingOrder ++ [(n, l)] } }.attemptReleases
      else (u.updateRecord n mark).modLane l fun y => { y with gateHeld := some n } := by
  intro u mark
  obtain ⟨hmem, hnum⟩ := queued_mem hq
  have hcount := waitingCount_atRouter (s := u) hbooks hmem hstage ((s.slicers.get l).hasCutsLeft n)
  rw [hnum] at hcount
  unfold State.routerGateEvent
  rw [hq]
  simp only [marked_endSlicing hnum, Limits.waitingZone]
  rw [hcount]
  refine if_congr Iff.rfl ?_ rfl
  rw [updateRecord_updateRecord (atRouter_number _ _)]
  rfl

/-- Settles O31. -/
theorem routerGatePlacesTheRecord : Obligations.RouterGatePlacesTheRecord := by
  intro l n r s hbooks hq hruns hgate hrouter hstage q sl point cutsLeft slicing mark u waiting
  have hbooks' : (s.advanceTo l point).BooksKept := booksKept_of_view (modLane_places l s) rfl hbooks
  have hevent := routerGateEvent_eq hbooks' ((queued_advanceTo l l point n s).trans hq) hstage
  have hexec : exec (.routerGateArrival l n) s = .next (State.finish s none ((s.advanceTo l point).routerGateEvent l n)) :=
    congrArg Host.Outcome.next (reach_of_due hq hruns (by simp [Positional.due, hgate, hrouter]))
  have hu : { s.advanceTo l point with slicers := if r.slicing then s.slicers.set l ((s.slicers.get l).dropCuts n) else s.slicers } = u := by
    rw [dropCuts_eq]; rfl
  have hwaiting : ((s.advanceTo l point).lanes.get l).queue.countP (fun x => decide (x.stage = .waiting)) = waiting := by
    simp [State.advanceTo, waiting, q]
  have hslicers : (s.advanceTo l point).slicers = s.slicers := rfl
  rw [hexec]
  simp only [hslicers, hu, hwaiting] at hevent
  refine ⟨fun h => ?_, fun h => ?_⟩
  · rw [hevent, if_pos h]; rfl
  · rw [hevent, if_neg (Nat.not_lt.mpr h)]; rfl

end Sys2Proof.Machine
end

section
/-! What every plan shows: the plans with cuts (O33), the plans without and the wear term (O34). -/

namespace Sys2Proof.Machine

/-! ### The slice count and the pitch stay in their ranges (R51 to R53) -/

theorem nominalCount_range {i : PlanInputs} (sSub : Nat) (h : 1 ≤ i.nMax) : 1 ≤ i.nominalCount sSub ∧ i.nominalCount sSub ≤ i.nMax := by
  rw [nominalCount_eq_clamp rfl]; omega

theorem adjustedCount_range {i : PlanInputs} (sSub : Nat) (h : 1 ≤ i.nMax) : 1 ≤ i.adjustedCount sSub ∧ i.adjustedCount sSub ≤ i.nMax := by
  have hn := nominalCount_range sSub h
  by_cases hthick : 256 * i.tMax + i.kSub < sSub / i.nominalCount sSub ∧ i.nominalCount sSub < i.nMax
  · rw [adjustedCount_of_thick hthick]; omega
  by_cases hthin : sSub / i.nominalCount sSub < 256 * i.tMin + i.kSub ∧ 1 < i.nominalCount sSub
  · rw [adjustedCount_of_thin hthick hthin]; omega
  · rw [adjustedCount_of_kept hthick hthin]; exact hn

/-- R53 in one statement: the pitch lies within the thickness limits; it is at most the one clamped, but for HEEL_SHORT, which
raises it. -/
theorem clampedPitch_spec {i : PlanInputs} (p : Nat) (hle : i.tMin ≤ i.tMax) {c : Nat × PlanOutcome} (hc : i.clampedPitch p = c) :
    256 * i.tMin + i.kSub ≤ c.1 ∧ c.1 ≤ 256 * i.tMax + i.kSub ∧
    ((c.2 = .even ∨ c.2 = .heelLong) ∧ c.1 ≤ p ∨ c.2 = .heelShort ∧ p < c.1) := by
  subst hc
  by_cases hthick : 256 * i.tMax + i.kSub < p
  · rw [clampedPitch_of_thick hthick]; simp; omega
  by_cases hthin : p < 256 * i.tMin + i.kSub
  · rw [clampedPitch_of_thin hle hthin]; simp; omega
  · rw [clampedPitch_of_even hthick hthin]; simp; omega

/-! ### The cut positions (R54) -/

theorem cutList_length (i : PlanInputs) (n p : Nat) : (i.cutList n p).length = n + 1 := by simp [PlanInputs.cutList]

theorem cutList_get {i : PlanInputs} {n p k : Nat} (h : k ≤ n) : (i.cutList n p)[k]? = some (i.lastCut k p) := by
  simp [PlanInputs.cutList, PlanInputs.lastCut, List.getElem?_range (show k < n + 1 by omega)]

theorem lastCut_mono (i : PlanInputs) (p : Nat) {j k : Nat} (h : j ≤ k) : i.lastCut j p ≤ i.lastCut k p := by
  have := Nat.mul_le_mul_right p h
  unfold PlanInputs.lastCut; omega

/-- Cuts a whole count or more apart stay distinct when they are rounded. -/
theorem lastCut_lt {i : PlanInputs} {p : Nat} (hp : 256 ≤ p) {j k : Nat} (h : j < k) : i.lastCut j p < i.lastCut k p := by
  have := Nat.mul_le_mul_right p (show j + 1 ≤ k from h)
  rw [Nat.add_mul] at this
  unfold PlanInputs.lastCut; omega

theorem cutList_pairwise {i : PlanInputs} {n p : Nat} (hp : 256 ≤ p) : (i.cutList n p).Pairwise (· < ·) :=
  List.pairwise_map.mpr (List.pairwise_lt_range.imp fun h => lastCut_lt hp h)

theorem cutList_le {i : PlanInputs} {n p c : Nat} (h : c ∈ i.cutList n p) : c ≤ i.lastCut n p := by
  obtain ⟨k, hk, rfl⟩ := List.mem_map.mp h
  exact lastCut_mono i p (Nat.lt_succ_iff.mp (List.mem_range.mp hk))

theorem cutList_head (i : PlanInputs) (n p : Nat) : (i.cutList n p).head? = some i.heel := by
  rw [List.head?_eq_getElem?, cutList_get (Nat.zero_le _)]
  simp [PlanInputs.lastCut]; omega

theorem cutList_getLast (i : PlanInputs) (n p : Nat) : (i.cutList n p).getLast? = some (i.lastCut n p) := by
  rw [List.getLast?_eq_getElem?, cutList_length]; exact cutList_get le_rfl

/-! ### The two forms of a plan (R55, R58) -/

/-- A plan is NO_SPAN without cuts, or it has the count, the pitch and the cuts of sections 3.2 and 3.3 within the loaf. -/
theorem plan_cases (i : PlanInputs) (hn : 1 ≤ i.nMax) (hle : i.tMin ≤ i.tMax) :
    i.plan = planWithoutCuts .noSpan i.length i.wearTerm i.wearClamped ∨
    ∃ n p outcome, 2 * i.heel < i.length ∧ 1 ≤ n ∧ n ≤ i.nMax ∧ 256 * i.tMin + i.kSub ≤ p ∧ p ≤ 256 * i.tMax + i.kSub ∧
      ((outcome = PlanOutcome.even ∨ outcome = .heelLong) ∧ i.lastCut n p + i.heel ≤ i.length ∨
        outcome = .heelShort ∧ i.length ≤ i.lastCut n p + i.heel) ∧
      i.lastCut n p ≤ i.length ∧
      i.plan = ⟨outcome, n, p, p - i.kSub, i.length - i.lastCut n p, i.cutList n p, min i.rawCrumb Limits.crumbPerCutMax,
        i.wearTerm, i.wearClamped, decide (Limits.crumbPerCutMax < i.rawCrumb)⟩ := by
  by_cases hspan : i.length ≤ 2 * i.heel
  · exact .inl (if_pos hspan)
  obtain ⟨hpos, hmax⟩ := adjustedCount_range (i := i) (256 * (i.length - 2 * i.heel)) hn
  generalize hcount : i.adjustedCount (256 * (i.length - 2 * i.heel)) = n at hpos hmax
  rcases hc : i.clampedPitch (256 * (i.length - 2 * i.heel) / n) with ⟨p, outcome⟩
  obtain ⟨hmin, htop, hpitch⟩ := clampedPitch_spec _ hle hc
  by_cases hlast : i.length < i.lastCut n p
  · exact .inl (plan_of_lastCut_beyond_loaf (not_le.mp hspan) hcount hc hlast)
  refine .inr ⟨n, p, outcome, not_le.mp hspan, hpos, hmax, hmin, htop, ?_, not_lt.mp hlast,
    plan_of_lastCut_on_loaf (not_le.mp hspan) hcount hc (not_lt.mp hlast)⟩
  refine hpitch.imp (.imp_right fun hshort => ?_) (.imp_right fun hlong => ?_)
  · have := (Nat.le_div_iff_mul_le hpos).mp hshort
    rw [Nat.mul_comm p n] at this
    unfold PlanInputs.lastCut; omega
  · have := (Nat.div_lt_iff_lt_mul hpos).mp hlong
    rw [Nat.mul_comm p n] at this
    unfold PlanInputs.lastCut; omega

/-- Settles O33: a plan with cuts is of the second form of `plan_cases`, and its cuts are 256 sub-counts or more apart. -/
theorem plansWithCuts : Obligations.PlansWithCuts := by
  intro i htMin hnom hmax hn p hout
  rcases plan_cases i hn (hnom.trans hmax) with h | ⟨n, pitch, outcome, -, hpos, htop, hlow, hhigh, -, hlast, h⟩
  · simp [p, h, planWithoutCuts] at hout
  simp only [p, h]
  refine ⟨hpos, htop, by omega, by omega, by omega, cutList_length i n pitch, cutList_head i n pitch, cutList_pairwise (by omega),
    fun c hc => (cutList_le hc).trans hlast, fun k hk => cutList_get hk, ?_⟩
  rw [cutList_getLast, Option.map_some, Nat.add_sub_cancel' hlast]

theorem plan_without_cuts (i : PlanInputs) (h : i.length ≤ 2 * i.heel) : i.plan.outcome = .noSpan := by
  rw [show i.plan = _ from if_pos h]; rfl

/-- R49, R57, R58: the wear and crumb figures of every plan, whatever its recipe. -/
theorem plan_figures (i : PlanInputs) : i.plan.wearTerm = i.wearTerm ∧ i.plan.wearClamped = i.wearClamped ∧
    (i.plan.cuts = [] ∧ i.plan.crumbPerCut = 0 ∧ i.plan.crumbClamped = false ∨
     i.plan.cuts ≠ [] ∧ i.plan.crumbPerCut = min i.rawCrumb Limits.crumbPerCutMax ∧
       i.plan.crumbClamped = decide (Limits.crumbPerCutMax < i.rawCrumb)) := by
  unfold PlanInputs.plan
  split
  · exact ⟨rfl, rfl, .inl ⟨rfl, rfl, rfl⟩⟩
  dsimp only
  split
  · exact ⟨rfl, rfl, .inl ⟨rfl, rfl, rfl⟩⟩
  · refine ⟨rfl, rfl, .inr ⟨List.ne_nil_of_length_pos ?_, rfl, rfl⟩⟩
    rw [cutList_length]; omega

/-- Settles O34. -/
theorem plansWithoutCutsAndWear : Obligations.PlansWithoutCutsAndWear := by
  refine ⟨?_, fun i => ?_⟩
  · intro i htMin hnom hmax hn p
    refine ⟨plan_without_cuts i, ?_⟩
    rcases plan_cases i hn (hnom.trans hmax) with h | ⟨n, pitch, outcome, -, -, -, -, -, hheel, -, h⟩
    · simp [p, h, planWithoutCuts]
    · simp only [p, h]
      rcases hheel with ⟨rfl | rfl, hheel⟩ | ⟨rfl, hheel⟩ <;> simp <;> omega
  · obtain ⟨hwear, hclamped, hcuts⟩ := plan_figures i
    refine ⟨Nat.min_comm _ _, rfl, hwear, ?_, fun hsome => ?_, fun hnone => ?_⟩
    · rw [hclamped]; exact decide_eq_true_iff
    · obtain ⟨hnone, -⟩ | ⟨-, hcrumb, hmark⟩ := hcuts
      · exact absurd hnone hsome
      · rw [hcrumb, hmark]; exact ⟨Nat.min_comm _ _, decide_eq_true_iff⟩
    · obtain ⟨-, hcrumb⟩ | ⟨hsome, -⟩ := hcuts
      · exact hcrumb
      · exact absurd hnone hsome

end Sys2Proof.Machine
end

section
/-! The requests of the Slicer Stations (O37) and of the Quality Watch (O41). -/

namespace Sys2Proof.Machine

/-! ### SET WEAR RATE, BLADE CHANGE and READ SLICER (R73 to R75) -/

theorem moving_false_iff (s : State) : s.moving = false ↔ s.line.state = .stopped ∨ s.line.state = .halted := by
  unfold State.moving; cases s.line.state <;> simp

theorem slicerReport_length (l : Lane) (s : State) : (s.slicerReport l).length = 18 := by
  have hcut : ∀ c, (cutBytes c).length = 3 := by intro c; cases c <;> simp [cutBytes]
  unfold State.slicerReport
  dsimp only
  cases hs : (s.slicers.get l).schedule <;> simp [hcut]

/-- Settles O37. -/
theorem slicerRequestsCarriedOut : Obligations.SlicerRequestsCarriedOut := by
  refine ⟨?_, fun l s => ?_⟩
  · rintro tag lane l rate s hfree rfl x
    refine ⟨?_, fun hrest => ?_, fun hmoving => ?_, ?_, slicerReport_length l s⟩
    · refine accepts_of_served (doSetWearRate (Lane.code l) rate) rfl hfree ?_
      rw [doSetWearRate, onLane_code]; simp only [beBytes_one]; rfl
    · refine accepts_of_served (doBladeChange (Lane.code l)) rfl hfree ?_
      rw [doBladeChange, onLane_code, (moving_false_iff s).mpr hrest]; rfl
    · refine rejects_of_refuse (doBladeChange (Lane.code l)) rfl hfree ?_
      rw [doBladeChange, onLane_code, (moving_iff s).mpr hmoving]; rfl
    · exact accepts_of_served (doReadSlicer (Lane.code l)) rfl hfree (onLane_code l s _)
  · intro x b2 b3 yes cut blade oldest
    have hcut : ∀ c, cutBytes c = cut c := by intro c; cases c <;> simp [cutBytes, cut, b2]
    have hblade : [Blade.code x.blade, boolCode x.blade.isMoving] ++ cutBytes x.blade.stroke = blade := by
      simp only [hcut, blade]; cases x.blade <;> rfl
    rw [← hblade, ← hcut]
    simp only [State.slicerReport, oldest, x]
    cases (s.slicers.get l).schedule <;> simp [b2, b3, yes, boolCode]

/-! ### The body of WRITE WATCH (R77) -/

theorem laneSelectOf_code (x : LaneSelect) : laneSelectOf (LaneSelect.code x) = some x := by cases x <;> decide

theorem testModeOf_code (x : TestMode) : testModeOf (TestMode.code x) = some x := by cases x <;> decide

theorem combineOf_code (x : Combine) : combineOf (Combine.code x) = some x := by cases x <;> decide

theorem boolOf_of_le {b : Byte} (h : b.toNat ≤ 1) : boolOf b = some (decide (b = 1)) := by
  obtain ⟨x, rfl⟩ := exists_boolCode h
  cases x <;> decide

theorem laneSelectOf_le {b : Byte} {x : LaneSelect} (h : laneSelectOf b = some x) : b.toNat ≤ 2 := by
  unfold laneSelectOf at h
  grind

theorem combineOf_le {b : Byte} {x : Combine} (h : combineOf b = some x) : b.toNat ≤ 1 := by
  unfold combineOf at h
  grind

/-- R77 step 3: a mode's code, and what it asks of its limits. -/
theorem testModeOf_spec {b : Byte} {x : TestMode} (h : testModeOf b = some x) (low high : Nat) :
    b.toNat ≤ 3 ∧ (x.limitsOk low high = true ↔ (2 ≤ b.toNat → low ≤ high)) := by
  unfold testModeOf at h
  split at h
  · cases h; simp_all [TestMode.limitsOk]
  split at h
  · cases h; simp_all [TestMode.limitsOk]
  split at h
  · cases h; simp_all [TestMode.limitsOk]
  split at h
  · cases h; simp_all [TestMode.limitsOk]
  · cases h

/-- Steps 2 to 4 of R77 for entry `i`: every field within its range, the limits of a range test in order, chained on a second
entry alone. -/
def WatchAllowed (f : WatchBody) (i : Fin 4) : Prop :=
  f.enable.toNat ≤ 1 ∧ f.productValue.toNat ≤ 15 ∧ f.productMask.toNat ≤ 15 ∧ f.laneSelect.toNat ≤ 2 ∧
  f.lengthMode.toNat ≤ 3 ∧ f.lengthLow.toNat ≤ 16383 ∧ f.lengthHigh.toNat ≤ 16383 ∧
  f.heightMode.toNat ≤ 3 ∧ f.heightLow.toNat ≤ 2000 ∧ f.heightHigh.toNat ≤ 2000 ∧
  f.requiredFlags.toNat ≤ 3 ∧ f.outcomes.toNat ≤ 63 ∧ f.combine.toNat ≤ 1 ∧ f.chained.toNat ≤ 1 ∧
  1 ≤ f.armWindow.toNat ∧ f.actions.toNat ≤ 31 ∧
  (2 ≤ f.lengthMode.toNat → f.lengthLow.toNat ≤ f.lengthHigh.toNat) ∧
  (2 ≤ f.heightMode.toNat → f.heightLow.toNat ≤ f.heightHigh.toNat) ∧ (f.chained = 1 → i = 1 ∨ i = 3)

/-- The entry that an allowed body describes. -/
def describedEntry (f : WatchBody) (lanes : LaneSelect) (lengths heights : TestMode) (how : Combine) : WatchEntry :=
  { enable := decide (f.enable = 1), productValue := f.productValue.setWidth 4, productMask := f.productMask.setWidth 4,
    laneSelect := lanes, lengthMode := lengths, lengthLow := f.lengthLow.toNat, lengthHigh := f.lengthHigh.toNat,
    heightMode := heights, heightLow := f.heightLow.toNat, heightHigh := f.heightHigh.toNat,
    needCloseGap := f.requiredFlags.getLsbD 0, needOverlong := f.requiredFlags.getLsbD 1,
    outcomes := ⟨f.outcomes.getLsbD 0, f.outcomes.getLsbD 1, f.outcomes.getLsbD 2, f.outcomes.getLsbD 3,
      f.outcomes.getLsbD 4, f.outcomes.getLsbD 5⟩,
    combine := how, chained := decide (f.chained = 1), armWindow := f.armWindow.toNat,
    actions := ⟨f.actions.getLsbD 0, f.actions.getLsbD 1, f.actions.getLsbD 2, f.actions.getLsbD 3, f.actions.getLsbD 4⟩,
    fireCount := 0 }

theorem isFirst_iff (i : Fin 4) : isFirst i = false ↔ i = 1 ∨ i = 3 := by revert i; decide

theorem watchEntryOf_allowed {i : Fin 4} {f : WatchBody} {lanes : LaneSelect} {lengths heights : TestMode} {how : Combine}
    (h : WatchAllowed f i) (hlanes : f.laneSelect = LaneSelect.code lanes) (hlengths : f.lengthMode = TestMode.code lengths)
    (hheights : f.heightMode = TestMode.code heights) (hhow : f.combine = Combine.code how) :
    watchEntryOf i f = some (describedEntry f lanes lengths heights how) := by
  obtain ⟨hen, hvalue, hmask, -, -, hll, hlh, -, hhl, hhh, hflags, hout, -, hch, harm, hact, hlorder, hhorder, hsecond⟩ := h
  obtain ⟨-, hlok⟩ := testModeOf_spec (hlengths ▸ testModeOf_code lengths) f.lengthLow.toNat f.lengthHigh.toNat
  obtain ⟨-, hhok⟩ := testModeOf_spec (hheights ▸ testModeOf_code heights) f.heightLow.toNat f.heightHigh.toNat
  have hchain : (!(decide (f.chained = 1) && isFirst i)) = true := by
    by_cases hc : f.chained = 1
    · simp [(isFirst_iff i).mpr (hsecond hc)]
    · rw [decide_eq_false hc]; rfl
  have harm' := f.armWindow.isLt
  unfold watchEntryOf
  rw [boolOf_of_le hen, hlanes, laneSelectOf_code, hlengths, testModeOf_code, hheights, testModeOf_code, outcomesOf,
    if_pos (by omega), hhow, combineOf_code, boolOf_of_le hch, actionsOf, if_pos (by omega)]
  refine (if_pos ?_).trans ?_
  · simp only [hlok.mpr hlorder, hhok.mpr hhorder, hchain, Bool.and_true, inRange, Bool.and_eq_true, decide_eq_true_eq]
    omega
  · simp only [BitVec.ofNat_toNat]; rfl

theorem allowed_of_watchEntryOf {i : Fin 4} {f : WatchBody} {e : WatchEntry} (h : watchEntryOf i f = some e) : WatchAllowed f i := by
  unfold watchEntryOf at h
  split at h
  · rename_i en ls lm hm os cb ch ac hen hls hlm hhm hos hcb hch hac
    split at h
    · rename_i hr
      obtain ⟨hlm', hlok⟩ := testModeOf_spec hlm f.lengthLow.toNat f.lengthHigh.toNat
      obtain ⟨hhm', hhok⟩ := testModeOf_spec hhm f.heightLow.toNat f.heightHigh.toNat
      have hls' := laneSelectOf_le hls
      have hcb' := combineOf_le hcb
      rw [boolOf_eq_some] at hen hch
      have hen' : f.enable.toNat ≤ 1 := hen ▸ boolCode_toNat_le en
      have hch' : f.chained.toNat ≤ 1 := hch ▸ boolCode_toNat_le ch
      have hout : f.outcomes.toNat < 64 := by
        unfold outcomesOf at hos; split at hos
        · assumption
        · cases hos
      have hact : f.actions.toNat < 32 := by
        unfold actionsOf at hac; split at hac
        · assumption
        · cases hac
      have hsecond : (!(ch && isFirst i)) = true → f.chained = 1 → i = 1 ∨ i = 3 := by
        intro hs hc
        rw [hch] at hc
        cases ch
        · cases hc
        · exact (isFirst_iff i).mp (by simpa using hs)
      simp only [inRange, Bool.and_eq_true, decide_eq_true_eq, hlok, hhok] at hr
      obtain ⟨⟨⟨hranges, hlorder⟩, hhorder⟩, hchain⟩ := hr
      refine ⟨hen', ?_, ?_, hls', hlm', ?_, ?_, hhm', ?_, ?_, ?_, by omega, hcb', hch', ?_, by omega, hlorder, hhorder, hsecond hchain⟩ <;>
        omega
    · cases h
  · cases h

theorem watchEntryOf_eq_none {i : Fin 4} {f : WatchBody} (h : ¬ WatchAllowed f i) : watchEntryOf i f = none := by
  cases he : watchEntryOf i f with
  | none => rfl
  | some e => exact absurd (allowed_of_watchEntryOf he) h

/-! ### The blocks of the Quality Watch (section 11.6) -/

/-- A byte of yes-or-no places, the first of them bit 0. -/
def placesByte (places : List Bool) : Byte := BitVec.ofNat 8 (places.foldr (fun b n => (if b then 1 else 0) + 2 * n) 0)

theorem requiredByte_places (e : WatchEntry) : e.requiredByte = placesByte [e.needCloseGap, e.needOverlong] := by
  unfold WatchEntry.requiredByte
  cases e.needCloseGap <;> cases e.needOverlong <;> rfl

theorem outcomes_byte_places (o : OutcomeSet) : o.byte = placesByte [o.even, o.heelLong, o.heelShort, o.noSpan, o.noPlan, o.latePlan] := by
  obtain ⟨a, b, c, d, e, f⟩ := o
  revert a b c d e f; decide

theorem actions_byte_places (a : Actions) : a.byte = placesByte [a.reject, a.mark, a.stop, a.captureStart, a.captureStop] := by
  obtain ⟨a, b, c, d, e⟩ := a
  revert a b c d e; decide

theorem fourBits_places (v : Vector Bool 4) : fourBits v = placesByte v.toList := by
  have hv : v = #v[v[0], v[1], v[2], v[3]] := by ext i hi; interval_cases i <;> rfl
  rw [hv]
  generalize v[0] = a, v[1] = b, v[2] = c, v[3] = d
  revert a b c d; decide

/-- Settles O41. -/
theorem watchRequestsCarriedOut : Obligations.WatchRequestsCarriedOut := by
  refine ⟨?_, fun n e => ?_, fun w => ⟨?_, ?_⟩, fun c => ?_⟩
  · intro tag b f s hfree allowed
    refine ⟨fun i lanes lengths heights how hi hf hlanes hlengths hheights hhow => ?_, fun hb => ?_, fun i hi hf => ?_, ?_, fun hb => ?_,
      fun hb => ?_, ?_⟩
    · refine accepts_of_served (doWriteWatch b f) rfl hfree ?_
      simp only [doWriteWatch, finOf_of_eq hi, watchEntryOf_allowed hf hlanes hlengths hheights hhow]; rfl
    · refine rejects_of_refuse (doWriteWatch b f) rfl hfree ?_
      rw [doWriteWatch, finOf_eq_none hb]
    · refine rejects_of_refuse (doWriteWatch b f) rfl hfree ?_
      simp only [doWriteWatch, finOf_of_eq hi, watchEntryOf_eq_none hf]
    · refine accepts_of_served doReadWatch rfl hfree ?_
      simp [doReadWatch]
    · refine accepts_of_served (doReadCapture b) rfl hfree ?_
      rw [doReadCapture, if_pos hb, beBytes_one]; rfl
    · exact rejects_of_refuse (doReadCapture b) rfl hfree (if_neg (by omega))
    · refine accepts_of_served doFlushCapture rfl hfree ?_
      rw [doFlushCapture, beBytes_one]
  · simp [WatchEntry.block, requiredByte_places, outcomes_byte_places, actions_byte_places, placesByte, boolCode]
  · cases h : w.chains[0] <;> simp [Watch.chainBlock, secondEntry, boolCode, h]
  · cases h : w.chains[1] <;> simp [Watch.chainBlock, secondEntry, boolCode, h]
  · simp [Summary.bytes, flags_byte, fourBits_places, placesByte, boolCode]

end Sys2Proof.Machine
end

section
/-! The Crumb Controllers' requests (O52, O53) and timers (O54). -/

namespace Sys2Proof.Machine

/-! ### Steps and modes -/

theorem goTo_eq (x : CrumbStep) (c : Crumb) : c.goTo x = { c with step := x, last := if c.step = x then c.last else c.step } := by
  unfold Crumb.goTo
  split
  · rename_i h; subst h; rfl
  · rfl

theorem rest_eq (c : Crumb) : c.rest = if c.mode = .disabled then .disabled else .watching := by
  unfold Crumb.rest; cases c.mode <;> rfl

theorem inCycle_eq_false (x : CrumbStep) : x.inCycle = false ↔ x = .disabled ∨ x = .watching := by cases x <;> simp [CrumbStep.inCycle]

theorem inCycle_eq_true (x : CrumbStep) : x.inCycle = true ↔ ¬(x = .disabled ∨ x = .watching) := by rw [← inCycle_eq_false, Bool.not_eq_false]

/-- R135: a controller that is not in GAP_WAIT enters it. -/
theorem enterGapWait_of {l : Lane} {s : State} (h : (s.crumb.get l).step ≠ .gapWait) : s.enterGapWait l = { s with
    crumb := s.crumb.set l { s.crumb.get l with step := .gapWait, last := (s.crumb.get l).step, manual := false, phase := some 10000 }
    air := s.air.request l } := by
  simp only [State.enterGapWait, State.modCrumb, goTo_of_ne h]; rfl

theorem enterGapWait_at_rest {l : Lane} {s : State} (h : (s.crumb.get l).step = .disabled ∨ (s.crumb.get l).step = .watching) :
    s.enterGapWait l = { s with
      crumb := s.crumb.set l { s.crumb.get l with step := .gapWait, last := (s.crumb.get l).step, manual := false, phase := some 10000 }
      air := s.air.request l } :=
  enterGapWait_of (by rcases h with h | h <;> rw [h] <;> decide)

theorem resetCrumb_eq (l : Lane) (s : State) : s.resetCrumb l = { s with
    crumb := s.crumb.set l { s.crumb.get l with
      step := if (s.crumb.get l).mode = .disabled then .disabled else .watching
      last := if (s.crumb.get l).step = (if (s.crumb.get l).mode = .disabled then CrumbStep.disabled else .watching) then (s.crumb.get l).last
        else (s.crumb.get l).step
      phase := none, single := false, manual := false }
    air := s.air.release l } := by
  simp only [State.resetCrumb, State.modCrumb, goTo_eq, rest_eq]

/-! ### CRUMB SETTINGS (R132) -/

theorem crumb_apply (c : Crumb) (p : Setting) : c.apply p = { c with
    tLow := if p.item = 1 then p.value.toNat else c.tLow
    tHigh := if p.item = 2 then p.value.toNat else c.tHigh
    purgeTime := if p.item = 3 then p.value.toNat else c.purgeTime
    settleTime := if p.item = 4 then p.value.toNat else c.settleTime } := by
  unfold Crumb.apply
  split <;> simp_all [← BitVec.toNat_inj]

theorem crumb_foldl : ∀ (pairs : List Setting) (c : Crumb), pairs.foldl Crumb.apply c = { c with
    tLow := lastFor 1 c.tLow pairs
    tHigh := lastFor 2 c.tHigh pairs
    purgeTime := lastFor 3 c.purgeTime pairs
    settleTime := lastFor 4 c.settleTime pairs }
  | [], c => rfl
  | p :: rest, c => by
    rw [List.foldl_cons, crumb_foldl rest, crumb_apply]; rfl

theorem crumb_withPairs (pairs : List Setting) (c : Crumb) : c.withPairs pairs = { c with
    tLow := min (lastFor 1 c.tLow pairs) (lastFor 2 c.tHigh pairs)
    tHigh := lastFor 2 c.tHigh pairs
    purgeTime := lastFor 3 c.purgeTime pairs
    settleTime := lastFor 4 c.settleTime pairs } := by
  rw [Crumb.withPairs, crumb_foldl]

theorem crumbPairOk_iff {p : Setting} : crumbPairOk p = true ↔
    ((p.item = 1 ∨ p.item = 2) ∧ 1 ≤ p.value.toNat ∧ p.value.toNat ≤ 16777215) ∨
    (p.item = 3 ∧ 200 ≤ p.value.toNat ∧ p.value.toNat ≤ 5000) ∨ (p.item = 4 ∧ 100 ≤ p.value.toNat ∧ p.value.toNat ≤ 3000) := by
  unfold crumbPairOk
  split <;> simp_all [← BitVec.toNat_inj, inRange]

theorem crumbModeOf_eq_none {b : Byte} (h : 3 < b.toNat) : crumbModeOf b = none := by
  have hne : ∀ c : Byte, c.toNat ≤ 3 → b ≠ c := by rintro c hc rfl; omega
  unfold crumbModeOf
  rw [if_neg (hne 0 (by decide)), if_neg (hne 1 (by decide)), if_neg (hne 2 (by decide)), if_neg (hne 3 (by decide))]

theorem crumbReport_length (l : Lane) (s : State) : (s.crumbReport l).length = 28 := by
  have htimer : ∀ t, (timerCode t).length = 2 := by intro t; cases t <;> simp [timerCode]
  simp [State.crumbReport, Crumb.settingsBytes, htimer]

/-- The event's end keeps a controller's settings and its load. -/
theorem finish_figures (before s : State) (asked : Option Lane) (l : Lane) :
    ((State.finish before asked s).crumb.get l).settingsBytes = (s.crumb.get l).settingsBytes ∧
    ((State.finish before asked s).crumb.get l).load = (s.crumb.get l).load := by
  obtain ⟨step, last, manual, phase, h⟩ := purgeTests_restepped before s asked l
  rw [finish_crumb, h]
  exact ⟨rfl, rfl⟩

/-- Settles O52. -/
theorem crumbRequestsCarriedOut : Obligations.CrumbRequestsCarriedOut := by
  refine ⟨?_, fun l s => ?_⟩
  · rintro tag b l s hfree rfl
    simp only [← crumbPairOk_iff, ← inCycle_eq_false]
    refine ⟨fun pairs hpass => ?_, fun pairs hfail => ?_, fun m hrests hmanual => ?_, fun m hd hw => ?_, fun d hd => ?_,
      fun hrests hmoving => ?_, ?_, ?_, crumbReport_length l s⟩
    · refine accepts_of_served (doCrumbSettings (Lane.code l) pairs) rfl hfree ?_
      rw [doCrumbSettings, onLane_code]
      refine (if_pos (by simpa [inRange, and_assoc] using hpass)).trans ?_
      simp only [(finish_figures _ _ _ _).1, State.modCrumb, PerLane.get_set, crumb_withPairs]
      rfl
    · refine rejects_of_refuse (doCrumbSettings (Lane.code l) pairs) rfl hfree ?_
      rw [doCrumbSettings, onLane_code]
      exact if_neg fun h => hfail (by simpa [inRange, and_assoc] using h)
    · refine accepts_of_served (doSetCrumbMode (Lane.code l) (CrumbMode.code m)) rfl hfree ?_
      simp only [doSetCrumbMode, onLane_code, crumbModeOf_code, hrests]
      refine (if_neg (by simp)).trans ((if_neg fun h => ?_).trans ?_)
      · simp [hmanual h.1] at h
      · simp only [State.modCrumb, Crumb.setMode, goTo_eq, rest_eq]
    · refine rejects_of_refuse (doSetCrumbMode (Lane.code l) (CrumbMode.code m)) rfl hfree ?_
      simp only [doSetCrumbMode, onLane_code, crumbModeOf_code]
      exact if_pos ((inCycle_eq_true _).mpr (not_or.mpr ⟨hd, hw⟩))
    · refine rejects_of_refuse (doSetCrumbMode (Lane.code l) d) rfl hfree ?_
      simp only [doSetCrumbMode, onLane_code, crumbModeOf_eq_none hd]
    · refine rejects_of_refuse (doSetCrumbMode (Lane.code l) 3) rfl hfree ?_
      rw [doSetCrumbMode, onLane_code]
      exact (if_neg (by simp [hrests])).trans (if_pos ⟨rfl, hmoving⟩)
    · refine accepts_of_served (doCrumbReset (Lane.code l)) rfl hfree ?_
      have hasked : (if (s.crumb.get l).step.inCycle then some l else none) = if (s.crumb.get l).step.inCycle = false then none else some l := by
        cases (s.crumb.get l).step.inCycle <;> rfl
      rw [doCrumbReset, onLane_code]
      simp only [(finish_figures _ _ _ _).2, hasked, resetCrumb_eq, PerLane.get_set]
    · exact accepts_of_served (doReadCrumb (Lane.code l)) rfl hfree (onLane_code l s _)
  · intro c q b2 b3 yes timer quiet
    have htimer : ∀ t, timerCode t = timer t := by intro t; cases t <;> simp [timerCode, timer, b2]
    have hquiet : s.quiet l = quiet := by
      rw [Bool.eq_iff_iff, quiet_iff]
      simp [quiet, beforeBlade_eq_false, q]
    simp [State.crumbReport, Crumb.settingsBytes, Crumb.knives, Crumb.vacuum, htimer, hquiet, c, b2, b3, yes, boolCode]

/-! ### Starting and stopping purges (R141 to R143) -/

theorem safetyPresent_eq_false (s : State) : s.safetyPresent = false ↔ s.inputs.eStop = false ∧ ∀ g : Fin 4, s.inputs.guards[g] = false := by
  simp only [State.safetyPresent, State.eStopPresent, State.guardOpenPresent, Bool.or_eq_false_iff, List.any_eq_false]
  refine and_congr_right fun _ => ⟨fun h g => ?_, fun h x hx => ?_⟩
  · simpa using h s.inputs.guards[g] (by simp)
  · obtain ⟨i, hi, rfl⟩ := Vector.getElem_of_mem (Vector.mem_toList_iff.mp hx)
    simpa using h ⟨i, hi⟩

theorem manualForbidden_iff (l : Lane) (s : State) : s.manualForbidden l = true ↔ s.moving = true ∨ s.safetyPresent = true ∨
    ∃ r ∈ (s.lanes.get l).queue, r.stage = .gauged ∨ r.stage = .planWait ∨ r.stage = .planned ∨ r.stage = .slicing := by
  simp [State.manualForbidden, beforeBlade_iff, or_assoc]

/-- The reply of a purge request that was carried out. -/
theorem accepts_of_purgeReply {i : Instr} {l : Lane} {s t : State} (take : State → Served)
    (he : exec i s = .next (s.arrive (requestFrame i) take)) (h : s.link.handled = none) (hd : take s = purgeReply l s t) :
    Accepts i s t [CrumbStep.code (s.crumb.get l).step, CrumbStep.code (t.crumb.get l).step] :=
  accepts_of_served take he h hd

theorem doPurgeStart_commanded {l : Lane} {s : State} (h : (s.crumb.get l).mode = .commanded) :
    doPurgeStart (Lane.code l) s = purgeStartCommanded l s := by simp [doPurgeStart, onLane_code, h]

theorem doPurgeStart_manual {l : Lane} {s : State} (h : (s.crumb.get l).mode = .manual) :
    doPurgeStart (Lane.code l) s = purgeStartManual l s := by simp [doPurgeStart, onLane_code, h]

theorem doPurgeStop_of {l : Lane} {s : State} (h : (s.crumb.get l).mode = .commanded ∨ (s.crumb.get l).mode = .manual) :
    doPurgeStop (Lane.code l) s = purgeReply l s (State.finish s none (s.purgeStop l)) := by
  rcases h with h | h <;> simp [doPurgeStop, onLane_code, h]

theorem withdrawPurge_of {l : Lane} {s : State} (h : (s.crumb.get l).step = .gapWait) : s.withdrawPurge l = { s with
    crumb := s.crumb.set l { s.crumb.get l with step := .watching, last := .gapWait, phase := none }
    air := s.air.release l } := by
  simp only [State.withdrawPurge, State.modCrumb, goTo_of_ne (show (s.crumb.get l).step ≠ .watching by rw [h]; decide), h]

theorem purgeStop_of_gapWait {l : Lane} {s : State} (h : (s.crumb.get l).step = .gapWait) : s.purgeStop l = s.withdrawPurge l := by
  simp only [State.purgeStop, h]

theorem purgeStop_of_purging {l : Lane} {s : State} (h : (s.crumb.get l).step = .purging) : s.purgeStop l = s.settlePurge l .purgeStop := by
  simp only [State.purgeStop, h]

theorem purgeStop_of_other {l : Lane} {s : State} (hgap : (s.crumb.get l).step ≠ .gapWait) (hpurging : (s.crumb.get l).step ≠ .purging) :
    s.purgeStop l = s := by
  unfold State.purgeStop
  split
  · exact absurd ‹_› hgap
  · exact absurd ‹_› hpurging
  all_goals rfl

theorem beginManual_of {l : Lane} {s : State} (h : (s.crumb.get l).step ≠ .purging) (hair : s.air.holder = none) : s.beginManual l = { s with
    crumb := s.crumb.set l { s.crumb.get l with step := .purging, last := (s.crumb.get l).step, manual := true }
    air := ⟨some l, s.air.waiting⟩ } := by
  simp only [State.beginManual, State.modCrumb, goTo_of_ne h, Air.request, hair]

/-- Settles O53. -/
theorem purgeRequestsTaken : Obligations.PurgeRequestsTaken := by
  rintro tag b l s hfree rfl c rests safe replies waiting
  have hcycle : c.step.inCycle = true ↔ ¬rests := inCycle_eq_true _
  have hsafe : s.safetyPresent = true ↔ ¬safe := by rw [← Bool.not_eq_false, safetyPresent_eq_false]
  have hidle (h : rests) : ¬(c.step = .purging ∨ c.step = .settling) := by rcases h with h | h <;> rw [h] <;> decide
  have hallowed (hmoving : s.moving = false) (hs : safe)
      (hqueue : ∀ r ∈ (s.lanes.get l).queue, r.stage = .sliced ∨ r.stage = .waiting ∨ r.stage = .atHead) : ¬ s.manualForbidden l = true := by
    simp only [State.manualForbidden, hmoving, (safetyPresent_eq_false s).mpr hs, Bool.false_or, List.any_eq_true, not_exists, not_and,
      Bool.not_eq_true, beforeBlade_eq_false]
    exact hqueue
  have hfirst (h : rests) (hsingle : c.single = false) : ¬ (c.step.inCycle || c.single) = true := by
    rw [(inCycle_eq_false _).mpr h, hsingle]; decide
  have hwaits (h : rests) : s.enterGapWait l = waiting := enterGapWait_at_rest h
  refine ⟨fun hmode => ⟨?_, ?_⟩, fun hmode => ⟨fun h => ?_, fun h hstop => ?_, fun h hline hs => ?_⟩, fun hmode h => ?_,
    fun hmode h => ⟨fun hstop => ?_, fun hmoving hs hqueue => ⟨fun hair => ?_, fun hair => ?_⟩⟩,
    fun hmode => ⟨fun h => ?_, fun h => ?_, fun hgap hpurging => ?_⟩, fun hmode => ?_, fun hmode h => ?_,
    fun hmode h hsingle => ⟨fun hmoving => ?_, fun hmoving => ?_⟩⟩
  · refine rejects_of_refuse (doPurgeStart (Lane.code l)) rfl hfree ?_
    rcases hmode with hmode | hmode <;> simp [doPurgeStart, onLane_code, c, hmode]
  · refine rejects_of_refuse (doPurgeStop (Lane.code l)) rfl hfree ?_
    rcases hmode with hmode | hmode <;> simp [doPurgeStop, onLane_code, c, hmode]
  · exact rejects_of_refuse (doPurgeStart (Lane.code l)) rfl hfree ((doPurgeStart_commanded hmode).trans (if_pos (hcycle.mpr h)))
  · refine rejects_of_refuse (doPurgeStart (Lane.code l)) rfl hfree ((doPurgeStart_commanded hmode).trans ?_)
    exact (if_neg (fun k => hcycle.mp k h)).trans (if_pos (hstop.imp_right hsafe.mpr))
  · refine accepts_of_purgeReply (doPurgeStart (Lane.code l)) rfl hfree ((doPurgeStart_commanded hmode).trans ?_)
    rw [← hwaits h]
    exact (if_neg (fun k => hcycle.mp k h)).trans (if_neg (not_or.mpr ⟨hline, fun k => hsafe.mp k hs⟩))
  · exact rejects_of_refuse (doPurgeStart (Lane.code l)) rfl hfree ((doPurgeStart_manual hmode).trans (if_pos h))
  · refine rejects_of_refuse (doPurgeStart (Lane.code l)) rfl hfree ((doPurgeStart_manual hmode).trans ?_)
    exact (if_neg (hidle h)).trans (if_pos ((manualForbidden_iff l s).mpr (hstop.imp_right (.imp_left hsafe.mpr))))
  · refine rejects_of_refuse (doPurgeStart (Lane.code l)) rfl hfree ((doPurgeStart_manual hmode).trans ?_)
    exact (if_neg (hidle h)).trans ((if_neg (hallowed hmoving hs hqueue)).trans (if_pos hair))
  · refine accepts_of_purgeReply (doPurgeStart (Lane.code l)) rfl hfree ((doPurgeStart_manual hmode).trans ?_)
    rw [← beginManual_of (fun k => hidle h (.inl k)) hair]
    exact (if_neg (hidle h)).trans ((if_neg (hallowed hmoving hs hqueue)).trans (if_neg (by simp [hair])))
  · refine accepts_of_purgeReply (doPurgeStop (Lane.code l)) rfl hfree ((doPurgeStop_of hmode).trans ?_)
    rw [purgeStop_of_gapWait h, withdrawPurge_of h]
  · refine accepts_of_purgeReply (doPurgeStop (Lane.code l)) rfl hfree ((doPurgeStop_of hmode).trans ?_)
    rw [purgeStop_of_purging h, settlePurge_of h]
  · refine accepts_of_purgeReply (doPurgeStop (Lane.code l)) rfl hfree ((doPurgeStop_of hmode).trans ?_)
    rw [purgeStop_of_other hgap hpurging]
  · refine rejects_of_refuse (doSinglePurge (Lane.code l)) rfl hfree ?_
    rw [doSinglePurge, onLane_code]
    exact if_pos hmode
  · refine rejects_of_refuse (doSinglePurge (Lane.code l)) rfl hfree ?_
    rw [doSinglePurge, onLane_code]
    exact (if_neg (not_not.mpr hmode)).trans (if_pos (Bool.or_eq_true _ _ |>.mpr (h.imp_left hcycle.mpr)))
  · refine accepts_of_served (doSinglePurge (Lane.code l)) rfl hfree ?_
    rw [doSinglePurge, onLane_code, ← hwaits h]
    exact (if_neg (not_not.mpr hmode)).trans ((if_neg (hfirst h hsingle)).trans (if_pos hmoving))
  · refine accepts_of_served (doSinglePurge (Lane.code l)) rfl hfree ?_
    rw [doSinglePurge, onLane_code]
    exact (if_neg (not_not.mpr hmode)).trans ((if_neg (hfirst h hsingle)).trans (if_neg (Bool.not_eq_true _ |>.mpr hmoving)))

/-! ### The timers (R137 to R139) -/

theorem giveUpPurge_of {l : Lane} {s : State} (h : (s.crumb.get l).step = .gapWait) : s.giveUpPurge l =
    ({ s with
        crumb := s.crumb.set l { s.crumb.get l with step := .watching, last := .gapWait, phase := none, holdOff := some 30000 }
        air := s.air.release l } : State).notify (.purgeNoGap l (s.crumb.get l).load (decide (s.air.holder = some l))) := by
  simp only [State.giveUpPurge, State.modCrumb, PerLane.get_set, goTo_of_ne (show (s.crumb.get l).step ≠ .watching by rw [h]; decide), h]
  rfl

theorem completePurge_of {l : Lane} {s : State} (h : (s.crumb.get l).step = .settling) : s.completePurge l =
    ({ s with
        crumb := s.crumb.set l { s.crumb.get l with
          step := .watching, last := .settling, phase := none, manual := false, load := 0, count := min 255 ((s.crumb.get l).count + 1) }
        totals := { s.totals with
          lanes := s.totals.lanes.set l { s.totals.lanes.get l with purges := min 4294967295 ((s.totals.lanes.get l).purges + 1) } }
        air := s.air.release l } : State).notify
      (.purgeDone l (s.crumb.get l).load (min 255 ((s.crumb.get l).count + 1)) (s.crumb.get l).ended) := by
  simp only [State.completePurge, State.modCrumb, State.modLaneTotals, State.notify, satAdd_one, PerLane.get_set, PerLane.set_set,
    goTo_of_ne (show (s.crumb.get l).step ≠ .watching by rw [h]; decide), h]
  rfl

/-- Settles O54. -/
theorem purgeTimersRunOut : Obligations.PurgeTimersRunOut := by
  intro l s c with'
  refine ⟨fun hstep hphase => ?_, fun hhold => ?_, fun hstep hphase => ?_, fun hstep hphase => ?_⟩
  · refine (if_pos ⟨hstep, Option.isSome_iff_ne_none.mpr hphase⟩).trans ?_
    rw [giveUpPurge_of hstep]
  · exact if_pos (Option.isSome_iff_ne_none.mpr hhold)
  · refine (if_pos ⟨hstep, Option.isSome_iff_ne_none.mpr hphase⟩).trans ?_
    rw [settlePurge_of hstep]
  · refine (if_pos ⟨hstep, Option.isSome_iff_ne_none.mpr hphase⟩).trans ?_
    rw [completePurge_of hstep]

end Sys2Proof.Machine
end

section
/-! The requests of the Clip Tiers (O49). -/

namespace Sys2Proof.Machine

/-! ### Heads as operands -/

theorem onHead_code (h : Head) (s : State) (f : Head → Served) : onHead (Head.code h) s f = f h := by rw [onHead, headOf_code]

theorem headOf_eq_none {b : Byte} (h1 : b ≠ 1) (h2 : b ≠ 2) : headOf b = none := by rw [headOf, if_neg h1, if_neg h2]

theorem onHead_of_none {b : Byte} (h1 : b ≠ 1) (h2 : b ≠ 2) (s : State) (f : Head → Served) : onHead b s f = refuse s .badValue := by
  rw [onHead, headOf_eq_none h1 h2]

/-- A request of a head, refused whatever head it names. -/
theorem onHead_refuse {b : Byte} {s : State} {f : Head → Served} (h : ∀ k, f k = refuse s .badValue) : onHead b s f = refuse s .badValue := by
  unfold onHead; split
  · rfl
  · exact h _

theorem onProduct_refuse {b : Byte} {s : State} {f : ProductIx → Served} (h : ∀ p, f p = refuse s .badValue) : onProduct b s f = refuse s .badValue := by
  unfold onProduct; split
  · rfl
  · exact h _

theorem clipEmptyAt_iff (h : Head) (s : State) : s.clipEmptyAt h = true ↔ s.router.active.get h ≠ .none ∧ (s.tiers.get h).magazine = 0 := by
  simp [State.clipEmptyAt]

/-! ### LEARN SIGNATURE and SET SIGNATURE (R124, R125) -/

theorem order_arm_of_none : Learn.order 0 .none = some .armed := rfl

theorem order_arm_of_ne {x : Learn} (h : x ≠ .none) : Learn.order 0 x = some x := by
  cases x with
  | none => exact absurd rfl h
  | armed => rfl
  | bound p => rfl

theorem order_cancel (x : Learn) : Learn.order 1 x = some .none := by cases x <;> rfl

theorem order_large {d : Byte} (h : 1 < d.toNat) (x : Learn) : Learn.order d x = none := by
  unfold Learn.order
  split <;> simp_all

theorem boolOf_large {d : Byte} (h : 1 < d.toNat) : boolOf d = none := by
  have hne : ∀ c : Byte, c.toNat ≤ 1 → d ≠ c := by rintro c hc rfl; omega
  rw [boolOf, if_neg (hne 0 (by decide)), if_neg (hne 1 (by decide))]

theorem signatureOf_large {d : Byte} (h : 1 < d.toNat) (v : Half) : signatureOf d v = none := by
  have hne : ∀ c : Byte, c.toNat ≤ 1 → d ≠ c := by rintro c hc rfl; omega
  rw [signatureOf, if_neg (hne 1 (by decide)), if_neg fun k => hne 0 (by decide) k.1]

theorem signatureOf_absent_value {v : Half} (h : v ≠ 0) : signatureOf 0 v = none := by
  rw [signatureOf, if_neg (by decide), if_neg fun k => h k.2]

theorem learnBoundTo_iff (p : ProductIx) (s : State) : s.learnBoundTo p = true ↔ s.tiers.one.learn = .bound p ∨ s.tiers.two.learn = .bound p := by
  simp [State.learnBoundTo]

theorem learnBoundTo_of_head {p : ProductIx} {h : Head} {s : State} (hb : (s.tiers.get h).learn = .bound p) : s.learnBoundTo p = true := by
  rw [learnBoundTo_iff]
  cases h
  · exact .inl hb
  · exact .inr hb

/-- R125: a signature set or cleared on a DEFINED product that no learn is bound to. -/
theorem doSetSignature_of {index present : Byte} {p : ProductIx} {e : ProductEntry} {v : Half} {sig : Option Half} {s : State}
    (hp : index.toNat = p.val) (he : s.products[p] = some e) (hone : s.tiers.one.learn ≠ .bound p) (htwo : s.tiers.two.learn ≠ .bound p)
    (hsig : signatureOf present v = some sig) : doSetSignature index present v s =
      served { s with products := s.products.set p (some { e with signature := sig }) } (signatureBytes e.signature ++ signatureBytes sig) := by
  have hfree : ¬ s.learnBoundTo p = true := by rw [learnBoundTo_iff]; exact not_or.mpr ⟨hone, htwo⟩
  rw [doSetSignature, onProduct_of_toNat hp]
  simp only [hsig]
  refine (if_neg (by simp [he])).trans ((if_neg hfree).trans ?_)
  simp only [State.setExpected, State.expectedSignature, he]
  rfl

/-! ### TIE CHECK (R126) -/

theorem doTieCheck_one (h : Head) (on : Bool) (s : State) : doTieCheck (Head.code h) (boolCode on) s =
    served (s.modTier h (Tier.setCheck on)) (tieCheckBytes s (s.modTier h (Tier.setCheck on)) h) := by
  have hnamed : tiersNamed (Head.code h) = some [h] := by cases h <;> rfl
  simp [doTieCheck, hnamed, boolOf_code]

theorem doTieCheck_both (on : Bool) (s : State) : doTieCheck 0xFF (boolCode on) s =
    served { s with tiers := ⟨s.tiers.one.setCheck on, s.tiers.two.setCheck on⟩ }
      (tieCheckBytes s { s with tiers := ⟨s.tiers.one.setCheck on, s.tiers.two.setCheck on⟩ } .one ++
        tieCheckBytes s { s with tiers := ⟨s.tiers.one.setCheck on, s.tiers.two.setCheck on⟩ } .two) := by
  simp only [doTieCheck, boolOf_code, show tiersNamed 0xFF = some [.one, .two] from rfl]
  simp [State.modTier, PerHead.get, PerHead.set]

/-- R129: the bytes of READ TIER, field by field (section 11.5). -/
theorem tierReport_length (h : Head) (s : State) : (s.tierReport h).length = 30 := by
  have hsig : ∀ v, (signatureBytes v).length = 3 := by intro v; simp [signatureBytes, halfBytes]
  have htie : ∀ t, (tieBytes t).length = 9 := by intro t; cases t <;> simp [tieBytes, halfBytes]
  have hcode : ∀ c, (clipCodeBytes c).length = 5 := by intro c; cases c <;> rfl
  simp [State.tierReport, Learn.bytes, hsig, htie, hcode]

/-- Settles O49. -/
theorem tierRequestsCarriedOut : Obligations.TierRequestsCarriedOut := by
  refine ⟨?_, fun tag b d index v count s hfree => ⟨fun h1 h2 => ⟨?_, ?_, ?_, fun hff => ?_⟩, fun hd => ⟨?_, ?_, ?_⟩, fun hv => ?_, fun hlarge => ?_,
    fun on => ?_⟩, fun h s => ?_⟩
  · rintro tag b h s hfree rfl x with'
    refine ⟨fun count => ?_, fun hlearn => ?_, fun hlearn => ?_, ?_, fun on => ?_, ?_, tierReport_length h s,
      fun index p e v hp he hone htwo => ⟨?_, ?_⟩, fun index p v hp => ⟨fun hnone => ?_, fun hdef hbound => ?_⟩⟩
    · intro new filled
      refine accepts_of_served (doReloadMagazine (Head.code h) count) rfl hfree ?_
      rw [doReloadMagazine, onHead_code]
      have hempty : (s.modTier h (Tier.reload new)).clipEmptyAt h = true ↔ new = 0 ∧ s.router.active.get h ≠ .none := by
        rw [clipEmptyAt_iff]; simp [Tier.reload, and_comm]
      have hraised : (if (s.modTier h (Tier.reload new)).clipEmptyAt h then (s.modTier h (Tier.reload new)).raise (.clipEmpty h)
          else s.modTier h (Tier.reload new)) = if new = 0 ∧ s.router.active.get h ≠ .none then filled.raise (.clipEmpty h) else filled := by
        by_cases hc : new = 0 ∧ s.router.active.get h ≠ .none
        · rw [if_pos hc, if_pos (hempty.mpr hc)]; rfl
        · rw [if_neg hc, if_neg (mt hempty.mp hc)]; rfl
      rw [← hraised]; rfl
    · refine accepts_of_served (doLearnSignature (Head.code h) 0) rfl hfree ?_
      simp only [doLearnSignature, onHead_code, x] at hlearn ⊢
      simp only [hlearn, order_arm_of_none]; rfl
    · refine accepts_of_served (doLearnSignature (Head.code h) 0) rfl hfree ?_
      simp only [doLearnSignature, onHead_code, order_arm_of_ne hlearn, x]
      exact congrArg (served · _) (congrArg (fun ts => { s with tiers := ts }) (PerHead.set_get s.tiers h))
    · refine accepts_of_served (doLearnSignature (Head.code h) 1) rfl hfree ?_
      simp only [doLearnSignature, onHead_code, order_cancel]; rfl
    · refine accepts_of_served (doTieCheck (Head.code h) (boolCode on)) rfl hfree ((doTieCheck_one h on s).trans ?_)
      simp [tieCheckBytes, Tier.setCheck]
      rfl
    · exact accepts_of_served (doReadTier (Head.code h)) rfl hfree (onHead_code h s _)
    · exact accepts_of_served (doSetSignature index 1 v) rfl hfree (doSetSignature_of hp he hone htwo rfl)
    · exact accepts_of_served (doSetSignature index 0 0) rfl hfree (doSetSignature_of hp he hone htwo rfl)
    · refine rejects_of_refuse (doSetSignature index 1 v) rfl hfree ?_
      rw [doSetSignature, onProduct_of_toNat hp]
      exact if_pos (by rw [hnone]; rfl)
    · refine rejects_of_refuse (doSetSignature index 1 v) rfl hfree ?_
      rw [doSetSignature, onProduct_of_toNat hp]
      exact (if_neg (by rwa [Option.isNone_iff_eq_none])).trans (if_pos (learnBoundTo_of_head hbound))
  · exact rejects_of_refuse (doReloadMagazine b count) rfl hfree (onHead_of_none h1 h2 s _)
  · exact rejects_of_refuse (doLearnSignature b d) rfl hfree (onHead_of_none h1 h2 s _)
  · exact rejects_of_refuse (doReadTier b) rfl hfree (onHead_of_none h1 h2 s _)
  · refine rejects_of_refuse (doTieCheck b d) rfl hfree ?_
    simp only [doTieCheck, tiersNamed, if_neg hff, headOf_eq_none h1 h2]; rfl
  · refine rejects_of_refuse (doLearnSignature b d) rfl hfree (onHead_refuse fun h => ?_)
    simp only [order_large hd]
  · refine rejects_of_refuse (doTieCheck b d) rfl hfree ?_
    simp only [doTieCheck, boolOf_large hd]
    cases tiersNamed b <;> rfl
  · refine rejects_of_refuse (doSetSignature index d v) rfl hfree (onProduct_refuse fun p => ?_)
    simp only [signatureOf_large hd]
  · refine rejects_of_refuse (doSetSignature index 0 v) rfl hfree (onProduct_refuse fun p => ?_)
    simp only [signatureOf_absent_value hv]
  · exact rejects_of_refuse (doSetSignature index d v) rfl hfree (onProduct_of_large hlarge s _)
  · refine accepts_of_served (doTieCheck 0xFF (boolCode on)) rfl hfree ((doTieCheck_both on s).trans ?_)
    simp [tieCheckBytes, Tier.setCheck, Head.code, PerHead.get]
    rfl
  · intro x inputs b2 yes
    have hbyte : inputs.byte = BitVec.ofNat 8 (inputs.lines.toNat + if inputs.cycleComplete then 16 else 0) := by
      unfold TierInputs.byte; cases inputs.cycleComplete <;> rfl
    have hhalf : ∀ v : Half, halfBytes v = b2 v.toNat := fun v => rfl
    simp only [State.tierReport, beBytes_two, beBytes_one, ← hbyte, x, Learn.bytes]
    cases (s.tiers.get h).lastSignature <;> cases (s.tiers.get h).lastCode <;> cases (s.tiers.get h).tie <;>
      simp [signatureBytes, clipCodeBytes, tieBytes, productCode, hhalf, b2, yes, boolCode, inputs]

end Sys2Proof.Machine
end

section
/-! The raise of a stop cause and the entry into HALTED (O55). -/

namespace Sys2Proof.Machine

/-! ### Writing every held record -/

/-- Every held record rewritten. -/
def State.mapRecords (f : LoafRecord → LoafRecord) (s : State) : State :=
  { s with
    lanes := ⟨{ s.lanes.a with queue := s.lanes.a.queue.map f }, { s.lanes.b with queue := s.lanes.b.queue.map f }⟩
    heads := ⟨{ s.heads.one with record := s.heads.one.record.map f }, { s.heads.two with record := s.heads.two.record.map f }⟩ }

theorem updateRecord_eq_mapRecords (n : Nat) (f : LoafRecord → LoafRecord) (s : State) : s.updateRecord n f = s.mapRecords (onNumber n f) := rfl

theorem mapRecords_mapRecords (f g : LoafRecord → LoafRecord) (s : State) : (s.mapRecords f).mapRecords g = s.mapRecords fun r => g (f r) := by
  simp [State.mapRecords, Function.comp_def]

theorem mapRecords_id (s : State) : s.mapRecords id = s := by simp [State.mapRecords]

theorem modSlicer_mapRecords (f : LoafRecord → LoafRecord) (l : Lane) (g : Slicer → Slicer) (s : State) :
    (s.mapRecords f).modSlicer l g = (s.modSlicer l g).mapRecords f := rfl

theorem mapRecords_lane (f : LoafRecord → LoafRecord) (l : Lane) (s : State) :
    (s.mapRecords f).lanes.get l = { s.lanes.get l with queue := (s.lanes.get l).queue.map f } := by cases l <;> rfl

theorem mapRecords_head (f : LoafRecord → LoafRecord) (h : Head) (s : State) :
    (s.mapRecords f).heads.get h = { s.heads.get h with record := (s.heads.get h).record.map f } := by cases h <;> rfl

/-! ### The cuts of loaves abandoned (R68) -/

/-- R68 step 3, R67: a record whose cuts are all given up: MISCUT, rejected, and SLICED where it was PLANNED or SLICING. -/
def LoafRecord.cutShort (ns : List Nat) (r : LoafRecord) : LoafRecord :=
  if r.number ∈ ns then
    { r with flags := { r.flags with miscut := true }, disposition := some (r.disposition.getD .miscut)
             stage := if r.stage = .planned ∨ r.stage = .slicing then .sliced else r.stage }
  else r

theorem cutShort_nil (r : LoafRecord) : r.cutShort [] = r := if_neg List.not_mem_nil

theorem cutShort_number (ns : List Nat) (r : LoafRecord) : (r.cutShort ns).number = r.number := by
  unfold LoafRecord.cutShort; split <;> rfl

/-- Cutting a loaf short again changes nothing more. -/
theorem cutShort_cutShort (ns ms : List Nat) (r : LoafRecord) : (r.cutShort ns).cutShort ms = r.cutShort (ns ++ ms) := by
  unfold LoafRecord.cutShort
  by_cases hn : r.number ∈ ns <;> by_cases hm : r.number ∈ ms <;> simp [hn, hm]
  split <;> simp_all

theorem cutShort_one (n : Nat) : LoafRecord.cutShort [n] = onNumber n fun r => r.miscut.becomeSliced := by
  funext r
  unfold LoafRecord.cutShort onNumber
  simp [becomeSliced_eq, LoafRecord.miscut, LoafRecord.reject]

/-- R68 step 3 at a station without stroke and pending cut. -/
theorem abandonLoaf_eq {l : Lane} {s : State} (hpending : (s.slicers.get l).pending = none) (hstroke : (s.slicers.get l).blade.strokeLoaf = none)
    (n : Nat) : s.abandonLoaf l n = (s.modSlicer l (Slicer.unschedule n)).mapRecords (LoafRecord.cutShort [n]) := by
  have hdone : (((s.modSlicer l (Slicer.unschedule n)).updateRecord n LoafRecord.miscut).slicers.get l).doneWith n = true := by
    rw [doneWith_iff]
    simp [State.updateRecord, Slicer.unschedule, hpending, hstroke]
  rw [State.abandonLoaf, State.trySliced, if_pos hdone]
  refine (updateRecord_updateRecord (by exact fun _ => rfl) _).trans ?_
  rw [cutShort_one]; rfl

theorem abandonLoaves_eq (l : Lane) : ∀ (ns : List Nat) (s : State), (s.slicers.get l).pending = none → (s.slicers.get l).blade.strokeLoaf = none →
    ns.foldl (fun t n => t.abandonLoaf l n) s = (s.modSlicer l fun sl => { sl with
      schedule := sl.schedule.filter fun e => decide (e.loaf ∉ ns) }).mapRecords (LoafRecord.cutShort ns)
  | [], s, _, _ => by
    have hkeep : (fun sl : Slicer => { sl with schedule := sl.schedule.filter fun e => decide (e.loaf ∉ ([] : List Nat)) }) = id := by
      funext sl; simp
    rw [hkeep, show LoafRecord.cutShort [] = id from funext cutShort_nil]
    exact ((mapRecords_id _).trans (congrArg (fun x => { s with slicers := x }) (PerLane.set_get s.slicers l))).symm
  | n :: ns, s, hp, hs => by
    rw [List.foldl_cons, abandonLoaf_eq hp hs, abandonLoaves_eq l ns _ (by simpa [State.mapRecords, Slicer.unschedule] using hp)
      (by simpa [State.mapRecords, Slicer.unschedule] using hs)]
    have hcut : (fun r : LoafRecord => (r.cutShort [n]).cutShort ns) = LoafRecord.cutShort (n :: ns) := funext (cutShort_cutShort [n] ns)
    have hfilter : ∀ es : List ScheduleEntry, (es.filter fun e => e.loaf != n).filter (fun e => decide (e.loaf ∉ ns)) =
        es.filter fun e => decide (e.loaf ∉ n :: ns) := by
      intro es
      rw [List.filter_filter]
      exact List.filter_congr fun e _ => by simp [bne, BEq.beq, Bool.and_comm]
    rw [modSlicer_mapRecords, mapRecords_mapRecords, hcut]
    simp only [State.modSlicer, Slicer.unschedule, PerLane.get_set, PerLane.set_set, hfilter]

theorem strokeLoaf_abandoned (b : Blade) : b.abandoned.strokeLoaf = none := by cases b <;> rfl

/-- R68, R70, R71: a station whose stroke or move is abandoned. -/
def Slicer.abandonedStroke (x : Slicer) : Slicer :=
  { x with blade := x.blade.abandoned, pending := none, timer := none, schedule := x.schedule.filter fun e => decide (e.loaf ∉ x.owners) }

/-- R68, R70, R71: the stroke and the pending cut abandoned, with every remaining cut of their loaves. -/
theorem abandonStroke_eq (l : Lane) (s : State) : s.abandonStroke l =
    { s with slicers := s.slicers.set l (s.slicers.get l).abandonedStroke }.mapRecords (LoafRecord.cutShort (s.slicers.get l).owners) := by
  rw [State.abandonStroke, abandonLoaves_eq l _ _ (by simp) (by simp [strokeLoaf_abandoned])]
  simp [State.modSlicer, Slicer.abandonedStroke]

/-! ### The entry into HALTED (R158) -/

theorem halted_eq (x : HeadState) : x.halted = { x with
    timer := if decide (x.step ≠ .idle ∧ x.step ≠ .bagOut) then none else x.timer
    feedPulse := if decide (x.step ≠ .idle ∧ x.step ≠ .bagOut) then none else x.feedPulse } := by
  unfold HeadState.halted
  cases h : x.step <;> simp [HeadStep.timed]
  all_goals exact (congrArg (fun y => { x with step := y }) h.symm).symm

/-- R158 with every piece of state written out. -/
def State.haltedFrom (s : State) : State :=
  let cut := LoafRecord.cutShort ((s.slicers.get .a).owners ++ (s.slicers.get .b).owners)
  let lane := fun (l : Lane) => { s.lanes.get l with queue := (s.lanes.get l).queue.map cut }
  let head := fun (h : Head) => { s.heads.get h with record := (s.heads.get h).record.map cut }.halted
  { s with
    line := { s.line with state := .halted, window := none }
    notices := s.notices.place (.lineState s.line.state .halted s.line.latched)
    lanes := ⟨lane .a, lane .b⟩
    slicers := ⟨(s.slicers.get .a).abandonedStroke, (s.slicers.get .b).abandonedStroke⟩
    heads := ⟨head .one, head .two⟩
    tiers := ⟨(s.tiers.get .one).halted, (s.tiers.get .two).halted⟩ }

theorem enterHalted_eq (s : State) : s.enterHalted = s.haltedFrom := by
  have hcut : (fun r : LoafRecord => (r.cutShort s.slicers.a.owners).cutShort s.slicers.b.owners) =
      LoafRecord.cutShort (s.slicers.a.owners ++ s.slicers.b.owners) := funext (cutShort_cutShort _ _)
  simp [State.enterHalted, State.haltedFrom, abandonStroke_eq, State.setLine, State.notify, State.mapRecords, PerLane.get, PerLane.set, PerHead.get, hcut,
    Function.comp_def]

/-- The entry into HALTED reads neither the causes nor the notices it finds. -/
theorem enterHalted_congr (s : State) (line : Line) (q : Notices) : { s with line := line, notices := q }.enterHalted = { s.enterHalted with
    line := { line with state := .halted, window := none }, notices := q.place (.lineState line.state .halted line.latched) } := by
  simp only [enterHalted_eq]; rfl

/-! ### The abort of a purge (R145) -/

/-- R144, R145: a controller whose purge is aborted. -/
def Crumb.aborted (c : Crumb) : Crumb :=
  if c.step.inCycle then
    { c with step := if c.mode = .disabled then .disabled else .watching, last := c.step, phase := none, single := false, manual := false }
  else c

theorem aborted_inCycle (c : Crumb) : c.aborted.step.inCycle = false := by
  unfold Crumb.aborted
  split
  · dsimp only; split <;> rfl
  · exact Bool.not_eq_true _ |>.mp ‹_›

theorem abortPurge_eq (byClear : Bool) (l : Lane) (s : State) : s.abortPurge byClear l = { s with
    crumb := s.crumb.set l (s.crumb.get l).aborted
    air := if (s.crumb.get l).step.inCycle then s.air.release l else s.air
    notices := if (s.crumb.get l).step.inCycle then s.notices.place (.purgeAborted l (s.crumb.get l).step (s.crumb.get l).load byClear)
      else s.notices } := by
  rcases abortPurge_cases byClear l s with ⟨hc, h⟩ | ⟨hc, h⟩
  · simp [h, hc, Crumb.aborted]
  · have hne : ¬ (s.crumb.get l).step = (if (s.crumb.get l).mode = .disabled then CrumbStep.disabled else .watching) := by
      intro heq; rw [heq] at hc; split at hc <;> cases hc
    rw [h, resetCrumb_eq]
    simp [hc, Crumb.aborted, State.notify, hne]

/-- With the air in order, aborting both lanes' purges leaves it free (R140, R145). -/
theorem air_of_aborts {s : State} (h : s.AirOrdered) : ((s.abortPurge false .a).abortPurge false .b).air = ⟨none, none⟩ := by
  obtain ⟨hwaiting, hholder, hpurging, hgap⟩ := h
  have hfree : ∀ l, (s.crumb.get l).step.inCycle = true → s.air.holder = some l ∨ s.air.waiting = some l := by
    intro l hl
    cases hs : (s.crumb.get l).step
    case disabled | watching => rw [hs] at hl; cases hl
    case gapWait => exact hgap l hs
    case purging => exact .inl (hpurging l (.inl hs))
    case settling => exact .inl (hpurging l (.inr hs))
  have hcycle : ∀ l, s.air.waiting = some l → (s.crumb.get l).step.inCycle = true := by
    intro l hl; rw [(hwaiting l hl).2]; rfl
  simp only [abortPurge_eq, PerLane.get_set_ne _ _ (show Lane.b ≠ .a by decide)]
  generalize s.air = air at *
  obtain ⟨holder, waiting⟩ := air
  simp only [forall_lane, otherLane] at hwaiting hholder hfree hcycle
  rcases holder with _ | (_ | _) <;> rcases waiting with _ | (_ | _) <;> simp_all [Air.release]

/-! ### The raise (R149) -/

/-- R149, R150: the event causes as a raise leaves them where it does not stop the line. -/
def State.causesWith (c : Cause) (s : State) : EventCauses := if s.line.state = .stopped then s.line.causes else s.line.causes.add c

theorem raised_eq (c : Cause) (s : State) : s.raised c = { s with
    line := { s.line with causes := s.causesWith c, latched := latchOf c s.line.latched }
    notices := s.notices.place (.stopCause c s.line.state) } := by
  unfold State.raised State.makePresent State.causesWith
  split <;> rfl

/-- R149 steps 1, 2 and 4: the line after the raise of a pending cause. -/
def State.lineWithPending (c : Cause) (s : State) : Line :=
  let latched := latchOf c s.line.latched
  if s.line.state = .running then
    if s.drained then ⟨.stopped, (s.line.causes.add c).atStopped, latched, none⟩ else ⟨.draining, s.line.causes.add c, latched, s.line.window⟩
  else { s.line with causes := s.causesWith c, latched := latched }

/-- R149 step 3, R147: the notices that the raise of a pending cause places. -/
def State.noticesWithPending (c : Cause) (s : State) : Notices :=
  let latched := latchOf c s.line.latched
  let placed := s.notices.place (.stopCause c s.line.state)
  if s.line.state = .running then
    let drains := placed.place (.lineState .running .draining latched)
    if s.drained then drains.place (.lineState .draining .stopped latched) else drains
  else placed

/-- R149 for a pending cause: the line and the notices, and nothing else. -/
theorem raise_pending {c : Cause} (hc : c.immediate = false) (s : State) : s.raise c = { s with
    line := s.lineWithPending c, notices := s.noticesWithPending c } := by
  rw [raise_eq, if_neg (by simp [hc]), State.stopLine, if_neg (by simp [hc])]
  unfold State.lineWithPending State.noticesWithPending
  by_cases hr : s.line.state = .running
  · have hcauses : s.causesWith c = s.line.causes.add c := if_neg (by rw [hr]; decide)
    rw [if_pos (by rw [raised_eq]; exact hr), if_pos hr, if_pos hr, State.enterDraining, State.drainTest]
    have hdrained : ((s.raised c).setLine .draining).drained = s.drained := by rw [raised_eq]; rfl
    rw [hdrained]
    cases hd : s.drained
    · refine (if_neg (by simp)).trans ?_
      simp [raised_eq, State.setLine, State.notify, hr, hcauses]
    · refine (if_pos ⟨rfl, rfl⟩).trans ?_
      simp [raised_eq, State.setLine, State.notify, hr, hcauses]
  · rw [if_neg (by rw [raised_eq]; exact hr), if_neg hr, if_neg hr, raised_eq]

/-- R149 for an immediate cause, before the purge aborts. -/
theorem raise_immediate {c : Cause} (hc : c.immediate = true) (s : State) : s.raise c =
    ((({ (if s.moving then s.enterHalted else s) with
        line := { s.line with
          state := if s.moving then .halted else s.line.state, causes := s.causesWith c, latched := latchOf c s.line.latched
          window := if s.moving then none else s.line.window }
        notices := if s.moving then
            (s.notices.place (.stopCause c s.line.state)).place (.lineState s.line.state .halted (latchOf c s.line.latched))
          else s.notices.place (.stopCause c s.line.state) } : State).abortPurge false .a).abortPurge false .b) := by
  rw [raise_eq, if_pos hc, State.stopLine, if_pos hc, moving_raised]
  cases hm : s.moving
  · simp [raised_eq]
  · simp only [if_true, raised_eq, enterHalted_congr]

/-- The line after the raise of an immediate cause. -/
theorem line_raise_immediate {c : Cause} (hc : c.immediate = true) (s : State) : (s.raise c).line = { s.line with
    state := if s.moving then .halted else s.line.state, causes := s.causesWith c, latched := latchOf c s.line.latched
    window := if s.moving then none else s.line.window } := by simp [raise_immediate hc]

theorem latched_raise (c : Cause) (s : State) : (s.raise c).line.latched = latchOf c s.line.latched := by
  cases hc : c.immediate
  · rw [raise_pending hc]; simp only [State.lineWithPending]; repeat' split
    all_goals rfl
  · rw [line_raise_immediate hc]

theorem inCycle_iff (x : CrumbStep) : x.inCycle = true ↔ x ≠ .disabled ∧ x ≠ .watching := by cases x <;> simp [CrumbStep.inCycle]

theorem place_prefix (n : Notice) (q : Notices) : q.queue <+: (q.place n).queue := by
  unfold Notices.place
  split
  · exact List.prefix_rfl
  · split
    · exact List.prefix_append _ _
    · exact List.prefix_rfl

/-- R149 step 3: the cause's own notice is the first that its raise places. -/
theorem raise_places_first (c : Cause) (s : State) : (s.notices.place (.stopCause c s.line.state)).queue <+: (s.raise c).notices.queue := by
  cases hc : c.immediate
  · rw [raise_pending hc]
    simp only [State.noticesWithPending]
    split
    · split
      · exact (place_prefix _ _).trans (place_prefix _ _)
      · exact place_prefix _ _
    · exact List.prefix_rfl
  · have habort : ∀ (l : Lane) (u : State), u.notices.queue <+: (u.abortPurge false l).notices.queue := by
      intro l u
      rw [abortPurge_eq]
      dsimp only; split
      · exact place_prefix _ _
      · exact List.prefix_rfl
    rw [raise_immediate hc]
    refine List.IsPrefix.trans ?_ ((habort .a _).trans (habort .b _))
    dsimp only; split
    · exact place_prefix _ _
    · exact List.prefix_rfl

theorem crumb_aborts (l : Lane) (s : State) : ((s.abortPurge false .a).abortPurge false .b).crumb.get l = (s.crumb.get l).aborted := by
  cases l <;> simp [abortPurge_eq, PerLane.get, PerLane.set]

theorem crumb_enterHalted (s : State) : s.enterHalted.crumb = s.crumb ∧ s.enterHalted.air = s.air := by simp [enterHalted_eq, State.haltedFrom]

/-- R144, R145: every controller rests after the raise of an immediate cause. -/
theorem crumb_raise_immediate {c : Cause} (hc : c.immediate = true) (l : Lane) (s : State) :
    ((s.raise c).crumb.get l) = (s.crumb.get l).aborted := by
  rw [raise_immediate hc, crumb_aborts]
  cases s.moving <;> simp

theorem notices_aborts (s : State) : ((s.abortPurge false .a).abortPurge false .b).notices =
    (let inCycle := fun (l : Lane) => (s.crumb.get l).step ≠ .disabled ∧ (s.crumb.get l).step ≠ .watching
     let aborted := fun (l : Lane) (q : Notices) =>
       if inCycle l then q.place (.purgeAborted l (s.crumb.get l).step (s.crumb.get l).load false) else q
     aborted .b (aborted .a s.notices)) := by
  have hif : ∀ (x : CrumbStep) (p q : Notices), (if x.inCycle then p else q) = if x ≠ .disabled ∧ x ≠ .watching then p else q := by
    intro x p q; cases x <;> rfl
  simp only [abortPurge_eq, hif]
  rfl

/-- R149 step 1: outside STOPPED and RUNNING a raise of either kind adds its cause. -/
theorem causes_raise {c : Cause} {s : State} (hrunning : s.line.state ≠ .running) (hstopped : s.line.state ≠ .stopped) :
    (s.raise c).line.causes = s.line.causes.add c := by
  cases hc : c.immediate
  · simp [raise_pending hc, State.lineWithPending, State.causesWith, hrunning, hstopped]
  · simp [line_raise_immediate hc, State.causesWith, hstopped]

/-- Settles O55. -/
theorem raisingAStopCause : Obligations.RaisingAStopCause := by
  refine ⟨?_, fun c g e l h st => ?_, fun s => ?_⟩
  · intro c s t
    refine ⟨by cases c <;> simp [Cause.immediate, Cause.priority], (latched_raise c s).trans ?_, fun hc hm => ?_, fun hc hm => ?_, fun hc hr hd => ?_,
      fun hc hr hd => ?_, fun hc hr => ?_, fun hs => ?_, fun hs => ?_, fun hs => ?_, fun hen hroom => ?_, ⟨fun hc => ⟨?_, fun l => ?_, ?_⟩,
      fun hc => ⟨?_, ?_⟩⟩, fun hc l => ?_, fun hc hair => ?_⟩
    · cases s.line.latched <;> rfl
    · have hcauses : s.causesWith c = s.line.causes.add c := if_neg (by rcases (moving_iff s).mp hm with h | h <;> rw [h] <;> decide)
      simp [t, line_raise_immediate hc, hm, hcauses]
    · simp [t, raise_immediate hc, hm]
    · simp [t, raise_pending hc, State.lineWithPending, hr, hd]
    · simp [t, raise_pending hc, State.lineWithPending, hr, hd, EventCauses.atStopped]
    · simp [t, raise_pending hc, State.lineWithPending, hr]
    · exact causes_raise (by rw [hs]; decide) (by rw [hs]; decide)
    · cases hc : c.immediate <;> simp [t, raise_pending, line_raise_immediate, hc, State.lineWithPending, State.causesWith, hs]
    · exact causes_raise (by rw [hs]; decide) (by rw [hs]; decide)
    · have hfirst := raise_places_first c s
      rw [place_queued hen hroom] at hfirst
      obtain ⟨rest, hrest⟩ := hfirst
      simp [t, ← hrest]
    · have hlatched : t.line.latched = latchOf c s.line.latched := latched_raise c s
      rw [hlatched]
      simp only [t, raise_immediate hc, notices_aborts]
      cases s.moving <;> simp
    · rw [crumb_raise_immediate hc]
      simp only [Crumb.aborted, inCycle_iff]
    · simp only [t, raise_immediate hc, abortPurge_eq]
    · have hlatched : t.line.latched = latchOf c s.line.latched := latched_raise c s
      rw [hlatched]
      simp only [t, raise_pending hc, State.noticesWithPending]
    · simp only [t, raise_pending hc]
    · rw [← inCycle_eq_false, crumb_raise_immediate hc]
      exact aborted_inCycle _
    · simp only [t, raise_immediate hc]
      refine air_of_aborts ?_
      cases s.moving <;> simpa [State.AirOrdered, crumb_enterHalted] using hair
  · exact ⟨by simp [EventCauses.add], rfl, rfl, rfl, rfl, rfl, rfl, rfl, rfl, rfl⟩
  · intro loafOf owners cutShort lane station head tier
    have howners : ∀ l, (s.slicers.get l).owners = owners l := by
      intro l
      simp only [Slicer.owners, owners, loafOf]
      cases (s.slicers.get l).blade <;> rfl
    have hblade : ∀ b : Blade, b.abandoned = if b = .home then .home else .homing false := by intro b; cases b <;> rfl
    rw [enterHalted_eq]
    simp only [State.haltedFrom, Slicer.abandonedStroke, howners, hblade, halted_eq]
    rfl

end Sys2Proof.Machine
end

section
/-! The tie start (O50). -/

namespace Sys2Proof.Machine

/-- The raise of a pending cause reads the line, the notices and whether the line is drained, and writes the first two. -/
theorem raise_pending_of {c : Cause} (hc : c.immediate = false) {s t : State} (hline : t.line = s.line) (hnotices : t.notices = s.notices)
    (hdrained : t.drained = s.drained) : t.raise c = { t with line := (s.raise c).line, notices := (s.raise c).notices } := by
  simp only [raise_pending hc, State.lineWithPending, State.noticesWithPending, State.causesWith, hline, hnotices, hdrained]

/-- R117 steps 3 and 4. -/
theorem meetProduct_eq (p : ProductIx) (t : Tier) : t.meetProduct p =
    (let warm := if t.lastProduct = some p then t.warmUp else 2
     { t with warmUp := warm, lastProduct := some p, learn := if t.learn = .armed ∧ t.check = true ∧ warm = 0 then .bound p else t.learn }) := by
  have hmeet : (if t.lastProduct = some p then t else { t with warmUp := 2, lastProduct := some p }) =
      { t with warmUp := if t.lastProduct = some p then t.warmUp else 2, lastProduct := some p } := by
    split
    · exact congrArg (fun x => { t with lastProduct := x }) ‹t.lastProduct = some p›
    · rfl
  unfold Tier.meetProduct
  rw [show (Limits.warmUpTies : Nat) = 2 from rfl, hmeet]
  dsimp only
  by_cases hbind : t.learn = .armed ∧ t.check = true ∧ (if t.lastProduct = some p then t.warmUp else 2) = 0
  · rw [if_pos hbind, if_pos hbind]
  · rw [if_neg hbind, if_neg hbind]

/-- R117 step 2: MAGAZINE_LOW and CLIP_EMPTY touch the line and the notices alone. -/
theorem magazineReport_eq (h : Head) (s : State) : s.magazineReport h = { s with
    line := (s.magazineReport h).line, notices := (s.magazineReport h).notices } := by
  unfold State.magazineReport
  dsimp only
  split
  · rfl
  · split
    · rw [raise_pending rfl]
    · rfl

/-- R117: the tier at a tie start. -/
def Tier.atTieStart (r : LoafRecord) (code : ClipCode) (enabled : Bool) (x : Tier) : Tier :=
  let warm := if x.lastProduct = some r.product then x.warmUp else 2
  { x with
    magazine := x.magazine - 1, used := x.used + 1, warmUp := warm, lastProduct := some r.product
    learn := if x.learn = .armed ∧ x.check = true ∧ warm = 0 then .bound r.product else x.learn
    lastCode := some code
    printed := if enabled then x.printed ++ [code] else x.printed
    tie := some ⟨r.number, r.product, 0, 0xFFFF, false⟩ }

/-- R117 step 1: a clip is taken, its use counted in the tier and in Shift Totals. -/
def State.clipTaken (h : Head) (s : State) : State :=
  (s.modTier h fun t => { t with magazine := t.magazine - 1, used := t.used + 1 }).modHeadTotals h fun t =>
    { t with clipsUsed := satAdd Limits.max32 t.clipsUsed 1 }

/-- R117: the tie start but for what the magazine reports. -/
def State.tieStarted (h : Head) (r : LoafRecord) (s : State) : State :=
  { s with
    tiers := s.tiers.set h ((s.tiers.get h).atTieStart r (s.clipCode r.product) s.moving)
    totals := { s.totals with
      heads := s.totals.heads.set h { s.totals.heads.get h with clipsUsed := min 4294967295 ((s.totals.heads.get h).clipsUsed + 1) } } }

theorem tieStart_eq (h : Head) (r : LoafRecord) (s : State) : s.tieStart h r = { s.tieStarted h r with
    line := ((s.clipTaken h).magazineReport h).line, notices := ((s.clipTaken h).magazineReport h).notices } := by
  have hrep := magazineReport_eq h (s.clipTaken h)
  have hstart : s.tieStart h r = (((s.clipTaken h).magazineReport h).modTier h (Tier.meetProduct r.product)).modTier h fun t =>
      { t.print s.moving ((((s.clipTaken h).magazineReport h).modTier h (Tier.meetProduct r.product)).clipCode r.product) with
        tie := some ⟨r.number, r.product, 0, 0xFFFF, false⟩ } := rfl
  rw [hstart, hrep]
  simp only [State.modTier, State.clipTaken, State.modHeadTotals, State.tieStarted, State.clipCode, Tier.atTieStart, Tier.print, PerHead.get_set, PerHead.set_set,
    meetProduct_eq, satAdd_one]
  rfl

theorem clipTaken_drained (h : Head) (s : State) : (s.clipTaken h).drained = s.drained := rfl

/-- Settles O50. -/
theorem tiesStart : Obligations.TiesStart := by
  intro h r e s he x warm code y figures counted t
  have hcode : s.clipCode r.product = code := by simp only [State.clipCode, he]; rfl
  have hstarted : s.tieStarted h r = t := by
    have hprinted : (if s.moving then x.printed ++ [code] else x.printed) =
        if s.line.state = .running ∨ s.line.state = .draining then x.printed ++ [code] else x.printed := by simp only [moving_iff]
    simp only [State.tieStarted, Tier.atTieStart, hcode]
    rw [hprinted]
  have hempty : (s.clipTaken h).clipEmptyAt h = true ↔ s.router.active.get h ≠ .none ∧ x.magazine - 1 = 0 := by
    rw [clipEmptyAt_iff]; simp [State.clipTaken, x]
  have hmag : ((s.clipTaken h).tiers.get h).magazine = x.magazine - 1 := by simp [State.clipTaken, x]
  have hquiet (h50 : x.magazine - 1 ≠ 50) (hno : ¬ (s.router.active.get h ≠ .none ∧ x.magazine - 1 = 0)) : s.tieStart h r = t := by
    have hreport : (s.clipTaken h).magazineReport h = s.clipTaken h := by
      rw [State.magazineReport, hmag]
      exact (if_neg h50).trans (if_neg (mt hempty.mp hno))
    rw [tieStart_eq, hreport, hstarted]; rfl
  refine ⟨fun hmoving => ?_, fun h2 h51 => ?_, fun h51 => ?_, fun h1 hsource => ?_, fun h1 hsource => ?_⟩
  · have hm := (moving_iff s).mpr hmoving
    rw [tieStart_eq]
    simp [State.printOutput, State.tieStarted, Tier.atTieStart, hm, hcode]
  · exact hquiet (by omega) (by omega)
  · have hreport : (s.clipTaken h).magazineReport h = (s.clipTaken h).notify (.magazineLow h 50) := by
      rw [State.magazineReport, hmag, h51]; rfl
    rw [tieStart_eq, hreport, hstarted]; rfl
  · exact hquiet (by omega) (by simp [hsource])
  · have hreport : (s.clipTaken h).magazineReport h = (s.clipTaken h).raise (.clipEmpty h) := by
      rw [State.magazineReport, hmag, h1]
      exact (if_neg (by decide)).trans (if_pos (hempty.mpr ⟨hsource, by omega⟩))
    rw [tieStart_eq, hreport, hstarted]
    exact (raise_pending_of (c := .clipEmpty h) (s := s.clipTaken h) (t := t) rfl rfl rfl rfl).symm

end Sys2Proof.Machine
end

section
/-! Tie-done and encoder ticks (O51). -/

namespace Sys2Proof.Machine

/-! ### The result (R121) -/

theorem learns_iff (x : Tier) (tie : Tie) : x.learns tie = true ↔
    tie.interrupted = false ∧ x.check = true ∧ x.warmUp = 0 ∧ x.learn = .bound tie.product := by
  simp [Tier.learns, and_assoc]

theorem consumesWarmUp_iff (x : Tier) (tie : Tie) : x.consumesWarmUp tie = true ↔ tie.interrupted = false ∧ x.check = true ∧ 0 < x.warmUp := by
  simp [Tier.consumesWarmUp, and_assoc]

/-- R121: the tests in order. -/
theorem tieResultOf_eq (x : Tier) (tie : Tie) (expected : Option Half) : tieResultOf x tie expected =
    if tie.interrupted = true ∨ x.check = false ∨ 0 < x.warmUp then .unchecked
    else if x.learn = .bound tie.product then .good
    else if expected = none then .unchecked
    else if expected = some tie.signature then .good else .mismatch := by
  unfold tieResultOf
  by_cases hi : tie.interrupted = true
  · simp [hi]
  by_cases hc : x.check = true
  · by_cases hw : 0 < x.warmUp
    · simp [hi, hc, hw]
    · cases expected with
      | none => simp [hi, hc, hw]
      | some e => simp [hi, hc, hw, eq_comm]
  · simp [hi, hc]

theorem result_of_learns {x : Tier} {tie : Tie} (h : x.learns tie = true) (expected : Option Half) : tieResultOf x tie expected = .good := by
  obtain ⟨hi, hc, hw, hb⟩ := (learns_iff x tie).mp h
  rw [tieResultOf_eq, if_neg (by simp [hi, hc, hw]), if_pos hb]

theorem result_ne_noClip (x : Tier) (tie : Tie) (expected : Option Half) : tieResultOf x tie expected ≠ .noClip := by
  rw [tieResultOf_eq]
  repeat' split
  all_goals decide

theorem expected_of_mismatch {x : Tier} {tie : Tie} {expected : Option Half} (h : tieResultOf x tie expected = .mismatch) : ∃ e, expected = some e := by
  cases expected with
  | some e => exact ⟨e, rfl⟩
  | none =>
    rw [tieResultOf_eq] at h
    repeat' split at h
    all_goals simp_all

/-! ### The state after a tie -/

/-- R121, R122, R124: the tier after a tie. -/
def Tier.tieEnded (tie : Tie) (result : TieResult) (x : Tier) : Tier :=
  { x with
    tie := none, lastSignature := some tie.signature
    warmUp := if x.consumesWarmUp tie then x.warmUp - 1 else x.warmUp
    streak := if result = .good then 0 else if result = .mismatch then (if x.streak < 2 then x.streak + 1 else 0) else x.streak
    learn := if x.learns tie = true ∨ x.learn = .none then .none else .armed }

/-- R121 step 2: the figures of the head after a tie. -/
def HeadTotals.withTie (result : TieResult) (f : HeadTotals) : HeadTotals :=
  { f with
    good := if result = .good then min 4294967295 (f.good + 1) else f.good
    unchecked := if result = .unchecked then min 4294967295 (f.unchecked + 1) else f.unchecked
    mismatch := if result = .mismatch then min 4294967295 (f.mismatch + 1) else f.mismatch }

/-- R121 step 1, R122: the record after a tie. -/
def LoafRecord.withTie (result : TieResult) (r : LoafRecord) : LoafRecord :=
  { r with
    tie := some result, flags := { r.flags with uncheckedTie := r.flags.uncheckedTie || decide (result = .unchecked) }
    disposition := if result = .mismatch then some (r.disposition.getD .untied) else r.disposition }

/-- R121, R122, R124: everything a tie-done does but the fault of a third mismatch and the head's way on. -/
def State.tieTold (h : Head) (tie : Tie) (result : TieResult) (s : State) : State :=
  let x := s.tiers.get h
  { s with
    tiers := s.tiers.set h (x.tieEnded tie result)
    products := if x.learns tie = true then
        s.products.set tie.product (s.products[tie.product].map fun (e : ProductEntry) => { e with signature := some tie.signature })
      else s.products
    totals := { s.totals with heads := s.totals.heads.set h ((s.totals.heads.get h).withTie result) }
    notices := if x.learns tie = true then s.notices.place (.signatureLearned h tie.loaf tie.product tie.signature)
      else if result = TieResult.mismatch then
        s.notices.place (.tieMismatch h tie.loaf tie.product tie.signature ((s.expectedSignature tie.product).getD 0))
      else s.notices }.updateRecord tie.loaf (LoafRecord.withTie result)

theorem unbind_eq (x : Learn) : x.unbind = if x = .none then .none else .armed := by cases x <;> rfl

theorem countTie_eq {result : TieResult} (h : result ≠ .noClip) (f : HeadTotals) : f.countTie result = f.withTie result := by
  cases result <;> simp_all [HeadTotals.countTie, HeadTotals.withTie, satAdd_one, Limits.max32]

theorem mismatchTie_eq (h : Head) (tie : Tie) (e : Half) (s : State) : s.mismatchTie h tie e =
    (let u := ((s.updateRecord tie.loaf (LoafRecord.reject .untied)).notify (.tieMismatch h tie.loaf tie.product tie.signature e)).modTier h fun t =>
      { t with streak := if t.streak < 2 then t.streak + 1 else 0 }
     if 2 ≤ (s.tiers.get h).streak then u.raise (.tieFault h) else u) := by
  unfold State.mismatchTie
  by_cases hs : 2 ≤ (s.tiers.get h).streak
  · simp only [if_pos hs]
    refine (if_pos (show 3 ≤ (s.tiers.get h).streak + 1 by omega)).trans ?_
    simp [State.modTier, Nat.not_lt.mpr hs]
  · simp only [if_neg hs]
    refine (if_neg (show ¬ 3 ≤ (s.tiers.get h).streak + 1 by omega)).trans ?_
    simp [State.modTier, Nat.not_le.mp hs]

/-- The raise of a pending cause and the figures of a head and a tier do not meet. -/
theorem raise_before_figures {c : Cause} (hc : c.immediate = false) (h : Head) (f : HeadTotals → HeadTotals) (g : Tier → Tier) (u : State) :
    ((u.raise c).modHeadTotals h f).modTier h g = ((u.modHeadTotals h f).modTier h g).raise c := by
  rw [raise_pending_of (t := (u.modHeadTotals h f).modTier h g) hc (s := u) rfl rfl rfl, raise_pending_of (t := u) hc (s := u) rfl rfl rfl]
  rfl

theorem tiedWith_eq {h : Head} {tie : Tie} {result : TieResult} {s : State} (hlearn : (s.tiers.get h).learns tie = true → result = .good)
    (hmismatch : result = .mismatch → ∃ e, s.expectedSignature tie.product = some e) (hclip : result ≠ .noClip) :
    s.tiedWith h tie result = if result = .mismatch ∧ 2 ≤ (s.tiers.get h).streak then (s.tieTold h tie result).raise (.tieFault h)
      else s.tieTold h tie result := by
  have hrecord (hne : result ≠ .mismatch) : LoafRecord.tied result = LoafRecord.withTie result := by
    funext r; simp [LoafRecord.tied, LoafRecord.withTie, hne]
  by_cases hm : result = .mismatch
  · obtain ⟨e, he⟩ := hmismatch hm
    subst hm
    have hl : (s.tiers.get h).learns tie = false := Bool.not_eq_true _ |>.mp fun hl => by cases hlearn hl
    have hrecord : (fun r => LoafRecord.reject .untied (LoafRecord.tied .mismatch r)) = LoafRecord.withTie .mismatch := rfl
    let u := ((((s.modTier h fun x => { x with
        lastSignature := some tie.signature
        warmUp := if (s.tiers.get h).consumesWarmUp tie then x.warmUp - 1 else x.warmUp }).updateRecord tie.loaf (LoafRecord.withTie .mismatch)).notify
      (.tieMismatch h tie.loaf tie.product tie.signature e)).modTier h fun t => { t with streak := if t.streak < 2 then t.streak + 1 else 0 })
    have htied : s.tiedWith h tie .mismatch =
        (((if 2 ≤ (s.tiers.get h).streak then u.raise (.tieFault h) else u).modHeadTotals h fun x => x.countTie .mismatch).modTier h
          fun x => { x with learn := x.learn.unbind, tie := none }) := by
      simp only [State.tiedWith, State.mismatchOf, he, hl, mismatchTie_eq, Bool.false_eq_true, if_false]
      rw [updateRecord_updateRecord (by exact fun _ => rfl), hrecord]
      simp [u, State.modTier, State.updateRecord]
    have htold : (u.modHeadTotals h fun x => x.countTie .mismatch).modTier h (fun x => { x with learn := x.learn.unbind, tie := none }) =
        s.tieTold h tie .mismatch := by
      simp [u, countTie_eq hclip, unbind_eq, State.tieTold, Tier.tieEnded, hl, he, State.modTier, State.modHeadTotals, State.updateRecord, State.notify]
    rw [htied]
    by_cases hs : 2 ≤ (s.tiers.get h).streak
    · rw [if_pos hs, if_pos ⟨rfl, hs⟩, ← htold, raise_before_figures rfl]
    · rw [if_neg hs, if_neg fun k => hs k.2, htold]
  · have hother : ∀ u : State, State.mismatchOf h tie result (s.expectedSignature tie.product) u = u := by intro u; cases result <;> simp_all [State.mismatchOf]
    rw [if_neg fun k => hm k.1]
    cases hl : (s.tiers.get h).learns tie
    · simp [State.tiedWith, hother, hl, hrecord hm, countTie_eq hclip, unbind_eq, State.tieTold, Tier.tieEnded, hm, State.modTier, State.modHeadTotals, State.updateRecord]
    · simp [State.tiedWith, hother, hl, hrecord hm, countTie_eq hclip, State.learnTie, State.setExpected, State.notify, unbind_eq, State.tieTold, Tier.tieEnded, hm, State.modTier, State.modHeadTotals, State.updateRecord]

/-- R104, R121: tie-done with the head's way to DISCHARGING, the fault of a third mismatch taken last. -/
theorem takeTieDone_told {h : Head} {tie : Tie} {result : TieResult} {s : State}
    (hresult : tieResultOf (s.tiers.get h) tie (s.expectedSignature tie.product) = result) : s.takeTieDone h tie =
      (let told := s.tieTold h tie result
       let moved := if (s.heads.get h).step = .tying then told.toDischarging h else told
       if result = .mismatch ∧ 2 ≤ (s.tiers.get h).streak then moved.raise (.tieFault h) else moved) := by
  have htied := tiedWith_eq (h := h) (tie := tie) (s := s) (result := result) (fun hl => hresult ▸ result_of_learns hl _)
    (fun hm => expected_of_mismatch (hresult.trans hm)) (hresult ▸ result_ne_noClip _ _ _)
  have hstep : ((s.tieTold h tie result).heads.get h).step = (s.heads.get h).step := by cases h <;> rfl
  rw [takeTieDone_eq, hresult, htied]
  dsimp only
  by_cases hf : result = .mismatch ∧ 2 ≤ (s.tiers.get h).streak
  · rw [if_pos hf, if_pos hf, raise_pending_of (t := s.tieTold h tie result) (c := .tieFault h) (s := s.tieTold h tie result) rfl rfl rfl rfl]
    rw [show (_ : HeadState).step = (s.heads.get h).step from hstep]
    by_cases ht : (s.heads.get h).step = .tying
    · have hdrained : ((s.tieTold h tie result).toDischarging h).drained = (s.tieTold h tie result).drained := by cases h <;> rfl
      rw [if_pos ht, if_pos ht]
      exact (raise_pending_of (c := .tieFault h) (s := s.tieTold h tie result) (t := (s.tieTold h tie result).toDischarging h) rfl rfl rfl hdrained).symm
    · rw [if_neg ht, if_neg ht]
      exact (raise_pending_of (c := .tieFault h) (s := s.tieTold h tie result) (t := s.tieTold h tie result) rfl rfl rfl rfl).symm
  · rw [if_neg hf, if_neg hf, hstep]

/-! ### The events (R120, R121) -/

theorem tieDone_falls (h : Head) (s : State) : exec (.tieDone h .falls) s = .next (s.setTierInputs h fun i => { i with cycleComplete := false }) := by
  change execTieDone h .falls s = _
  unfold execTieDone
  cases (s.tiers.get h).tie <;> rfl

theorem tieDone_seen {h : Head} {s : State} (hseen : (s.tiers.get h).tie = none ∨ s.line.state = .halted ∨ (s.inputs.tiers.get h).cycleComplete = true) :
    exec (.tieDone h .rises) s = .next (s.setTierInputs h fun i => { i with cycleComplete := true }) := by
  change execTieDone h .rises s = _
  unfold execTieDone
  cases ht : (s.tiers.get h).tie with
  | none => rfl
  | some tie =>
    refine if_neg ?_
    rcases hseen.resolve_left (by simp [ht]) with hh | hh <;> simp [becomesAsserted, edgeLevel, hh]

theorem tieDone_taken {h : Head} {tie : Tie} {s : State} (ht : (s.tiers.get h).tie = some tie) (hline : s.line.state ≠ .halted)
    (hclear : (s.inputs.tiers.get h).cycleComplete = false) : exec (.tieDone h .rises) s =
      .next (State.finish s none ((s.setTierInputs h fun i => { i with cycleComplete := true }).takeTieDone h tie)) := by
  change execTieDone h .rises s = _
  unfold execTieDone
  rw [ht]
  exact if_pos (by simp [becomesAsserted, edgeLevel, hclear, hline])

theorem map_onNumber_option {n : Nat} {f : LoafRecord → LoafRecord} {o : Option LoafRecord} (h : ∀ r, o = some r → r.number ≠ n) :
    o.map (onNumber n f) = o := by
  cases o with
  | none => rfl
  | some r => exact congrArg some (if_neg (h r rfl))

theorem map_onNumber_list {n : Nat} {f : LoafRecord → LoafRecord} {q : List LoafRecord} (h : ∀ r ∈ q, r.number ≠ n) : q.map (onNumber n f) = q :=
  (List.map_congr_left fun r hr => if_neg (h r hr)).trans (List.map_id q)

theorem setTierInputs_same {h : Head} {s : State} (hseen : (s.inputs.tiers.get h).cycleComplete = true) :
    s.setTierInputs h (fun i => { i with cycleComplete := true }) = s := by
  have hsame : ({ s.inputs.tiers.get h with cycleComplete := true } : TierInputs) = s.inputs.tiers.get h :=
    congrArg (fun b => { s.inputs.tiers.get h with cycleComplete := b }) hseen.symm
  simp only [State.setTierInputs, hsame, PerHead.set_get]

/-- R120: no tick is sampled without a tie in flight, or in HALTED. -/
theorem tierTick_idle {h : Head} {lines : BitVec 4} {s : State} (hidle : (s.tiers.get h).tie = none ∨ s.line.state = .halted) :
    (s.setTierInputs h fun i => { i with lines := lines }).tierTick h lines = s.setTierInputs h fun i => { i with lines := lines } := by
  by_cases hhalted : s.line.state = .halted
  · exact if_pos hhalted
  · have htie := hidle.resolve_right hhalted
    have hsame : ({ s.tiers.get h with tie := (s.tiers.get h).tie.map (Tie.sample lines) } : Tier) = s.tiers.get h := by
      rw [htie]; exact congrArg (fun b => { s.tiers.get h with tie := b }) htie.symm
    refine (if_neg hhalted).trans ?_
    simp only [State.modTier, State.setTierInputs, hsame, PerHead.set_get]

/-- Settles O51. -/
theorem tiesComplete : Obligations.TiesComplete := by
  refine ⟨?_, ?_⟩
  · intro h lines s with' i
    refine ⟨tieDone_falls h s, fun hnone => ⟨tieDone_seen (hnone.imp_right .inl), ?_⟩, fun hseen => ?_, rfl⟩
    · exact congrArg Host.Outcome.next (tierTick_idle hnone)
    · rw [tieDone_seen (.inr (.inr hseen)), setTierInputs_same hseen]
  · intro h tie s ht hline x expected learned result figures counted ended told moved t
    have hlearned : x.learns tie = true ↔ learned := learns_iff x tie
    have hresult : tieResultOf x tie expected = result := tieResultOf_eq x tie expected
    have hended : x.tieEnded tie result = ended := by
      simp only [Tier.tieEnded, hlearned, consumesWarmUp_iff]; rfl
    let seen := s.setTierInputs h fun i => { i with cycleComplete := true }
    have htold : seen.tieTold h tie result = told := by
      have hseen : seen.tieTold h tie result = { s with
          inputs := seen.inputs
          tiers := s.tiers.set h (x.tieEnded tie result)
          products := if x.learns tie = true then
              s.products.set tie.product (s.products[tie.product].map fun (e : ProductEntry) => { e with signature := some tie.signature })
            else s.products
          totals := { s.totals with heads := s.totals.heads.set h counted }
          notices := if x.learns tie = true then s.notices.place (.signatureLearned h tie.loaf tie.product tie.signature)
            else if result = TieResult.mismatch then
              s.notices.place (.tieMismatch h tie.loaf tie.product tie.signature (expected.getD 0))
            else s.notices }.updateRecord tie.loaf (LoafRecord.withTie result) := rfl
      rw [hseen, hended]
      simp only [hlearned]
      rfl
    have hmoved : (if (s.heads.get h).step = .tying then told.toDischarging h else told) = moved := by
      have htimeouts : (told.heads.get h).timeouts = (s.heads.get h).timeouts := by cases h <;> rfl
      have henter : told.toDischarging h = { told with heads := told.heads.set h { told.heads.get h with
          step := .discharging, timer := some (s.heads.get h).timeouts.discharging } } := by
        rw [← htimeouts]; rfl
      rw [henter]
    let v := if result = .mismatch ∧ 2 ≤ x.streak then moved.raise (.tieFault h) else moved
    have htaken : seen.takeTieDone h tie = v := by
      rw [takeTieDone_told (s := seen) (result := result) hresult, htold]
      simp only [v, ← hmoved]
      rfl
    have hv : v = { moved with line := v.line, notices := v.notices } := by
      simp only [v]
      split
      · exact raise_pending_of (c := .tieFault h) (s := moved) rfl rfl rfl rfl
      · rfl
    have hexec (hclear : (s.inputs.tiers.get h).cycleComplete = false) : exec (.tieDone h .rises) s = .next t := by
      rw [tieDone_taken ht hline hclear]
      exact congrArg (fun u => Host.Outcome.next (State.finish s none u)) htaken
    have hfinish : t = State.finish s none { moved with line := v.line, notices := v.notices } := congrArg (State.finish s none) hv
    have hkept : moved = { told with heads := moved.heads } := by simp only [moved]; split <;> rfl
    have htiers : t.tiers = s.tiers.set h ended := by rw [hfinish, hkept]; simp [told]
    have hproducts : t.products = told.products := by rw [hfinish, hkept]; simp
    have htotals : t.totals.heads = s.totals.heads.set h counted := by rw [hfinish, hkept]; simp [told]
    have hheads : t.heads = moved.heads := by rw [hfinish]; simp
    have hlanes : ∀ l, t.lanes.get l = { told.lanes.get l with holdInEffect := (t.lanes.get l).holdInEffect } := by
      intro l
      rw [hfinish, finish_lane, hkept]
    refine ⟨fun hclear => ⟨hexec hclear, ?_, ?_, ?_, ?_, ?_, fun hl => ⟨?_, ?_⟩, fun hl => ⟨?_, ?_⟩, fun r hr hn => ?_, ?_, ?_, ?_, ?_, ?_, ?_,
      ?_, ?_, fun h' hne => ⟨?_, ?_, fun hloaf => ?_⟩, fun l hloaf => ?_, fun hs hm hstopped hd => ?_, fun htying => ⟨?_, ?_⟩⟩, fun lines => ?_⟩
    · rw [htiers, PerHead.get_set]
    · rw [htiers, PerHead.get_set]
    · rw [htiers, PerHead.get_set]
    · rw [htiers, PerHead.get_set]
    · rw [htiers, PerHead.get_set]
    · rw [htiers, PerHead.get_set]; exact if_pos (.inl hl)
    · rw [hproducts]; simp [told, hl]
    · rw [hproducts]; simp [told, hl]
    · rw [htiers, PerHead.get_set]
      change (if learned ∨ x.learn = .none then Learn.none else .armed) = _
      simp only [hl, false_or]
    · have hrecord : (t.heads.get h).record = (told.heads.get h).record := by
        rw [hheads]; simp only [moved]; split
        · rw [PerHead.get_set]
        · rfl
      have htoldrec : (told.heads.get h).record = (s.heads.get h).record.map (onNumber tie.loaf (LoafRecord.withTie result)) :=
        congrArg HeadState.record (updateRecord_head tie.loaf (LoafRecord.withTie result) h _)
      exact ⟨r.withTie result, by rw [hrecord, htoldrec, hr, Option.map_some, onNumber, if_pos hn], rfl, rfl, rfl⟩
    · rw [htotals, PerHead.get_set]
    · rw [hfinish, hkept]; simp [told]
    · rw [hfinish, hkept]; simp [told]
    · rw [hfinish, hkept]; simp [told]
    · rw [hfinish, hkept]; simp [told]
    · rw [hfinish, hkept]; simp [told]
    · rw [hfinish, hkept]; simp [told]
    · rw [hfinish, hkept]; simp [told]
    · rw [htiers, PerHead.get_set_ne _ _ hne]
    · rw [htotals, PerHead.get_set_ne _ _ hne]
    · have hother : t.heads.get h' = told.heads.get h' := by
        rw [hheads]; simp only [moved]; split
        · rw [PerHead.get_set_ne _ _ hne]
        · rfl
      refine hother.trans ((updateRecord_head tie.loaf (LoafRecord.withTie result) h' _).trans ?_)
      exact congrArg (fun y => { s.heads.get h' with record := y }) (map_onNumber_option hloaf)
    · refine (hlanes l).trans ?_
      rw [show told.lanes.get l = _ from updateRecord_lane tie.loaf (LoafRecord.withTie result) l _]
      exact congrArg (fun y => { s.lanes.get l with queue := y, holdInEffect := (t.lanes.get l).holdInEffect }) (map_onNumber_list hloaf)
    · have hdrained : moved.drained = false := by rw [← hd]; simp only [moved]; split <;> cases h <;> simp [told, State.drained, State.updateRecord, State.laneEmpty, PerHead.get, PerHead.set, PerLane.get]
      have hv' : v = moved.raise (.tieFault h) := if_pos ⟨hm, hs⟩
      have hcauses : v.line.causes = s.line.causes.add (.tieFault h) := by
        have hline' : moved.line = s.line := by rw [hkept]; rfl
        rw [hv', raise_pending rfl]
        simp only [State.lineWithPending, hdrained, State.causesWith, hline', if_neg hstopped]
        split <;> rfl
      have hopen : ¬ ({ moved with line := v.line, notices := v.notices } : State).Complete := by
        rw [← drained_iff]
        exact Bool.not_eq_true _ |>.mpr hdrained
      rw [hfinish, (finish_drain _ _ _).1, drainTest_of_not fun k => hopen k.2]
      change (v.line.causes.tieFault.get h) = true
      rw [hcauses]
      exact PerHead.get_set _ h true
    · rw [hheads]; simp only [moved]; rw [if_pos htying, PerHead.get_set]
    · rw [hheads]; simp only [moved]; rw [if_pos htying, PerHead.get_set]
    · refine congrArg Host.Outcome.next ((if_neg hline).trans ?_)
      simp only [State.modTier, State.setTierInputs, ht, Option.map_some, Tie.sample, satAdd_one]
      rfl

end Sys2Proof.Machine
end

section
/-! The requests of the Lane Router and the Bag Heads (O44). -/

namespace Sys2Proof.Machine

/-! ### CONNECT (R96) -/

/-- R96, R97: what a source given to a head makes of the router, CLIP_EMPTY raised where it meets an empty magazine. -/
theorem giveSource_eq (h : Head) (src : Source) (s : State) : s.giveSource h src =
    (let u := { s with router := { s.router with active := s.router.active.set h src, pending := s.router.pending.set h none } }
     if src ≠ .none ∧ (s.tiers.get h).magazine = 0 then u.raise (.clipEmpty h) else u) := by
  unfold State.giveSource
  simp only [clipEmptyAt_iff, PerHead.get_set]

/-- A source given to a head touches the router, the line and the notices alone. -/
theorem giveSource_parts (h : Head) (src : Source) (s : State) : s.giveSource h src = { s with
    router := { s.router with active := s.router.active.set h src, pending := s.router.pending.set h none }
    line := (s.giveSource h src).line, notices := (s.giveSource h src).notices } := by
  rw [giveSource_eq]
  dsimp only
  split
  · rw [raise_pending rfl]
  · rfl

theorem connectHead_idle {h : Head} {src : Source} {s : State} (hidle : (s.heads.get h).step = .idle) : s.connectHead h src = s.giveSource h src :=
  if_pos hidle

theorem connectHead_busy {h : Head} {src : Source} {s : State} (hbusy : (s.heads.get h).step ≠ .idle) : s.connectHead h src =
    { s with router := { s.router with pending := s.router.pending.set h (some src) } } := if_neg hbusy

theorem connectHead_heads (h : Head) (src : Source) (s : State) : (s.connectHead h src).heads = s.heads ∧ (s.connectHead h src).tiers = s.tiers := by
  unfold State.connectHead
  split
  · rw [giveSource_parts]; exact ⟨rfl, rfl⟩
  · exact ⟨rfl, rfl⟩

theorem parsePair_code (h : Head) (src : Source) : parsePair ⟨Head.code h, Source.code src⟩ = some (h, some src) := by
  simp [parsePair, headOf_code, sourceOf_code]

/-- R96 with one head named. -/
theorem doConnect_one (h : Head) (src : Source) (s : State) : doConnect ⟨Head.code h, Source.code src⟩ none s =
    (let t := s.connectHead h src
     let u := State.finish s none (if (s.heads.get h).step = .idle then t.attemptReleases else t)
     served u (connectReply s u)) := by
  simp [doConnect, connectPairs, parsePair_code, distinctHeads, State.connectAll, State.connectPair]

/-- R96 with two heads named. -/
theorem doConnect_two {h h' : Head} (hne : h' ≠ h) (src src' : Source) (s : State) :
    doConnect ⟨Head.code h, Source.code src⟩ (some ⟨Head.code h', Source.code src'⟩) s =
    (let t := (s.connectHead h src).connectHead h' src'
     let u := State.finish s none (if (s.heads.get h).step = .idle ∨ (s.heads.get h').step = .idle then t.attemptReleases else t)
     served u (connectReply s u)) := by
  simp [doConnect, connectPairs, parsePair_code, distinctHeads, State.connectAll, State.connectPair, hne.symm]

theorem parsePair_of_unnamed {p : SourcePair} (h : ¬ (p.head = 1 ∨ p.head = 2)) : parsePair p = none := by
  rw [parsePair, headOf_eq_none (fun k => h (.inl k)) fun k => h (.inr k)]; rfl

theorem parsePair_of_named {p : SourcePair} (h : p.head = 1 ∨ p.head = 2) : ∃ k, p.head = Head.code k ∧ parsePair p = some (k, sourceOf p.source) := by
  rcases h with h | h
  · exact ⟨.one, h, by rw [parsePair, h]; rfl⟩
  · exact ⟨.two, h, by rw [parsePair, h]; rfl⟩

theorem sourceOf_large {b : Byte} (h : ¬ b.toNat ≤ 3) : sourceOf b = none := by
  have hne : ∀ c : Byte, c.toNat ≤ 3 → b ≠ c := by rintro c hc rfl; omega
  unfold sourceOf
  rw [if_neg (hne 0 (by decide)), if_neg (hne 1 (by decide)), if_neg (hne 2 (by decide)), if_neg (hne 3 (by decide))]

/-! ### HEAD SETTINGS (R112) -/

theorem timeouts_apply (t : Timeouts) (p : Setting) : t.apply p =
    ⟨if p.item = 1 then p.value.toNat else t.opening, if p.item = 2 then p.value.toNat else t.loading,
      if p.item = 3 then p.value.toNat else t.gathering, if p.item = 4 then p.value.toNat else t.tying,
      if p.item = 5 then p.value.toNat else t.discharging⟩ := by
  unfold Timeouts.apply
  split <;> simp_all [← BitVec.toNat_inj]

theorem timeouts_foldl : ∀ (pairs : List Setting) (t : Timeouts), pairs.foldl Timeouts.apply t =
    ⟨lastFor 1 t.opening pairs, lastFor 2 t.loading pairs, lastFor 3 t.gathering pairs, lastFor 4 t.tying pairs, lastFor 5 t.discharging pairs⟩
  | [], t => rfl
  | p :: rest, t => by rw [List.foldl_cons, timeouts_foldl rest, timeouts_apply]; rfl

/-- The line id as a number, whatever stands above its low byte. -/
theorem lineId_foldl : ∀ (pairs : List Setting) (n : Nat), pairs.foldl applyLineId (BitVec.ofNat 8 n) = BitVec.ofNat 8 (lastFor 6 n pairs)
  | [], _ => rfl
  | p :: rest, n => by
    have hone : applyLineId (BitVec.ofNat 8 n) p = BitVec.ofNat 8 (if p.item = 6 then p.value.toNat else n) := by unfold applyLineId; split <;> rfl
    rw [List.foldl_cons, hone, lineId_foldl rest]; rfl

theorem headPairOk_iff {p : Setting} : headPairOk p = true ↔
    (1 ≤ p.item.toNat ∧ p.item.toNat ≤ 5 ∧ 100 ≤ p.value.toNat ∧ p.value.toNat ≤ 2000) ∨
    (p.item = 6 ∧ 0x41 ≤ p.value.toNat ∧ p.value.toNat ≤ 0x5A) := by
  unfold headPairOk
  split <;> simp_all [← BitVec.toNat_inj, inRange]
  omega

/-! ### The reports (R113) -/

theorem headReport_length (h : Head) (s : State) : (s.headReport h).length = 18 := by
  have htimer : ∀ t, (timerCode t).length = 2 := by intro t; cases t <;> simp [timerCode]
  simp [State.headReport, Timeouts.bytes, htimer]

theorem headInputs_byte (i : HeadInputs) : i.byte = placesByte [i.bagOpen, i.loafIn, i.gatherDone, i.dischargeClear] := by
  obtain ⟨a, b, c, d⟩ := i
  revert a b c d; decide

theorem padded_of_le {places size : Nat} {blocks : List (List Byte)} (h : blocks.length ≤ places) :
    padded places size blocks = blocks.flatten ++ List.replicate (size * (places - blocks.length)) 0 := by
  rw [padded, List.take_of_length_le h]

/-- Settles O44. -/
theorem routerAndHeadRequests : Obligations.RouterAndHeadRequests := by
  refine ⟨?_, fun tag p o s hfree => ?_, ?_, fun tag b pairs h s => ?_⟩
  · rintro tag c c' h h' src src' s hfree rfl rfl hne i both idle held given answers
    have hgiven {x : Head} {y : Source} {t : State} (hidle : idle x = true) (hparts : t.heads = s.heads ∧ t.tiers = s.tiers) :
        t.connectHead x y = given x y t := by
      rw [connectHead_idle (by rw [hparts.1]; exact of_decide_eq_true hidle), giveSource_eq]
      simp only [given, ← hparts.2]
    have hheld {x : Head} {y : Source} {t : State} (hbusy : idle x = false) (hparts : t.heads = s.heads ∧ t.tiers = s.tiers) :
        t.connectHead x y = held x y t :=
      connectHead_busy (by rw [hparts.1]; exact of_decide_eq_false hbusy)
    have hone (released : State) (h1 : (if idle h = true then (s.connectHead h src).attemptReleases else s.connectHead h src) = released) :
        answers i released := by
      refine accepts_of_served (doConnect _ none) rfl hfree ((doConnect_one h src s).trans ?_)
      rw [← h1]; simp only [idle, decide_eq_true_eq]
    have hboth (released : State) (h2 : (if idle h = true ∨ idle h' = true then ((s.connectHead h src).connectHead h' src').attemptReleases
        else (s.connectHead h src).connectHead h' src') = released) : answers both released := by
      refine accepts_of_served (doConnect _ (some _)) rfl hfree ((doConnect_two hne src src' s).trans ?_)
      rw [← h2]; simp only [idle, decide_eq_true_eq]
    have hfirst := connectHead_heads h src s
    refine ⟨fun hb => hone _ ?_, fun hi => hone _ ?_, fun hb hb' => hboth _ ?_, fun hi hb' => hboth _ ?_, fun hb hi' => hboth _ ?_,
      fun hi hi' => hboth _ ?_⟩
    · rw [if_neg (by simp [hb]), hheld hb ⟨rfl, rfl⟩]
    · rw [if_pos hi, hgiven hi ⟨rfl, rfl⟩]
    · rw [if_neg (by simp [hb, hb']), hheld hb' hfirst, hheld hb ⟨rfl, rfl⟩]
    · rw [if_pos (.inl hi), hheld hb' hfirst, hgiven hi ⟨rfl, rfl⟩]
    · rw [if_pos (.inr hi'), hgiven hi' hfirst, hheld hb ⟨rfl, rfl⟩]
    · rw [if_pos (.inl hi), hgiven hi' hfirst, hgiven hi ⟨rfl, rfl⟩]
  · intro i named inCodes
    refine ⟨fun hbad => ?_, fun hp ho hbad => ?_, fun t => rfl⟩
    · refine rejects_of_refuse (doConnect p o) rfl hfree ?_
      have hnone : connectPairs p o = none := by
        rcases hbad with hbad | ⟨q, rfl, hbad⟩
        · simp [connectPairs, parsePair_of_unnamed hbad]
        · cases hq : parsePair p <;> simp [connectPairs, hq, parsePair_of_unnamed hbad]
      rw [doConnect, hnone]
    · refine rejects_of_refuse (doConnect p o) rfl hfree ?_
      obtain ⟨k, hk, hpk⟩ := parsePair_of_named hp
      cases o with
      | none =>
        have hsource : sourceOf p.source = none := sourceOf_large (hbad.resolve_right (by simp))
        simp [doConnect, connectPairs, hpk, hsource]
      | some q =>
        obtain ⟨k', hk', hqk⟩ := parsePair_of_named (ho q rfl)
        have hfail : ((sourceOf p.source).isSome && (sourceOf q.source).isSome && decide (k ≠ k')) = false := by
          rcases hbad with hbad | ⟨_, hq, hbad | hsame⟩
          · rw [sourceOf_large hbad]; rfl
          · cases hq; rw [sourceOf_large hbad]; simp
          · cases hq
            have hkk : k = k' := by
              have := hk'.symm.trans (hsame.trans hk)
              have hback := (headOf_code k').symm.trans ((congrArg headOf this).trans (headOf_code k))
              exact (Option.some.inj hback).symm
            simp [hkk]
        simp only [doConnect, connectPairs, hpk, hqk, Option.map_some, List.all_cons, List.all_nil, Bool.and_true, distinctHeads]
        exact if_neg (by rw [hfail]; decide)
  · rintro tag b h pairs s hfree rfl x allowed passes
    have hpasses : (inRange 1 12 pairs.length && pairs.all headPairOk) = true ↔ passes := by
      simp [inRange, headPairOk_iff, passes, allowed, and_assoc]
    refine ⟨fun hp => ?_, fun hp => ?_, ?_, headReport_length h s⟩
    · intro times id
      refine accepts_of_served (doHeadSettings (Head.code h) pairs) rfl hfree ?_
      rw [doHeadSettings, onHead_code]
      refine (if_pos (hpasses.mpr hp)).trans ?_
      have hid : pairs.foldl applyLineId s.lineId = id :=
        (congrArg (fun b => pairs.foldl applyLineId b) (by simp)).trans (lineId_foldl pairs s.lineId.toNat)
      simp only [hid, timeouts_foldl, State.modHead, PerHead.get_set, Timeouts.bytes]
      rfl
    · refine rejects_of_refuse (doHeadSettings (Head.code h) pairs) rfl hfree ?_
      rw [doHeadSettings, onHead_code]
      exact if_neg (mt hpasses.mp hp)
    · exact accepts_of_served (doReadHead (Head.code h)) rfl hfree (onHead_code h s _)
  · intro r x inputs b2 yes bits timer sources waits
    refine ⟨fun hidle hwait => ?_, ?_, fun hfree => ⟨accepts_of_served doReadRouter rfl hfree rfl, fun h1 h2 => ⟨?_, ?_⟩⟩⟩
    · have hlen : 12 - 3 * r.waitingOrder.length = 3 * (4 - r.waitingOrder.length) := by omega
      have hone : (r.idleOrder.map fun k => [Head.code k]).flatten = r.idleOrder.map Head.code := by
        induction r.idleOrder with
        | nil => rfl
        | cons k ks ih => simp [ih]
      rw [Router.report, padded_of_le (by simpa using hidle), padded_of_le (by simpa using hwait), hlen, hone]
      simp [Router.sourceBytes, sources, waits, b2]
    · cases hrec : x.record <;> cases htimer : x.timer <;>
        simp [State.headReport, headInputs_byte, placesByte, timerCode, timer, Timeouts.bytes, x, b2, yes, boolCode, bits, inputs, hrec, htimer]
    · exact rejects_of_refuse (doHeadSettings b pairs) rfl hfree (onHead_of_none h1 h2 s _)
    · exact rejects_of_refuse (doReadHead b) rfl hfree (onHead_of_none h1 h2 s _)

end Sys2Proof.Machine
end

section
/-! The events of the Bag Heads (O45, O46) and the releases (O48). -/

namespace Sys2Proof.Machine

/-! ### Completion inputs (R100 to R105) -/

theorem completes_rises (step : HeadStep) (h : Head) (level : Bool) (s : State) :
    s.completes step h level .rises = true ↔ level = false ∧ (s.heads.get h).step = step ∧ s.line.state ≠ .halted := by
  simp [State.completes, becomesAsserted, edgeLevel, and_assoc]

theorem completes_falls (step : HeadStep) (h : Head) (level : Bool) (s : State) : s.completes step h level .falls = false := rfl

theorem not_completes {step : HeadStep} {h : Head} {level : Bool} {s : State}
    (hseen : s.line.state = .halted ∨ (s.heads.get h).step ≠ step ∨ level = true) : ¬ s.completes step h level .rises = true := by
  rw [completes_rises]
  rintro ⟨hlevel, hstep, hline⟩
  rcases hseen with k | k | k
  · exact hline k
  · exact k hstep
  · rw [hlevel] at k; cases k

/-- A write of a record and a change of a head that leaves records alone do not meet. -/
theorem modHead_updateRecord {n : Nat} {f : LoafRecord → LoafRecord} {g : HeadState → HeadState}
    (hg : ∀ y o, g { y with record := o } = { g y with record := o }) (h : Head) (s : State) :
    (s.updateRecord n f).modHead h g = (s.modHead h g).updateRecord n f := by
  have hrec (y : HeadState) : (g y).record = y.record := by
    have h := congrArg HeadState.record (hg y y.record)
    exact h
  cases h
  · simp only [State.updateRecord, State.modHead, PerHead.get, PerHead.set]
    rw [hg, hrec]
  · simp only [State.updateRecord, State.modHead, PerHead.get, PerHead.set]
    rw [hg, hrec]

/-- R116: the no-clip path from a head in TYING. -/
theorem noClipPath_eq (h : Head) (r : LoafRecord) (s : State) : s.noClipPath h r = { s with
    heads := s.heads.set h { s.heads.get h with step := .discharging, timer := some (s.heads.get h).timeouts.discharging, direct := false }
    totals := { s.totals with
      heads := s.totals.heads.set h { s.totals.heads.get h with noClip := min 4294967295 ((s.totals.heads.get h).noClip + 1) } } }.updateRecord
    r.number fun y => { y with tie := some .noClip, disposition := some (y.disposition.getD .untied) } := by
  unfold State.noClipPath State.toDischarging
  dsimp only
  have hcounted : ∀ t : State, ∀ f, (t.updateRecord r.number f).modHeadTotals h (fun t => { t with noClip := satAdd Limits.max32 t.noClip 1 }) =
      (t.modHeadTotals h fun t => { t with noClip := satAdd Limits.max32 t.noClip 1 }).updateRecord r.number f := fun _ _ => rfl
  rw [hcounted, modHead_updateRecord (by exact fun _ _ => rfl), modHead_updateRecord (by exact fun _ _ => rfl)]
  simp only [State.modHead, State.modHeadTotals, PerHead.get_set, PerHead.set_set, satAdd_one]
  rfl

theorem handOff_tie {h : Head} {r : LoafRecord} {s : State} (hr : (s.heads.get h).record = some r) (hm : (s.tiers.get h).magazine ≠ 0) :
    s.handOff h = s.tieStart h r := by
  unfold State.handOff
  rw [hr]
  exact if_neg hm

theorem handOff_empty {h : Head} {r : LoafRecord} {s : State} (hr : (s.heads.get h).record = some r) (hm : (s.tiers.get h).magazine = 0) :
    s.handOff h = s.noClipPath h r := by
  unfold State.handOff
  rw [hr]
  exact if_pos hm

/-- R103, R116: gather-done with an empty magazine. -/
theorem takeGatherDone_empty {h : Head} {r : LoafRecord} {s : State} (hr : (s.heads.get h).record = some r) (hm : (s.tiers.get h).magazine = 0) :
    s.takeGatherDone h = { s with
      heads := s.heads.set h { s.heads.get h with step := .discharging, timer := some (s.heads.get h).timeouts.discharging, direct := false }
      totals := { s.totals with
        heads := s.totals.heads.set h { s.totals.heads.get h with noClip := min 4294967295 ((s.totals.heads.get h).noClip + 1) } } }.updateRecord
      r.number fun y => { y with tie := some .noClip, disposition := some (y.disposition.getD .untied) } := by
  have hr' : ((s.modHead h (HeadState.enter .tying)).heads.get h).record = some r := by simpa [State.modHead, HeadState.enter] using hr
  rw [State.takeGatherDone, handOff_empty hr' hm, noClipPath_eq]
  simp only [State.modHead, HeadState.enter, PerHead.get_set, PerHead.set_set]

/-- R103, R117: gather-done with a clip left. -/
theorem takeGatherDone_tie {h : Head} {r : LoafRecord} {s : State} (hr : (s.heads.get h).record = some r) (hm : (s.tiers.get h).magazine ≠ 0) :
    s.takeGatherDone h = { s with
      heads := s.heads.set h { s.heads.get h with step := .tying, timer := some (s.heads.get h).timeouts.tying } }.tieStart h r := by
  have hr' : ((s.modHead h (HeadState.enter .tying)).heads.get h).record = some r := by simpa [State.modHead, HeadState.enter] using hr
  rw [State.takeGatherDone, handOff_tie hr' hm]; rfl

/-- Settles O45. -/
theorem headCompletionsTaken : Obligations.HeadCompletionsTaken := by
  intro h s x last seen figures untied enters
  refine ⟨fun hline => ⟨fun hstep hlast => ?_, fun hstep hlast => ?_, fun r hstep hlast hr hm => ?_, fun r hstep hlast hr hm => ?_⟩,
    fun hseen => if_neg (not_completes hseen), fun hseen => if_neg (not_completes hseen), fun hseen => if_neg (not_completes hseen), rfl, rfl, rfl⟩
  · exact if_pos ((completes_rises _ _ _ _).mpr ⟨hlast, hstep, hline⟩)
  · exact if_pos ((completes_rises _ _ _ _).mpr ⟨hlast, hstep, hline⟩)
  · refine (if_pos ((completes_rises _ _ _ _).mpr ⟨hlast, hstep, hline⟩)).trans ?_
    rw [takeGatherDone_tie (r := r) (by exact hr) (by exact hm)]; rfl
  · refine (if_pos ((completes_rises _ _ _ _).mpr ⟨hlast, hstep, hline⟩)).trans ?_
    rw [takeGatherDone_empty (r := r) (by exact hr) (by exact hm)]; rfl

/-! ### Timers (R100, R102, R106) -/

theorem jams_iff (x : HeadStep) : x.jams = true ↔ x = .loading ∨ x = .gathering ∨ x = .tying ∨ x = .discharging := by cases x <;> simp [HeadStep.jams]

/-- R106, R153: a jam raised, and REPEAT_FAULT after it inside the resume window. -/
theorem headStateTimeout_of {h : Head} {s : State} (hjams : (s.heads.get h).step.jams = true) (htimer : (s.heads.get h).timer ≠ none) :
    exec (.headStateTimeout h) s = .next (State.finish s none
      ((s.modHead h fun x => { x with timer := none }).raiseJam (.headJam h (s.heads.get h).step))) :=
  if_pos (by rw [hjams, Option.isSome_iff_ne_none.mpr htimer]; rfl)

/-- Settles O46. -/
theorem headTimersRunOut : Obligations.HeadTimersRunOut := by
  intro h s x figures missed once out
  refine ⟨fun hstep htimer hmiss => ?_, fun hstep htimer hmiss => ?_, rfl, fun hjams htimer => ⟨fun hwindow => ?_, fun hwindow => ?_⟩⟩
  · refine (if_pos ⟨hstep, Option.isSome_iff_ne_none.mpr htimer⟩).trans ?_
    have honce : ({ x.feedBag with misses := 1 } : HeadState) = once := by
      simp only [once, HeadState.feedBag, HeadState.enter, hstep]; rfl
    have htaken : s.takeOpeningTimeout h = { s with totals := missed, heads := s.heads.set h once } := by
      rw [← honce]
      refine (if_pos hmiss).trans ?_
      simp only [State.modHeadTotals, State.modHead, satAdd_one]; rfl
    rw [htaken]
  · refine (if_pos ⟨hstep, Option.isSome_iff_ne_none.mpr htimer⟩).trans ?_
    have htaken : s.takeOpeningTimeout h = ({ s with totals := missed, heads := s.heads.set h out } : State).raise (.bagEmpty h) := by
      refine (if_neg hmiss).trans ?_
      simp only [State.modHeadTotals, State.modHead, satAdd_one]; rfl
    rw [htaken]
  · refine (headStateTimeout_of ((jams_iff _).mpr hjams) htimer).trans ?_
    refine congrArg (fun u => Host.Outcome.next (State.finish s none u)) (if_neg ?_)
    simpa [State.modHead] using hwindow
  · refine (headStateTimeout_of ((jams_iff _).mpr hjams) htimer).trans ?_
    refine congrArg (fun u => Host.Outcome.next (State.finish s none u)) (if_pos ?_)
    exact Option.isSome_iff_ne_none.mpr hwindow

/-! ### Releases (R98, R99) -/

theorem attemptReleases_moving {s : State} (h : s.moving = true) : s.attemptReleases = s.router.idleOrder.foldl State.offerTo s := if_pos h

/-- R98: the record standing earliest that the head's source admits. -/
theorem offerTo_first {h : Head} {s : State} {before after : List (Nat × Lane)} {n : Nat} {l : Lane}
    (hsplit : s.router.waitingOrder = before ++ (n, l) :: after) (hbefore : ∀ w ∈ before, (s.router.active.get h).admits w.2 = false)
    (hadmits : (s.router.active.get h).admits l = true) : s.offerTo h = s.releaseTo h n l := by
  have hfind : s.router.waitingOrder.find? (fun w => (s.router.active.get h).admits w.2) = some (n, l) := by
    rw [List.find?_eq_some_iff_append]
    exact ⟨hadmits, before, after, hsplit, fun w hw => by rw [hbefore w hw]; rfl⟩
  unfold State.offerTo
  rw [hfind]

/-- R101: the head reads the disposition of the record it takes. -/
theorem take_eq (r : LoafRecord) (x : HeadState) : x.take r = match r.disposition with
    | some _ => { x with record := some { r with stage := .atHead }, step := .discharging, timer := some x.timeouts.discharging, direct := true }
    | none => { x with record := some { r with stage := .atHead }, step := .opening, timer := some x.timeouts.opening, direct := false, feedPulse := some 100 } := by
  unfold HeadState.take
  cases r.disposition <;> rfl

theorem releaseTo_of {h : Head} {n : Nat} {l : Lane} {r : LoafRecord} {s : State} (hq : s.queued l n = some r) :
    s.releaseTo h n l = (s.released h n l).modHead h (HeadState.take { r with head := some h }) := by
  unfold State.releaseTo
  rw [hq]; rfl

/-- Settles O48. -/
theorem headsTakeTheEarliestRecord : Obligations.HeadsTakeTheEarliestRecord := by
  intro h s
  refine ⟨fun hrest => ?_, fun hmoving => ⟨fun hidle => ?_, fun h' hidle => ?_⟩, fun hno => ?_, ?_, ?_⟩
  · rcases hrest with hrest | hrest
    · exact if_neg (by simp [hrest])
    · unfold State.attemptReleases; rw [hrest]; split <;> rfl
  · rw [attemptReleases_moving hmoving, hidle]; rfl
  · rw [attemptReleases_moving hmoving, hidle]; rfl
  · have hfind : s.router.waitingOrder.find? (fun w => (s.router.active.get h).admits w.2) = none := by
      rw [List.find?_eq_none]; exact fun w hw => by simp [hno w hw]
    unfold State.offerTo
    rw [hfind]
  · intro before n l after r hsplit hbefore hadmits hq hgate x taken
    rw [offerTo_first hsplit hbefore hadmits, releaseTo_of hq]
    have hreleased : s.released h n l = { s with
        router := { s.router with waitingOrder := s.router.waitingOrder.filter (fun w => w.1 != n)
                                  idleOrder := s.router.idleOrder.filter (fun y => y != h) }
        lanes := s.lanes.set l { s.lanes.get l with queue := (s.lanes.get l).queue.filter (fun y => y.number != n) } } := by
      simp only [State.released, State.promote, State.dequeue, State.modLane, PerLane.get_set, hgate]
    rw [hreleased]
    simp only [State.modHead, take_eq]
    cases hd : r.disposition <;> simp [taken, hd, x]
  · intro before n l after r g hsplit hbefore hadmits hq hgate hne
    rw [offerTo_first hsplit hbefore hadmits, releaseTo_of hq]
    let t := { s with router := { s.router with waitingOrder := s.router.waitingOrder.filter (fun w => w.1 != n)
                                                idleOrder := s.router.idleOrder.filter (fun y => y != h) } }.dequeue l n
    have hdequeued : t.queued l g = s.queued l g := by
      have hsame : (fun y : LoafRecord => decide ((y.number != n) = true ∧ (y.number == g) = true)) = fun y => y.number == g := by
        funext y
        by_cases hy : y.number = g
        · simp [hy, hne]
        · simp [hy]
      simp only [t, State.dequeue, State.queued, State.modLane, PerLane.get_set, List.find?_filter, hsame]
    have hgate' : (t.lanes.get l).gateHeld = some g := by simpa [t, State.dequeue] using hgate
    have hpromoted : s.released h n l = { (t.modLane l fun q => { q with gateHeld := none }).updateRecord g fun r => { r with stage := .waiting } with
        router := { t.router with waitingOrder := t.router.waitingOrder ++ [(g, l)] } } := by
      change t.promote l = _
      unfold State.promote
      rw [hgate']; rfl
    rw [hpromoted]
    refine ⟨?_, rfl, ?_⟩
    · change (((t.modLane l fun q => { q with gateHeld := none }).updateRecord g _).lanes.get l).gateHeld = none
      rw [updateRecord_lane]; simp [State.modLane]
    · change ((t.modLane l fun q => { q with gateHeld := none }).updateRecord g _).queued l g = _
      rw [updateRecord_queued_same (by exact fun _ => rfl), ← hdequeued]
      simp [State.queued, State.modLane]

end Sys2Proof.Machine
end

section
/-! Discharge-clear (O47). -/

namespace Sys2Proof.Machine

/-! ### Counting a removal that finds room (R162) -/

theorem countMarked_eq (marked : Bool) (t : ProductTotals) : t.countMarked marked =
    if marked then { t with marked := min 4294967295 (t.marked + 1) } else t := by
  unfold ProductTotals.countMarked
  rw [satAdd_one]; rfl

theorem countBagged_of_room {r : LoafRecord} {s : State} (hbagged : s.totals.products[r.product].bagged < 4294967295)
    (hwhole : s.totals.products[r.product].baggedWhole < 4294967295) (hunchecked : s.totals.products[r.product].baggedUnchecked < 4294967295) :
    s.countBagged r = s.modProductTotals r.product fun t =>
      { t with bagged := t.bagged + 1
               baggedWhole := t.baggedWhole + (if r.plan.map Plan.outcome = some PlanOutcome.noSpan then 1 else 0)
               baggedUnchecked := t.baggedUnchecked + (if r.tie = some TieResult.unchecked then 1 else 0) }.countMarked r.marked := by
  unfold State.countBagged
  rcases countLoaf_cases r.product (fun t => full32 t.bagged || (r.whole && full32 t.baggedWhole) || (r.tiedUnchecked && full32 t.baggedUnchecked))
    _ s with ⟨-, h⟩ | ⟨hfull, -⟩
  · rw [h]; simp only [LoafRecord.whole, LoafRecord.tiedUnchecked, decide_eq_true_eq]
  · rw [full32_eq_false hbagged, full32_eq_false hwhole, full32_eq_false hunchecked] at hfull
    simp at hfull

/-! ### The head freed (R97, R105) -/

theorem report_router (r : LoafRecord) (by' : LeftBy) (head : Option Head) (tie : Option TieResult) (x : Router) (s : State) :
    { s.report r by' head tie with router := x } = { s with router := x }.report r by' head tie := by
  unfold State.report
  dsimp only
  split <;> rfl

/-- R97: a pending source becomes the active one, with CLIP_EMPTY where it meets an empty magazine. -/
theorem applyPendingSource_eq (h : Head) (s : State) : s.applyPendingSource h =
    (let src := (s.router.pending.get h).getD (s.router.active.get h)
     let u := { s with router := { s.router with active := s.router.active.set h src, pending := s.router.pending.set h none } }
     if s.router.pending.get h ≠ none ∧ src ≠ .none ∧ (s.tiers.get h).magazine = 0 then u.raise (.clipEmpty h) else u) := by
  unfold State.applyPendingSource
  cases hp : s.router.pending.get h with
  | none =>
    have hsame : s.router.pending.set h none = s.router.pending := by
      rw [← hp, PerHead.set_get]
    simp [hsame]
  | some src => simp [giveSource_eq]

/-- R105: what discharge-clear does once the loaf is counted. -/
def State.freeHead (h : Head) (r : LoafRecord) (s : State) : State :=
  (((s.goIdle h).report r .head (some h) r.tie).applyPendingSource h).attemptReleases

theorem takeDischargeClear_bagged {h : Head} {r : LoafRecord} {s : State} (hr : (s.heads.get h).record = some r) (hd : r.disposition = none) :
    s.takeDischargeClear h = (s.countBagged r).freeHead h r := by
  unfold State.takeDischargeClear
  rw [hr]
  simp only [hd]; rfl

theorem takeDischargeClear_rejected {h : Head} {r : LoafRecord} {s : State} {reason : Reason} (hr : (s.heads.get h).record = some r)
    (hd : r.disposition = some reason) : s.takeDischargeClear h = (s.countRejected r reason).freeHead h r := by
  unfold State.takeDischargeClear
  rw [hr]
  simp only [hd]; rfl

/-- R97, R105: the freed head written out. -/
theorem freeHead_eq (h : Head) (r : LoafRecord) (s : State) : s.freeHead h r =
    (let src := (s.router.pending.get h).getD (s.router.active.get h)
     let freed := { s with
       heads := s.heads.set h { s.heads.get h with step := .idle, record := none, direct := false, misses := 0, timer := none }
       router := { s.router with active := s.router.active.set h src, pending := s.router.pending.set h none
                                 idleOrder := s.router.idleOrder.filter (fun y => y != h) ++ [h] } }.report r .head (some h) r.tie
     (if s.router.pending.get h ≠ none ∧ src ≠ .none ∧ (s.tiers.get h).magazine = 0 then freed.raise (.clipEmpty h) else freed).attemptReleases) := by
  rw [State.freeHead, applyPendingSource_eq]
  dsimp only
  rw [report_router]
  simp [State.goIdle, State.modHead]

/-- Settles O47. -/
theorem dischargeCountsTheLoaf : Obligations.DischargeCountsTheLoaf := by
  refine ⟨fun h s => ⟨rfl, fun hseen => if_neg (not_completes hseen)⟩, ?_⟩
  intro h r s x t src hstep hr hline hclear hbagged hwhole hunchecked hrejected idle counted
  have htaken : exec (.dischargeClear h .rises) s = .next (State.finish s none
      ((s.setHeadInputs h fun i => { i with dischargeClear := true }).takeDischargeClear h)) :=
    if_pos ((completes_rises _ _ _ _).mpr ⟨hclear, hstep, hline⟩)
  have hcounted (u : ProductTotals) : ((s.setHeadInputs h fun i => { i with dischargeClear := true }).modProductTotals r.product
      fun _ => u.countMarked r.marked).freeHead h r = counted u := by
    rw [freeHead_eq, countMarked_eq]
    rfl
  refine ⟨fun hd => ?_, fun reason hd => ?_⟩
  · rw [htaken, takeDischargeClear_bagged (r := r) (by exact hr) hd, countBagged_of_room (by exact hbagged) (by exact hwhole) (by exact hunchecked)]
    exact congrArg (fun u => Host.Outcome.next (State.finish s none u)) (hcounted _)
  · rw [htaken, takeDischargeClear_rejected (r := r) (by exact hr) hd, countRejected_of_room (by exact hrejected reason)]
    exact congrArg (fun u => Host.Outcome.next (State.finish s none u)) (hcounted _)

end Sys2Proof.Machine
end

section
/-! Cuts that fall due (O38) and the blade-home input (O39). -/

namespace Sys2Proof.Machine

theorem becomeSlicing_eq (r : LoafRecord) : r.becomeSlicing = { r with stage := if r.stage = .planned then .slicing else r.stage } := by
  unfold LoafRecord.becomeSlicing
  cases h : r.stage <;> simp
  all_goals exact (congrArg (fun x => { r with stage := x }) h.symm).symm

/-- R64: the cut's stroke starts. -/
theorem startStroke_eq (l : Lane) (c : Cut) (s : State) : s.startStroke l c =
    { s with slicers := s.slicers.set l { s.slicers.get l with blade := .stroking c, timer := some 150 } }.updateRecord c.loaf fun y =>
      { y with stage := if y.stage = Stage.planned then Stage.slicing else y.stage } := by
  rw [State.startStroke, show LoafRecord.becomeSlicing = _ from funext becomeSlicing_eq]; rfl

/-- R65: the cut becomes pending, and late. -/
theorem holdCut_eq (l : Lane) (c : Cut) (s : State) : s.holdCut l c =
    { s with
      slicers := s.slicers.set l { s.slicers.get l with pending := some c }
      totals := { s.totals with
        lanes := s.totals.lanes.set l { s.totals.lanes.get l with lateCuts := min 4294967295 ((s.totals.lanes.get l).lateCuts + 1) } } }.updateRecord
      c.loaf fun y => { y with flags := { y.flags with lateCut := true } } := by
  simp only [State.holdCut, State.modLaneTotals, satAdd_one]; rfl

/-- R65, R68 step 3: the loaf's cuts not begun are abandoned; its record is SLICED where none of its cuts is pending or being made. -/
theorem abandonLoaf_parts (l : Lane) (n : Nat) (s : State) : s.abandonLoaf l n =
    (let done := (s.slicers.get l).pending.map Cut.loaf ≠ some n ∧ (s.slicers.get l).blade.strokeLoaf ≠ some n
     { s with slicers := s.slicers.set l { s.slicers.get l with
         schedule := (s.slicers.get l).schedule.filter (fun y => y.loaf != n) } }.updateRecord n fun y =>
       { y with flags := { y.flags with miscut := true }, disposition := some (y.disposition.getD .miscut)
                stage := if done then (if y.stage = Stage.planned ∨ y.stage = Stage.slicing then Stage.sliced else y.stage) else y.stage }) := by
  have hdone : (((s.modSlicer l (Slicer.unschedule n)).updateRecord n LoafRecord.miscut).slicers.get l).doneWith n = true ↔
      (s.slicers.get l).pending.map Cut.loaf ≠ some n ∧ (s.slicers.get l).blade.strokeLoaf ≠ some n := by
    rw [doneWith_iff]
    simp [State.updateRecord, Slicer.unschedule]
  unfold State.abandonLoaf State.trySliced
  by_cases hd : (s.slicers.get l).pending.map Cut.loaf ≠ some n ∧ (s.slicers.get l).blade.strokeLoaf ≠ some n
  · rw [if_pos (hdone.mpr hd)]
    refine (updateRecord_updateRecord (by exact fun _ => rfl) _).trans ?_
    simp only [becomeSliced_eq, if_pos hd]
    rfl
  · rw [if_neg (mt hdone.mp hd)]
    simp only [if_neg hd]
    rfl

theorem offerCut_home {l : Lane} {s : State} (h : (s.slicers.get l).blade = .home) (c : Cut) : s.offerCut l c = s.startStroke l c := by
  unfold State.offerCut; rw [h]

theorem offerCut_busy {l : Lane} {s : State} (h : (∃ c, (s.slicers.get l).blade = .stroking c) ∨ ∃ m, (s.slicers.get l).blade = .homing m) (c : Cut) :
    s.offerCut l c = if (s.slicers.get l).pending.isSome then s.abandonLoaf l c.loaf else s.holdCut l c := by
  unfold State.offerCut
  rcases h with ⟨c', h⟩ | ⟨m, h⟩ <;> rw [h]

/-- R63: the oldest entry's cut falls due on a running belt. -/
theorem cutDue_eq {l : Lane} {e : ScheduleEntry} {rest : List ScheduleEntry} {r : LoafRecord} {p : Plan} {c : Nat} {s : State}
    (hsched : (s.slicers.get l).schedule = e :: rest) (hq : s.queued l e.loaf = some r) (hp : r.plan = some p) (hc : p.cuts[e.next]? = some c)
    (hruns : s.conveyorRuns l = true) : s.cutDue l = State.finish s none
      (((s.advanceTo l (pointAt r.lead ((s.lanes.get l).geometry.dBlade + c))).modSlicer l fun sl =>
        { sl with schedule := advanceSchedule e p.cuts.length rest }).offerCut l ⟨e.loaf, e.next, r.product, p.crumbPerCut⟩) := by
  have hcut : s.cutOf l e = some (r, p, c) := by
    unfold State.cutOf; rw [hq]; simp only [hp, hc]
  unfold State.cutDue
  rw [hsched]
  simp only [hcut, hruns, if_true]

/-- Settles O38. -/
theorem cutsFallDue : Obligations.CutsFallDue := by
  intro l e rest r p c s hsched hq hp hc hruns q x point lanes after cut busy
  let t := (s.advanceTo l point).modSlicer l fun sl => { sl with schedule := after }
  have hdue : exec (.cutDue l) s = .next (State.finish s none (t.offerCut l cut)) :=
    congrArg Host.Outcome.next (cutDue_eq hsched hq hp hc hruns)
  have ht : t = { s with lanes := lanes, slicers := s.slicers.set l { x with schedule := after } } := rfl
  have hx : t.slicers.get l = { x with schedule := after } := by rw [ht, PerLane.get_set]
  refine ⟨fun hhome => ?_, fun hbusy hpending => ?_, fun hbusy hpending => ?_⟩
  · rw [hdue, offerCut_home (by rw [hx]; exact hhome), startStroke_eq, hx, ht]
    simp only [PerLane.set_set, cut]
  · rw [hdue, offerCut_busy (by rw [hx]; exact hbusy), hx, if_neg (by simp [hpending]), holdCut_eq, hx, ht]
    simp only [PerLane.set_set, cut]
  · have hgiven : (x.pending.map Cut.loaf = some e.loaf ∨ (match x.blade with
        | .stroking c' => c'.loaf = e.loaf
        | .home | .homing _ => False)) ↔ ¬(x.pending.map Cut.loaf ≠ some e.loaf ∧ x.blade.strokeLoaf ≠ some e.loaf) := by
      rw [not_and_or, not_not, not_not]
      cases x.blade <;> simp [Blade.strokeLoaf]
    intro given abandons
    have habandoned : exec (.cutDue l) s = .next (State.finish s none (({ s with
        lanes := lanes, slicers := s.slicers.set l { x with schedule := after.filter (fun y => y.loaf != e.loaf) } } : State).updateRecord e.loaf fun y =>
          { y with flags := { y.flags with miscut := true }, disposition := some (y.disposition.getD .miscut)
                   stage := if x.pending.map Cut.loaf ≠ some e.loaf ∧ x.blade.strokeLoaf ≠ some e.loaf then
                     (if y.stage = Stage.planned ∨ y.stage = Stage.slicing then Stage.sliced else y.stage) else y.stage })) := by
      rw [hdue, offerCut_busy (by rw [hx]; exact hbusy), hx, if_pos (Option.isSome_iff_ne_none.mpr hpending), abandonLoaf_parts, hx, ht]
      simp only [PerLane.set_set, cut]
    refine ⟨fun hg => ?_, fun hg => ?_⟩
    · rw [habandoned]
      simp only [if_neg (hgiven.mp hg), abandons, id]
    · rw [habandoned]
      simp only [if_pos (not_not.mp (mt hgiven.mpr hg)), abandons]

/-! ### The blade-home input (R61, R66, R71) -/

theorem freeBlade_none {l : Lane} {s : State} (h : (s.slicers.get l).pending = none) : s.freeBlade l =
    { s with slicers := s.slicers.set l { s.slicers.get l with blade := .home, timer := none } } := by
  unfold State.freeBlade; rw [h]; rfl

theorem freeBlade_some {l : Lane} {c : Cut} {s : State} (h : (s.slicers.get l).pending = some c) : s.freeBlade l =
    { s with slicers := s.slicers.set l { s.slicers.get l with blade := .stroking c, timer := some 150, pending := none } }.updateRecord c.loaf fun y =>
      { y with stage := if y.stage = Stage.planned then Stage.slicing else y.stage } := by
  unfold State.freeBlade
  rw [h]
  simp only [startStroke_eq, State.modSlicer, PerLane.get_set, PerLane.set_set]

/-- R66 steps 1 to 4: the stroke is counted, and its loaf is SLICED after its last cut. -/
def State.strokeDone (l : Lane) (c : Cut) (s : State) : State :=
  let x := s.slicers.get l
  { s with
    slicers := s.slicers.set l { x with strokes := min 16777215 (x.strokes + 1), blade := .home, timer := none }
    crumb := s.crumb.set l { s.crumb.get l with load := min 16777215 ((s.crumb.get l).load + c.crumb) }
    totals := { s.totals with
      lanes := s.totals.lanes.set l { s.totals.lanes.get l with crumb := min 281474976710655 ((s.totals.lanes.get l).crumb + c.crumb) }
      products := s.totals.products.set c.product
        { s.totals.products[c.product] with slices := min 4294967295 (s.totals.products[c.product].slices + 1) } } }.updateRecord c.loaf fun y =>
    { y with
      cutsDone := y.cutsDone + 1
      stage := if ((∀ e ∈ x.schedule, e.loaf ≠ c.loaf) ∧ x.pending.map Cut.loaf ≠ some c.loaf) ∧ (y.stage = Stage.planned ∨ y.stage = Stage.slicing) then
        Stage.sliced else y.stage }

theorem strokeDone_pending (l : Lane) (c : Cut) (s : State) : ((s.strokeDone l c).slicers.get l).pending = (s.slicers.get l).pending := by
  simp [State.strokeDone, State.updateRecord]

theorem satAdd_eq (limit n k : Nat) : satAdd limit n k = min limit (n + k) := by unfold satAdd; omega

theorem completeStroke_eq (l : Lane) (c : Cut) (s : State) : s.completeStroke l c = (s.strokeDone l c).freeBlade l := by
  let u := (s.countStroke l c).modSlicer l fun sl => { sl with blade := .home, timer := none }
  have hu : u = { s with
      slicers := s.slicers.set l { s.slicers.get l with strokes := min 16777215 ((s.slicers.get l).strokes + 1), blade := .home, timer := none }
      crumb := s.crumb.set l { s.crumb.get l with load := min 16777215 ((s.crumb.get l).load + c.crumb) }
      totals := { s.totals with
        lanes := s.totals.lanes.set l { s.totals.lanes.get l with crumb := min 281474976710655 ((s.totals.lanes.get l).crumb + c.crumb) }
        products := s.totals.products.set c.product
          { s.totals.products[c.product] with slices := min 4294967295 (s.totals.products[c.product].slices + 1) } } } := by
    simp only [u, State.countStroke, State.modSlicer, State.modCrumb, State.modLaneTotals, State.modProductTotals, PerLane.get_set, PerLane.set_set,
      satAdd_eq]
    rfl
  have hdone : ((u.updateRecord c.loaf fun r => { r with cutsDone := r.cutsDone + 1 }).slicers.get l).doneWith c.loaf = true ↔
      (∀ e ∈ (s.slicers.get l).schedule, e.loaf ≠ c.loaf) ∧ (s.slicers.get l).pending.map Cut.loaf ≠ some c.loaf := by
    rw [doneWith_iff, hu]
    simp [State.updateRecord, Blade.strokeLoaf]
  have hsliced : (u.updateRecord c.loaf fun r => { r with cutsDone := r.cutsDone + 1 }).trySliced l c.loaf = s.strokeDone l c := by
    unfold State.trySliced State.strokeDone
    by_cases hd : (∀ e ∈ (s.slicers.get l).schedule, e.loaf ≠ c.loaf) ∧ (s.slicers.get l).pending.map Cut.loaf ≠ some c.loaf
    · rw [if_pos (hdone.mpr hd), hu]
      refine (updateRecord_updateRecord (by exact fun _ => rfl) _).trans ?_
      simp only [becomeSliced_eq, eq_true hd, true_and]
    · rw [if_neg (mt hdone.mp hd), hu]
      simp only [eq_false hd, false_and, if_false]
  rw [← hsliced]; rfl

/-- Settles O39. -/
theorem bladeHomeChanges : Obligations.BladeHomeChanges := by
  refine ⟨?_, ?_⟩
  · intro l s x seen
    refine ⟨fun hseen => ⟨congrArg Host.Outcome.next (if_pos hseen), congrArg Host.Outcome.next (if_pos hseen)⟩, fun i hi => ?_⟩
    have hrises : exec i s = .next (s.bladeHomeRises l) := by
      rcases hi with rfl | ⟨hclear, rfl | rfl⟩
      · rfl
      · exact congrArg Host.Outcome.next (if_neg (by simp [hclear]))
      · exact congrArg Host.Outcome.next (if_neg (by simp [hclear]))
    rw [hrises]
    refine ⟨fun c hb => ?_, fun hb hp => ?_, fun c hb hp => ?_, fun hb => ?_, fun hb => ?_⟩
    · intro figures product counted last cut
      have hstroke : s.bladeHomeRises l = State.finish s (some l) ((s.setBladeHome l true).completeStroke l c) := by
        unfold State.bladeHomeRises; simp only [show (s.slicers.get l).blade = .stroking c from hb]
      rw [hstroke, completeStroke_eq]
      cases hp : x.pending with
      | none =>
        rw [freeBlade_none ((strokeDone_pending l c (s.setBladeHome l true)).trans hp)]
        simp only [State.strokeDone, State.setBladeHome, cut, counted, last, hp]
        simp [State.updateRecord, seen, x, figures, product, hp]
      | some c' =>
        rw [freeBlade_some ((strokeDone_pending l c (s.setBladeHome l true)).trans hp)]
        simp only [State.strokeDone, State.setBladeHome, cut, counted, last, hp]
        simp [State.updateRecord, seen, x, figures, product, hp]
    · have hmove : s.bladeHomeRises l = State.finish s none ((s.setBladeHome l true).freeBlade l) := by
        unfold State.bladeHomeRises; simp only [show (s.slicers.get l).blade = .homing true from hb]
      rw [hmove, freeBlade_none (by exact hp)]; rfl
    · have hmove : s.bladeHomeRises l = State.finish s none ((s.setBladeHome l true).freeBlade l) := by
        unfold State.bladeHomeRises; simp only [show (s.slicers.get l).blade = .homing true from hb]
      rw [hmove, freeBlade_some (by exact hp)]; rfl
    · unfold State.bladeHomeRises; simp only [show (s.slicers.get l).blade = .homing false from hb]; rfl
    · unfold State.bladeHomeRises; simp only [show (s.slicers.get l).blade = .home from hb]; rfl
  · intro l s x seen
    refine ⟨fun hb hmoving => ?_, fun hb hrest => ?_, fun hb => ?_⟩
    · have hm : s.moving = true := (moving_iff s).mpr hmoving
      refine congrArg Host.Outcome.next ?_
      unfold State.bladeHomeFalls State.startHoming
      simp only [show (s.slicers.get l).blade = .home from hb, hm]
      simp [State.setBladeHome, State.modSlicer, seen, x, Limits.strokeMs]
    · have hm : s.moving = false := (moving_false_iff s).mpr hrest
      refine congrArg Host.Outcome.next ?_
      unfold State.bladeHomeFalls
      simp only [show (s.slicers.get l).blade = .home from hb, hm]
      rfl
    · refine congrArg Host.Outcome.next ?_
      unfold State.bladeHomeFalls
      cases hc : (s.slicers.get l).blade with
      | home => exact absurd hc hb
      | stroking c => rfl
      | homing m => rfl

end Sys2Proof.Machine
end

section
/-! A stroke or a homing move runs out (O40). -/

namespace Sys2Proof.Machine

/-! ### What a raise keeps of the stations and the records -/

theorem enterHalted_slicer (l : Lane) (s : State) : s.enterHalted.slicers.get l = (s.slicers.get l).abandonedStroke := by
  rw [enterHalted_eq]; cases l <;> rfl

/-- A station at rest in HOMING, without a cut of its own, takes the entry into HALTED unchanged. -/
theorem raise_slicer {l : Lane} {s : State} (h : (s.slicers.get l).abandonedStroke = s.slicers.get l) (c : Cause) :
    (s.raise c).slicers.get l = s.slicers.get l := by
  cases hc : c.immediate
  · rw [raise_pending hc]
  · rw [raise_immediate hc]
    cases s.moving <;> simp [enterHalted_slicer, h]

theorem mapRecords_queued {f : LoafRecord → LoafRecord} (hf : ∀ r, (f r).number = r.number) (l : Lane) (n : Nat) (s : State) :
    (s.mapRecords f).queued l n = (s.queued l n).map f := by
  cases l <;> simp [State.queued, State.mapRecords, PerLane.get, List.find?_map, hf]

theorem queued_congr {s t : State} {l : Lane} {n : Nat} (h : (t.lanes.get l).queue = (s.lanes.get l).queue) : t.queued l n = s.queued l n := by
  rw [State.queued, State.queued, h]

/-- A raise does nothing to a record in a queue but to cut short some loaves. -/
theorem raise_queued (c : Cause) (s : State) : ∃ ns, ∀ l n, (s.raise c).queued l n = (s.queued l n).map (LoafRecord.cutShort ns) := by
  have hkept : ∀ o : Option LoafRecord, o = o.map (LoafRecord.cutShort []) := by
    intro o; rw [show LoafRecord.cutShort [] = id from funext cutShort_nil]; simp
  cases hc : c.immediate
  · exact ⟨[], fun l n => by rw [raise_pending hc]; exact hkept _⟩
  · cases hm : s.moving
    · exact ⟨[], fun l n => by rw [← hkept]; exact queued_congr (by simp [raise_immediate hc, hm])⟩
    · refine ⟨(s.slicers.get .a).owners ++ (s.slicers.get .b).owners, fun l n => ?_⟩
      rw [← mapRecords_queued (cutShort_number _)]
      refine queued_congr ?_
      simp only [raise_immediate hc, hm, abortPurge_frame, if_true]
      rw [enterHalted_eq]
      cases l <;> rfl

/-- A record given up with its cuts (R68): MISCUT, and rejected MISCUT unless it was rejected before. -/
def LoafRecord.GivenUp (before after : LoafRecord) : Prop :=
  after.flags.miscut = true ∧ after.disposition = some (before.disposition.getD .miscut)

theorem givenUp_of_cutShort {ns : List Nat} {r : LoafRecord} (h : r.number ∈ ns) : r.GivenUp (r.cutShort ns) := by
  unfold LoafRecord.cutShort
  rw [if_pos h]; exact ⟨rfl, rfl⟩

theorem GivenUp.cutShort {r r' : LoafRecord} (h : r.GivenUp r') (ns : List Nat) : r.GivenUp (r'.cutShort ns) := by
  obtain ⟨hm, hd⟩ := h
  unfold LoafRecord.cutShort
  split
  · exact ⟨rfl, by simp [hd]⟩
  · exact ⟨hm, hd⟩

/-! ### The timeout -/

/-- The state before the jam is raised (R68 steps 1 to 4, entry 38). -/
theorem timeoutAbandons_slicer (l : Lane) (s : State) : (s.timeoutAbandons l).slicers.get l = (s.slicers.get l).abandonedStroke := by
  simp [State.timeoutAbandons, abandonStroke_eq, State.mapRecords]

theorem timeoutAbandons_queued (l k : Lane) (n : Nat) (s : State) :
    (s.timeoutAbandons l).queued k n = (s.queued k n).map (LoafRecord.cutShort (s.slicers.get l).owners) := by
  have hu : (s.timeoutAbandons l).queued k n = (s.abandonStroke l).queued k n := queued_congr (by simp [State.timeoutAbandons])
  rw [hu, abandonStroke_eq]
  exact mapRecords_queued (cutShort_number _) k n _

theorem abandonedStroke_idem (x : Slicer) : x.abandonedStroke.abandonedStroke = x.abandonedStroke := by
  have howners : x.abandonedStroke.owners = [] := by
    simp [Slicer.owners, Slicer.abandonedStroke, strokeLoaf_abandoned]
  have hblade : x.blade.abandoned.abandoned = x.blade.abandoned := by cases x.blade <;> rfl
  rw [Slicer.abandonedStroke, howners]
  simp [Slicer.abandonedStroke, hblade]

/-- R152, R153: the line after a slicer jam. -/
theorem line_raiseJam (l : Lane) (u : State) :
    (u.moving = true → (u.raiseJam (.slicerJam l)).line.state = .halted ∧ ((u.raiseJam (.slicerJam l)).line.causes.slicerJam.get l) = true) ∧
    (u.moving = false → (u.raiseJam (.slicerJam l)).line.state = u.line.state) ∧
    (u.moving = true → u.line.window ≠ none → (u.raiseJam (.slicerJam l)).line.causes.repeatFault = true) ∧
    (u.line.window = none → (u.raiseJam (.slicerJam l)).line.latched = latchOf (.slicerJam l) u.line.latched ∧
      (u.raiseJam (.slicerJam l)).line.causes.repeatFault = u.line.causes.repeatFault) := by
  have hfirst := line_raise_immediate (c := .slicerJam l) rfl u
  have hsecond := line_raise_immediate (c := .repeatFault) rfl (u.raise (.slicerJam l))
  have hmoving : u.moving = true → u.line.state ≠ .stopped := by
    intro h; rcases (moving_iff u).mp h with h | h <;> rw [h] <;> decide
  have hhalted : ∀ v : State, v.line.state = .halted → v.moving = false := fun v h => (moving_false_iff v).mpr (.inr h)
  unfold State.raiseJam
  cases hw : u.line.window with
  | none =>
    simp only [Option.isSome_none, Bool.false_eq_true, if_false, hfirst, State.causesWith]
    refine ⟨fun hm => ⟨if_pos hm, ?_⟩, fun hm => by simp [hm], fun _ h => absurd rfl h, fun _ => ⟨trivial, ?_⟩⟩
    · rw [if_neg (hmoving hm)]
      exact PerLane.get_set _ l true
    · split <;> rfl
  | some w =>
    have hcauses : u.moving = true → (u.raise (.slicerJam l)).line.causes = u.line.causes.add (.slicerJam l) := by
      intro hm; rw [hfirst]; exact if_neg (hmoving hm)
    have hstate : u.moving = true → (u.raise (.slicerJam l)).line.state = .halted := by intro hm; rw [hfirst]; exact if_pos hm
    simp only [Option.isSome_some, if_true, hsecond, State.causesWith]
    refine ⟨fun hm => ⟨?_, ?_⟩, fun hm => ?_, fun hm _ => ?_, fun h => by cases h⟩
    · rw [if_neg (by simp [hhalted _ (hstate hm)]), hstate hm]
    · rw [hstate hm, if_neg (by decide), hcauses hm]
      exact PerLane.get_set _ l true
    · have hrests : (u.raise (.slicerJam l)).line.state = u.line.state := by rw [hfirst]; simp [hm]
      have hm' : (u.raise (.slicerJam l)).moving = false := by rw [moving_false_iff, hrests]; exact (moving_false_iff u).mp hm
      rw [hm', hrests]; rfl
    · rw [hstate hm, if_neg (by decide)]; rfl

/-- Settles O40. -/
theorem slicersTimeOut : Obligations.SlicersTimeOut := by
  intro l s x i hi htimer
  have hblade : x.blade.abandoned = .homing false := by
    rcases hi with ⟨-, c, h⟩ | ⟨-, h⟩ <;> rw [h] <;> rfl
  have htaken : exec i s = .next (s.slicerTimeout l) := by
    rcases hi with ⟨rfl, c, h⟩ | ⟨rfl, h⟩
    · exact if_pos (by rw [show (s.slicers.get l).blade = _ from h, Option.isSome_iff_ne_none.mpr htimer]; rfl)
    · exact if_pos (by rw [show (s.slicers.get l).blade = _ from h, Option.isSome_iff_ne_none.mpr htimer]; rfl)
  let u := s.timeoutAbandons l
  have huline : u.line = s.line := by simp [u, State.timeoutAbandons]
  have hjam : u.raiseJam (.slicerJam l) = if s.line.window = none then u.raise (.slicerJam l) else (u.raise (.slicerJam l)).raise .repeatFault := by
    rw [State.raiseJam, huline]
    cases s.line.window <;> rfl
  have hslicer : (u.raiseJam (.slicerJam l)).slicers.get l = x.abandonedStroke := by
    have hu : u.slicers.get l = x.abandonedStroke := timeoutAbandons_slicer l s
    have hfirst := raise_slicer (s := u) (l := l) (by rw [hu]; exact abandonedStroke_idem x) (.slicerJam l)
    have hsecond := raise_slicer (s := u.raise (.slicerJam l)) (l := l) (by rw [hfirst, hu]; exact abandonedStroke_idem x) .repeatFault
    rw [hjam]
    split
    · rw [hfirst, hu]
    · rw [hsecond, hfirst, hu]
  have hqueued : ∃ ns, ∀ k n, (u.raiseJam (.slicerJam l)).queued k n = (u.queued k n).map (LoafRecord.cutShort ns) := by
    obtain ⟨ns, hns⟩ := raise_queued (.slicerJam l) u
    obtain ⟨ms, hms⟩ := raise_queued .repeatFault (u.raise (.slicerJam l))
    rw [hjam]
    split
    · exact ⟨ns, hns⟩
    · refine ⟨ns ++ ms, fun k n => ?_⟩
      rw [hms, hns, Option.map_map]
      exact congrArg (fun f => (u.queued k n).map f) (funext (cutShort_cutShort ns ms))
  obtain ⟨hjmoving, hjrest, hjrepeat, hjlatched⟩ := line_raiseJam l u
  have hmoving : u.moving = s.moving := by rw [State.moving, huline]; rfl
  have hline : (State.finish u none (u.raiseJam (.slicerJam l))).line = (u.raiseJam (.slicerJam l)).line := by
    rw [(finish_drain _ _ _).1, drainTest_of_not]
    rintro ⟨hd, -⟩
    cases hm : u.moving
    · rw [hjrest hm] at hd
      have := (moving_iff u).mpr (.inr hd)
      rw [hm] at this; cases this
    · rw [(hjmoving hm).1] at hd; cases hd
  have hfinal : (State.finish u none (u.raiseJam (.slicerJam l))).slicers.get l = x.abandonedStroke := by
    rw [← hslicer]; simp
  refine ⟨State.finish u none (u.raiseJam (.slicerJam l)), htaken, congrArg (State.finish u none) hjam, ?_, ?_, ?_, ?_, ?_, fun n hn => ⟨?_, fun r hr => ?_⟩, ?_, ?_, ?_, ?_, ?_,
    ?_, ?_, ?_, ?_⟩
  · rw [hfinal]; exact hblade
  · rw [hfinal]; rfl
  · rw [hfinal]; rfl
  · rw [hfinal]; rfl
  · rw [hfinal]; rfl
  · rw [hfinal]
    intro e he heq
    have hkeep := (List.mem_filter.mp he).2
    rw [heq] at hkeep
    exact of_decide_eq_true hkeep hn
  · obtain ⟨ns, hns⟩ := hqueued
    have hnum : r.number = n := (queued_held hr).2
    have hgiven : r.GivenUp (r.cutShort x.owners) := givenUp_of_cutShort (by rw [hnum]; exact hn)
    refine ⟨(r.cutShort x.owners).cutShort ns, ?_, GivenUp.cutShort hgiven ns⟩
    have hlane : (State.finish u none (u.raiseJam (.slicerJam l))).queued l n = (u.raiseJam (.slicerJam l)).queued l n :=
      queued_congr (by rw [finish_lane])
    rw [hlane, hns, timeoutAbandons_queued, hr]; rfl
  · intro hm
    rw [hline]; exact hjmoving (hmoving.trans hm)
  · intro hm
    rw [hline, hjrest (hmoving.trans hm), huline]
  · intro hm hw
    rw [hline]; exact hjrepeat (hmoving.trans hm) (by rw [huline]; exact hw)
  · intro hw
    rw [hline, ← huline]; exact hjlatched (by rw [huline]; exact hw)
  all_goals simp [u, State.timeoutAbandons]

end Sys2Proof.Machine
end

section
/-! The Slice Planner: the requests TRIAL PLAN and READ PLANNER STATUS, arrivals, starts and completions (chapter 3). -/
namespace Sys2Proof.Machine

/-! ### Starts -/

theorem startNext_idle {s : State} (h : s.planner.current ≠ none ∨ s.planner.queue = []) : s.startNext = s := by
  unfold State.startNext
  cases hc : s.planner.current with
  | some c => rfl
  | none =>
    cases hq : s.planner.queue with
    | nil => rfl
    | cons req rest => exact absurd hq (h.resolve_left (absurd hc) ▸ by simp_all)

theorem startNext_of {s : State} {req : PlanRequest} {rest : List PlanRequest} (hc : s.planner.current = none)
    (hq : s.planner.queue = req :: rest) :
    s.startNext = { s with planner := { s.planner with queue := rest, current := some ⟨req, s.inputsOf req, false⟩ } } := by
  simp only [State.startNext, hc, hq]

theorem inputsOf_gauge {l : Lane} {n : Nat} {s : State} {r : LoafRecord} {e : ProductEntry} (hq : s.queued l n = some r)
    (he : s.products[r.product] = some e) : s.inputsOf (.gauge l n) = ⟨r.length, r.height, e.tNom, e.tMin, e.tMax, e.heel, e.kerf,
      e.nMax, e.crumbFactor, e.wholeOk, (s.slicers.get l).strokes, (s.slicers.get l).wearRate⟩ := by
  simp only [State.inputsOf, hq, he, planInputs]

theorem inputsOf_trial {l : Lane} {length height : Nat} {p : ProductIx} {s : State} {e : ProductEntry} (he : s.products[p] = some e) :
    s.inputsOf (.trial l length height p) = ⟨length, height, e.tNom, e.tMin, e.tMax, e.heel, e.kerf,
      e.nMax, e.crumbFactor, e.wholeOk, (s.slicers.get l).strokes, (s.slicers.get l).wearRate⟩ := by
  simp only [State.inputsOf, he, planInputs]

/-! ### The arrival of an issued request -/

theorem arrival_eq {l : Lane} {n : Nat} {before after : List IssuedRequest} {w : Bool} {s : State}
    (hissued : s.planner.issued = before ++ ⟨l, n, w⟩ :: after) (hfirst : ∀ x ∈ before, ¬ (x.lane = l ∧ x.loaf = n)) :
    s.arrival l n =
      let t := { s with planner := { s.planner with issued := before ++ after } }
      if w then t else State.finish s none (t.takeArrival l n) := by
  have hno : ∀ x ∈ before, ¬ IssuedRequest.isFor l n x = true := fun x hx => by simpa [IssuedRequest.isFor] using hfirst x hx
  have hyes : IssuedRequest.isFor l n ⟨l, n, w⟩ = true := by simp [IssuedRequest.isFor]
  have hfind : s.planner.issued.find? (IssuedRequest.isFor l n) = some ⟨l, n, w⟩ := by
    rw [hissued, List.find?_append, List.find?_eq_none.2 hno, List.find?_cons_of_pos hyes]; rfl
  have herase : s.planner.issued.eraseP (IssuedRequest.isFor l n) = before ++ after := by
    rw [hissued, List.eraseP_append_right _ hno, List.eraseP_cons_of_pos hyes]
  simp only [State.arrival, hfind, herase]

theorem PlanRequest.bytes_length (r : PlanRequest) : r.bytes.length = 4 := by
  cases r <;> simp [PlanRequest.bytes]

theorem requests_bytes_length (rs : List PlanRequest) : (rs.map PlanRequest.bytes).flatten.length = 4 * rs.length := by
  induction rs with
  | nil => rfl
  | cons r rs ih =>
    rw [List.map_cons, List.flatten_cons, List.length_append, PlanRequest.bytes_length, ih, List.length_cons]; omega

theorem currentBytes_length (p : Planner) : p.currentBytes.length = 5 := by
  unfold Planner.currentBytes
  cases p.current with
  | none => rfl
  | some c => rw [List.length_append, PlanRequest.bytes_length]; rfl

theorem plannerReport_length (s : State) : s.plannerReport.length = 13 + 4 * s.planner.queue.length := by
  simp only [State.plannerReport, List.length_append, currentBytes_length, requests_bytes_length, beBytes_one, beBytes_four,
    List.length_cons, List.length_nil]
  omega

theorem takeArrival_room {l : Lane} {n : Nat} {s : State} (h : s.planner.queue.length < 4) : s.takeArrival l n =
    (s.updateRecord n fun r => { r with stage := .planWait }).enqueueRequest (.gauge l n) := if_pos h

theorem takeArrival_full {l : Lane} {n : Nat} {s : State} (h : 4 ≤ s.planner.queue.length) : s.takeArrival l n =
    (s.failPlan n .noPlan .noPlan).notify (.plannerFull l n) := if_neg (not_lt.2 h)

/-! ### TRIAL PLAN -/

section
variable {tag lane product : Byte} {length height : Half} {l : Lane} {p : ProductIx} {s : State}

/-- The checks of TRIAL PLAN before its product entry is looked at. -/
theorem doTrialPlan_allowed (hl : lane = Lane.code l) (hlength : 1 ≤ length.toNat ∧ length.toNat ≤ 16383) (hheight : height.toNat ≤ 2000)
    (hp : product.toNat = p.val) : doTrialPlan lane length height product s =
      if s.products[p].isNone then refuse s .notPresent
      else if s.planner.queue.length < 4 then
        { state := s.enqueueRequest (.trial l length.toNat height.toNat p), reply := none }
      else refuse s .busy := by
  subst hl
  rw [doTrialPlan, onLane_code, inRange_eq_true.2 hlength, decide_eq_true hheight]
  exact onProduct_of_toNat hp s _

theorem doTrialPlan_refused (h : ¬ (lane.toNat ≤ 1 ∧ 1 ≤ length.toNat ∧ length.toNat ≤ 16383 ∧ height.toNat ≤ 2000 ∧ product.toNat ≤ 15)) :
    doTrialPlan lane length height product s = refuse s .badValue := by
  by_cases hlane : 1 < lane.toNat
  · exact onLane_of_one_lt hlane s _
  by_cases hproduct : 15 < product.toNat
  · unfold doTrialPlan onLane
    split
    · rfl
    · exact (ite_congr rfl (fun _ => onProduct_of_large hproduct s _) fun _ => rfl).trans (ite_self _)
  have hvalues : (inRange 1 16383 length.toNat && decide (height.toNat ≤ 2000)) = false := by
    rw [Bool.and_eq_false_iff, inRange_eq_false, decide_eq_false_iff_not]; omega
  unfold doTrialPlan onLane
  split
  · rfl
  · rw [hvalues]; rfl

end

/-- Settles O35. -/
theorem planRequestsArrive : Obligations.PlanRequestsArrive := by
  unfold Obligations.PlanRequestsArrive
  refine ⟨fun tag lane product length height s hfree => ?_, fun s => ?_, fun l n before after w s hissued hfirst => ?_,
    fun s => ⟨startNext_idle, fun req rest hc hq => ?_⟩⟩
  · intro i allowed deferred
    have hexec : exec i s = .next (s.arrive (requestFrame i) (doTrialPlan lane length height product)) := rfl
    refine ⟨accepts_of_served doReadPlannerStatus rfl hfree rfl, plannerReport_length s,
      fun h => rejects_of_refuse _ hexec hfree (doTrialPlan_refused h), fun l p h hl hp => ?_⟩
    have hdo := doTrialPlan_allowed (s := s) hl ⟨h.2.1, h.2.2.1⟩ h.2.2.2.1 hp
    refine ⟨fun he => rejects_of_refuse _ hexec hfree (hdo.trans (if_pos (by rw [he]; rfl))), fun he hfull => ?_, fun he hroom => ?_⟩
    · exact rejects_of_refuse _ hexec hfree (hdo.trans ((if_neg (by simpa using he)).trans (if_neg (by omega))))
    · rw [hexec, arrive_of_empty hfree, hdo, if_neg (by simpa using he), if_pos hroom]
      simp only [State.conclude, State.enqueueRequest, startNext_frame, deferred]
  · intro b2 b4 yes kinds rest
    have hkinds : PlanRequest.bytes = kinds := by
      funext r; cases r <;> simp [PlanRequest.bytes, kinds, b2]
    have hrest : s.plannerReport = s.planner.currentBytes ++ rest := by
      simp only [State.plannerReport, hkinds, beBytes_one, beBytes_four, rest, List.append_assoc, b4]
      rfl
    refine ⟨fun c hc => ?_, fun hc => ⟨Config.planlessLaneByte s.planner.count, ?_⟩⟩
    · rw [hrest, Planner.currentBytes, hc, ← hkinds]
      simp only [List.append_assoc]
      rfl
    · rw [hrest, Planner.currentBytes, hc]
  · intro i t
    have hexec : exec i s = .next (if w then t else State.finish s none (t.takeArrival l n)) :=
      congrArg Host.Outcome.next (arrival_eq hissued hfirst)
    rw [hexec]
    refine ⟨fun hw => by rw [hw]; rfl, fun hw hroom => ?_, fun hw hfull => ?_⟩
    · rw [hw, takeArrival_room (s := t) hroom]
      rfl
    · rw [hw, takeArrival_full (s := t) hfull]
      rfl
  · rw [startNext_of hc hq]
    refine ⟨fun l n r e hreq hr he => ?_, fun l length height p e hreq he => ?_⟩
    · rw [hreq, inputsOf_gauge hr he]
    · rw [hreq, inputsOf_trial he]

/-! ### Completions -/

theorem wearLimit_eq (l : Lane) (i : PlanInputs) (p : Plan) (s : State) : s.wearLimit l i p = { s with
    slicers := if p.wearClamped then s.slicers.set l { s.slicers.get l with wearLimit := true } else s.slicers
    notices := if p.wearClamped = true ∧ (s.slicers.get l).wearLimit = false
      then s.notices.place (.bladeWear l i.strokes i.wearRate) else s.notices } := by
  unfold State.wearLimit
  cases p.wearClamped with
  | false => simp
  | true => cases (s.slicers.get l).wearLimit <;> simp [State.notify, State.modSlicer]

theorem planned_brings (p : Plan) (wholeOk : Bool) : LoafRecord.planned p (p.brings wholeOk) = fun y => { y with
    plan := some p, stage := .planned
    disposition := if p.outcome = PlanOutcome.noSpan ∧ wholeOk = false then some (y.disposition.getD Reason.noSpan) else y.disposition } := by
  funext y
  unfold LoafRecord.planned Plan.brings
  split <;> rename_i h <;> split at h
  · rename_i hno
    cases h; rw [if_pos hno]; rfl
  · cases h
  · cases h
  · rename_i hno
    rw [if_neg hno]

theorem updateRecord_modSlicer (n : Nat) (f : LoafRecord → LoafRecord) (l : Lane) (g : Slicer → Slicer) (s : State) :
    (s.updateRecord n f).modSlicer l g = (s.modSlicer l g).updateRecord n f := rfl

/-- The new entry stands behind the entries of records ahead of its own and before the first of a record behind it. -/
theorem insertEntry_split (later : List Nat) (e : ScheduleEntry) (schedule : List ScheduleEntry) :
    ∃ front back, schedule = front ++ back ∧ insertEntry later e schedule = front ++ e :: back ∧
      (∀ x ∈ front, x.loaf ∉ later) ∧ (∀ x, back.head? = some x → x.loaf ∈ later) := by
  induction schedule with
  | nil => exact ⟨[], [], rfl, rfl, by simp, by simp⟩
  | cons x rest ih =>
    by_cases hx : x.loaf ∈ later
    · exact ⟨[], x :: rest, rfl, by simp [insertEntry, hx], by simp, by simpa using hx⟩
    · obtain ⟨front, back, hsplit, hinsert, hfront, hback⟩ := ih
      refine ⟨x :: front, back, by rw [hsplit]; rfl, by simp [insertEntry, hx, hinsert], ?_, hback⟩
      exact List.forall_mem_cons.2 ⟨hx, hfront⟩

theorem split_at_first {n : Nat} {numbers : List Nat} (h : n ∈ numbers) :
    ∃ ahead later, numbers = ahead ++ n :: later ∧ n ∉ ahead ∧ (numbers.dropWhile (fun m => m != n)).drop 1 = later := by
  obtain ⟨ahead, later, hsplit, hahead⟩ := List.eq_append_cons_of_mem h
  refine ⟨ahead, later, hsplit, hahead, ?_⟩
  have hpass : ∀ m ∈ ahead, (m != n) = true := fun m hm => by
    simpa using fun he : m = n => hahead (he ▸ hm)
  rw [hsplit, List.dropWhile_append_of_pos hpass, List.dropWhile_cons_of_neg (by simp)]
  rfl

theorem scheduleCuts_empty {l : Lane} {n : Nat} {p : Plan} {s : State} (h : p.cuts = []) : s.scheduleCuts l n p = s :=
  if_pos (by simp [h])

theorem scheduleCuts_of {l : Lane} {n : Nat} {p : Plan} {s : State} (h : p.cuts ≠ []) (hq : s.queued l n ≠ none) :
    s.scheduleCuts l n p = s.modSlicer l fun sl => { sl with
      schedule := insertEntry ((((s.lanes.get l).queue.map LoafRecord.number).dropWhile (fun m => m != n)).drop 1) ⟨n, 0⟩ sl.schedule } := by
  refine if_neg ?_
  simp [h, hq]

/-- The schedule after a delivery, by the place of the record in its queue. -/
theorem scheduleCuts_eq {l : Lane} {n : Nat} {p : Plan} {s : State} (hq : s.queued l n ≠ none) :
    ∃ ahead later front back, s.scheduleCuts l n p = s.modSlicer l (fun sl => { sl with
        schedule := if p.cuts = [] then (s.slicers.get l).schedule else front ++ ⟨n, 0⟩ :: back }) ∧
      (s.slicers.get l).schedule = front ++ back ∧ (s.lanes.get l).queue.map LoafRecord.number = ahead ++ n :: later ∧ n ∉ ahead ∧
      (∀ e ∈ front, e.loaf ∉ later) ∧ (∀ e, back.head? = some e → e.loaf ∈ later) := by
  obtain ⟨r, hr⟩ := Option.ne_none_iff_exists'.1 hq
  obtain ⟨hmem, hnum⟩ := queued_mem hr
  obtain ⟨ahead, later, hsplit, hahead, hdrop⟩ := split_at_first (List.mem_map.2 ⟨r, hmem, hnum⟩)
  obtain ⟨front, back, hschedule, hinsert, hfront, hback⟩ := insertEntry_split later ⟨n, 0⟩ (s.slicers.get l).schedule
  refine ⟨ahead, later, front, back, ?_, hschedule, hsplit, hahead, hfront, hback⟩
  by_cases hcuts : p.cuts = []
  · simp only [scheduleCuts_empty hcuts, hcuts, if_true]
    show s = { s with slicers := s.slicers.set l (s.slicers.get l) }
    rw [PerLane.set_get]
  · simp only [scheduleCuts_of hcuts hq, hdrop, hcuts, if_false, State.modSlicer, hinsert]

/-- What a gauge plan's completion makes of the planner, the station's WEAR_LIMIT and the notices. -/
def State.gaugePlanned (l : Lane) (i : PlanInputs) (s : State) : State :=
  { s with
    planner := s.planner.completed i.plan
    slicers := if i.plan.wearClamped then s.slicers.set l { s.slicers.get l with wearLimit := true } else s.slicers
    notices := if i.plan.wearClamped = true ∧ (s.slicers.get l).wearLimit = false
      then s.notices.place (.bladeWear l i.strokes i.wearRate) else s.notices }

theorem completeGauge_eq (l : Lane) (n : Nat) (c : CurrentPlan) (s : State) : s.completeGauge l n c =
    (if c.withdrawn then s.gaugePlanned l c.inputs
      else (s.gaugePlanned l c.inputs).deliverPlan l n c.inputs.plan c.inputs.wholeOk).startNext := by
  unfold State.completeGauge
  simp only [wearLimit_eq]
  rfl

theorem completeGauge_discarded {l : Lane} {n : Nat} {c : CurrentPlan} {s : State} (h : c.withdrawn = true ∨ s.queued l n = none) :
    s.completeGauge l n c = (s.gaugePlanned l c.inputs).startNext := by
  rw [completeGauge_eq]
  rcases h with hw | hq
  · rw [if_pos hw]
  · have hdiscard : (s.gaugePlanned l c.inputs).deliverPlan l n c.inputs.plan c.inputs.wholeOk = s.gaugePlanned l c.inputs := by
      rw [State.deliverPlan, show (s.gaugePlanned l c.inputs).queued l n = none from hq]
    rw [hdiscard, ite_self]

theorem deliverPlan_of {l : Lane} {n : Nat} {p : Plan} {wholeOk : Bool} {s : State} (hq : s.queued l n ≠ none) :
    s.deliverPlan l n p wholeOk = ((s.updateRecord n (LoafRecord.planned p (p.brings wholeOk))).scheduleCuts l n p).evaluate n := by
  obtain ⟨r, hr⟩ := Option.ne_none_iff_exists'.1 hq
  rw [State.deliverPlan, hr]

theorem completeGauge_delivered {l : Lane} {n : Nat} {c : CurrentPlan} {s : State} (hw : c.withdrawn = false) (hq : s.queued l n ≠ none) :
    let g := s.gaugePlanned l c.inputs
    ∃ schedule ahead later front back,
      s.completeGauge l n c = (((g.modSlicer l fun sl => { sl with schedule := schedule }).updateRecord n
        (LoafRecord.planned c.inputs.plan (c.inputs.plan.brings c.inputs.wholeOk))).evaluate n).startNext ∧
      (s.slicers.get l).schedule = front ++ back ∧ (s.lanes.get l).queue.map LoafRecord.number = ahead ++ n :: later ∧ n ∉ ahead ∧
      (∀ e ∈ front, e.loaf ∉ later) ∧ (∀ e, back.head? = some e → e.loaf ∈ later) ∧
      schedule = if c.inputs.plan.cuts = [] then (s.slicers.get l).schedule else front ++ ⟨n, 0⟩ :: back := by
  intro g
  have hnumber : ∀ r, (LoafRecord.planned c.inputs.plan (c.inputs.plan.brings c.inputs.wholeOk) r).number = r.number := fun r => by
    rw [planned_brings]
  have hplanned : (g.updateRecord n (LoafRecord.planned c.inputs.plan (c.inputs.plan.brings c.inputs.wholeOk))).queued l n ≠ none := by
    rw [updateRecord_queued_same hnumber]
    exact mt Option.map_eq_none_iff.1 hq
  have hschedule : (g.slicers.get l).schedule = (s.slicers.get l).schedule := by
    simp only [g, State.gaugePlanned]
    split
    · rw [PerLane.get_set]
    · rfl
  obtain ⟨ahead, later, front, back, heq, hsched, hsplit, hparts⟩ := scheduleCuts_eq (p := c.inputs.plan) hplanned
  rw [updateRecord_numbers hnumber] at hsplit
  refine ⟨_, ahead, later, front, back, ?_, hschedule.symm.trans hsched, hsplit, hparts.1, hparts.2.1, hparts.2.2, rfl⟩
  have hdelivered : g.deliverPlan l n c.inputs.plan c.inputs.wholeOk = _ := deliverPlan_of hq
  rw [completeGauge_eq, hw, ← hschedule, if_neg Bool.false_ne_true, hdelivered, heq]
  rfl

theorem plan_block (p : Plan) :
     let b2 := fun (n : Nat) => [BitVec.ofNat 8 (n / 256), BitVec.ofNat 8 n]
     let b3 := fun (n : Nat) => [BitVec.ofNat 8 (n / 65536), BitVec.ofNat 8 (n / 256), BitVec.ofNat 8 n]
     p.block = [PlanOutcome.code p.outcome, BitVec.ofNat 8 p.slices] ++ b3 p.pitch ++ b3 p.thickness ++ b2 p.trailingHeel ++
       b2 p.crumbPerCut ++ b2 p.wearTerm ++
       [match p.wearClamped, p.crumbClamped with
         | false, false => (0 : Byte)
         | true, false => 1
         | false, true => 2
         | true, true => 3] ++
       [BitVec.ofNat 8 p.cuts.length] ++ (p.cuts.map b2).flatten := by
  intro b2 b3
  have hmarks : BitVec.ofNat 8 (bit 0 p.wearClamped + bit 1 p.crumbClamped) = match p.wearClamped, p.crumbClamped with
      | false, false => (0 : Byte)
      | true, false => 1
      | false, true => 2
      | true, true => 3 := by
    cases p.wearClamped <;> cases p.crumbClamped <;> rfl
  have htwo : beBytes 2 = b2 := by funext n; exact beBytes_two n
  simp only [Plan.block, hmarks, htwo, beBytes_one, beBytes_three, b3]
  rfl

theorem exec_planCompletion {l : Lane} {n : Nat} {c : CurrentPlan} {s : State} (hc : s.planner.current = some c) (hreq : c.request = .gauge l n) :
    exec .planCompletion s = .next (State.finish s none (s.completeGauge l n c)) := by
  show execPlanCompletion s = _
  simp only [execPlanCompletion, hc, hreq]

theorem exec_trialPlanCompletion {l : Lane} {length height : Nat} {product : ProductIx} {c : CurrentPlan} {h : Handled} {s : State}
    (hc : s.planner.current = some c) (hreq : c.request = .trial l length height product) (hhandled : s.link.handled = some h)
    (hreply : h.reply = none) : exec .trialPlanCompletion s = .next
      ({ s with planner := s.planner.completed c.inputs.plan }.formReply h.request .ok c.inputs.plan.block false).startNext := by
  show execTrialPlanCompletion s = _
  simp only [execTrialPlanCompletion, hc, hreq, State.replyTrial, hhandled, hreply]

theorem completed_eq (p : Plan) (pl : Planner) : pl.completed p =
    { pl with overflow := pl.overflow || p.crumbClamped, count := min 4294967295 (pl.count + 1), current := none } := by
  simp only [Planner.completed, satAdd_eq]
  rfl

/-- Settles O36. -/
theorem plansComplete : Obligations.PlansComplete := by
  unfold Obligations.PlansComplete
  refine ⟨fun c s hc => ?_, fun p => plan_block p⟩
  intro p done
  have hdone : s.planner.completed p = done := completed_eq p s.planner
  refine ⟨fun l n hreq => ?_, fun l length height product h hreq hhandled hreply => ?_⟩
  · intro x worn base
    have hbase : s.gaugePlanned l c.inputs = base := by rw [State.gaugePlanned, hdone]
    rw [exec_planCompletion hc hreq]
    refine ⟨fun h => by rw [completeGauge_discarded h, hbase], fun hw hq => ?_⟩
    obtain ⟨schedule, ahead, later, front, back, heq, hrest⟩ := completeGauge_delivered (c := c) hw hq
    refine ⟨schedule, ahead, later, front, back, ?_, hrest⟩
    rw [heq, hbase, planned_brings]
    rfl
  · rw [exec_trialPlanCompletion hc hreq hhandled hreply, hdone]

end Sys2Proof.Machine
end

section
/-! The line's requests, its safety inputs and the plant's outputs (chapter 9). -/
namespace Sys2Proof.Machine

/-! ### The cause list -/

theorem laneBits_places (p : PerLane Bool) : laneBits p = placesByte [p.a, p.b] := by
  unfold laneBits
  cases p.a <;> cases p.b <;> rfl

theorem headBits_places (p : PerHead Bool) : headBits p = placesByte [p.one, p.two] := by
  unfold headBits
  cases p.one <;> cases p.two <;> rfl

/-- A cause's block stands in the list while the cause is present. -/
def blockIf (present : Bool) (code places jams : Byte) : List (List Byte) := if present then [[code, places, jams]] else []

theorem blockIf_eq (present : Bool) (code : Nat) (places jams : Byte) :
    (if present then [causeBlockOf code places jams] else []) = blockIf present (BitVec.ofNat 8 code) places jams := rfl

theorem blockIf_length {present : Bool} {code places jams : Byte} : (blockIf present code places jams).flatten.length =
    3 * (blockIf present code places jams).length := by
  cases present <;> rfl

theorem presentBlocks_eq (s : State) :
    let c := s.line.causes
    s.presentBlocks = blockIf s.inputs.eStop 1 0 0 ++ blockIf (s.inputs.guards.toList.any id) 2 (placesByte s.inputs.guards.toList) 0 ++
      blockIf c.repeatFault 3 0 0 ++ blockIf (c.slicerJam.a || c.slicerJam.b) 4 (placesByte [c.slicerJam.a, c.slicerJam.b]) 0 ++
      blockIf (c.headJam.one.isSome || c.headJam.two.isSome) 5 (placesByte [c.headJam.one.isSome, c.headJam.two.isSome]) (jamStates c.headJam) ++
      blockIf (c.bagEmpty.one || c.bagEmpty.two) 6 (placesByte [c.bagEmpty.one, c.bagEmpty.two]) 0 ++ blockIf c.commandHalt 7 0 0 ++
      blockIf (s.clipEmptyAt .one || s.clipEmptyAt .two) 8 (placesByte [s.clipEmptyAt .one, s.clipEmptyAt .two]) 0 ++
      blockIf (c.tieFault.one || c.tieFault.two) 9 (placesByte [c.tieFault.one, c.tieFault.two]) 0 ++
      blockIf (c.watchStop.toList.any id) 10 (placesByte c.watchStop.toList) 0 ++ blockIf c.commandStop 11 0 0 := by
  simp only [State.presentBlocks, blockIf_eq, fourBits_places, laneBits_places, headBits_places]
  rfl

theorem presentBlocks_bytes (s : State) : s.presentBlocks.flatten.length = 3 * s.presentBlocks.length := by
  rw [presentBlocks_eq]
  simp only [List.flatten_append, List.length_append, blockIf_length]
  omega

theorem clipEmptyAt_eq (h : Head) (s : State) : s.clipEmptyAt h = decide (s.router.active.get h ≠ .none ∧ (s.tiers.get h).magazine = 0) := by
  rw [Bool.eq_iff_iff, clipEmptyAt_iff, decide_eq_true_iff]

theorem latchedBlock_some (c : Cause) : latchedBlock (some c) = match c with
    | .eStop => [1, 0, 0]
    | .guardOpen g => [2, BitVec.ofNat 8 (2 ^ g.val), 0]
    | .repeatFault => [3, 0, 0]
    | .slicerJam l => [4, Lane.code l + 1, 0]
    | .headJam h st => [5, Head.code h, if h = .one then HeadStep.code st else 16 * HeadStep.code st]
    | .bagEmpty h => [6, Head.code h, 0]
    | .commandHalt => [7, 0, 0]
    | .clipEmpty h => [8, Head.code h, 0]
    | .tieFault h => [9, Head.code h, 0]
    | .watchStop e => [10, BitVec.ofNat 8 (2 ^ e.val), 0]
    | .commandStop => [11, 0, 0] := by
  cases c <;> simp [latchedBlock, Cause.block, causeBlockOf, Cause.priority, fourBits_onlyFour, headBits_onlyHead, laneBits_onlyLane, jamStates_only]

theorem latchedBlock_length (c : Option Cause) : (latchedBlock c).length = 3 := by
  cases c with
  | none => rfl
  | some c => cases c <;> rfl

theorem timerCode_length (t : Option Nat) : (timerCode t).length = 2 := by
  cases t <;> simp [timerCode]

theorem statusReport_length (s : State) : s.statusReport.length = 14 + (1 + 3 * s.presentBlocks.length) := by
  simp only [State.statusReport, State.causeList, List.length_append, List.length_cons, List.length_nil, latchedBlock_length,
    timerCode_length, presentBlocks_bytes]
  omega

theorem laneEmpty_eq (l : Lane) (s : State) : s.laneEmpty l = decide ((s.lanes.get l).queue = [] ∧ (s.lanes.get l).window = .clear) := by
  unfold State.laneEmpty Window.isOpen
  cases (s.lanes.get l).queue <;> cases (s.lanes.get l).window <;> simp

/-! ### STOP -/

theorem doStop_of {form : Byte} {c : Cause} (h : stopCauseOf form = some c) (s : State) :
    doStop form s = served (State.finish s none (s.raise c))
      [LineState.code s.line.state, LineState.code (State.finish s none (s.raise c)).line.state] := by
  simp only [doStop, h]

/-! ### The statement -/

theorem conveyorRuns_iff (l : Lane) (s : State) : s.conveyorRuns l = true ↔
    (s.line.state = .running ∨ s.line.state = .draining) ∧ (s.lanes.get l).gateHeld = none := by
  rw [State.conveyorRuns, Bool.and_eq_true, moving_iff, State.laneHold]
  cases (s.lanes.get l).gateHeld <;> simp

theorem bladeEnable_iff (s : State) : s.bladeEnable = true ↔ s.line.state ≠ .halted := by simp [State.bladeEnable]

theorem headOutputs_iff (h : Head) (s : State) :
    let x := s.heads.get h
    let o := s.headOutputs h
    let moves := s.line.state = .running ∨ s.line.state = .draining
    (o.bagFeed = true ↔ moves ∧ x.feedPulse ≠ none) ∧
    (o.bagAir = true ↔ moves ∧ (x.step = .opening ∨ x.step = .loading)) ∧
    (o.loader = true ↔ moves ∧ x.step = .loading) ∧
    (o.gather = true ↔ moves ∧ (x.step = .gathering ∨ x.step = .tying)) ∧
    (o.discharge = true ↔ moves ∧ x.step = .discharging) ∧
    (o.divert = true ↔ moves ∧ x.step = .discharging ∧ ∃ r, x.record = some r ∧ r.disposition ≠ none) ∧
    (s.tieOutput h = true ↔ moves ∧ (s.tiers.get h).tie ≠ none) := by
  intro x o moves
  have hon : s.headEnable = true ↔ moves := moving_iff s
  simp only [o, State.headOutputs, State.tieOutput, Bool.and_eq_true, Bool.or_eq_true, decide_eq_true_iff, hon, Option.isSome_iff_ne_none,
    Option.any_eq_true, and_assoc, true_and, iff_self, x]

/-- Settles O59. -/
theorem lineRequestsAndSafetyInputs : Obligations.LineRequestsAndSafetyInputs := by
  unfold Obligations.LineRequestsAndSafetyInputs
  refine ⟨fun s => ⟨fun l => conveyorRuns_iff l s, fun l => by simp [State.holdSources], ?_, moving_iff s⟩, fun s => ⟨fun h => headOutputs_iff h s, fun l => ?_⟩,
    fun tag form s hfree => ⟨fun h => ?_, fun h => ?_, fun h0 h1 => ?_⟩,
    fun tag s hfree => ⟨accepts_of_served doReadLineStatus rfl hfree rfl, statusReport_length s⟩, fun s => ?_, fun g s => ⟨fun h => ?_, fun h => ?_, rfl, rfl, rfl⟩⟩
  · rw [bladeEnable_iff]; cases s.line.state <;> simp
  · intro blade c
    refine ⟨?_, ?_, ?_, ?_, ?_, Iff.rfl⟩
    · rw [State.strokeOutput, Bool.and_eq_true, bladeEnable_iff]
      cases hb : (s.slicers.get l).blade <;> simp [blade, hb]
    · rw [State.homingOutput, Bool.and_eq_true, bladeEnable_iff]
      cases hb : (s.slicers.get l).blade <;> simp [blade, hb]
    · simp [Crumb.knives, c]
    · simp [Crumb.vacuum, c]
    · simp [State.diverterOutput, Option.isSome_iff_ne_none]
  · subst h; exact accepts_of_served (doStop 0) rfl hfree (doStop_of rfl s)
  · subst h; exact accepts_of_served (doStop 1) rfl hfree (doStop_of rfl s)
  · refine rejects_of_refuse (doStop form) rfl hfree ?_
    simp only [doStop, stopCauseOf, if_neg h0, if_neg h1]
  · intro c b2 yes bits empty jam block blocks latched lane
    have hjam : jamStates c.headJam = BitVec.ofNat 8 (jam c.headJam.one + 16 * jam c.headJam.two) := by
      unfold jamStates
      cases c.headJam.one <;> cases c.headJam.two <;> rfl
    have hblocks : s.presentBlocks = blocks := by
      rw [presentBlocks_eq, clipEmptyAt_eq, clipEmptyAt_eq, hjam]
      rfl
    have hlatched : latchedBlock s.line.latched = latched := by
      simp only [latched]
      cases s.line.latched with
      | none => rfl
      | some x => exact latchedBlock_some x
    refine ⟨by rw [State.causeList, hblocks], ?_⟩
    have hlane : ∀ l, [boolCode (s.laneEmpty l), boolCode (s.conveyorRuns l)] = lane l := fun l => by
      rw [laneEmpty_eq]; rfl
    have hrecord : ∀ o : Option LoafRecord, boolCode o.isSome = yes (decide (o ≠ none)) := fun o => by
      cases o <;> rfl
    have htimer : timerCode s.line.window = match s.line.window with
        | none => [0xFF, 0xFF]
        | some left => b2 left := by
      cases s.line.window with
      | none => rfl
      | some left => exact beBytes_two left
    simp only [State.statusReport, hlatched, htimer, ← hlane, hrecord, fourBits_places, List.append_assoc]
    rfl
  · show execEStopAsserted s = _
    rw [execEStopAsserted, h]; rfl
  · show execGuardOpens g s = _
    rw [execGuardOpens, h]; rfl

end Sys2Proof.Machine
end

section
/-! Shift Totals: the close of a shift and the reads of lanes, loaves and totals (chapters 2 and 10). -/
namespace Sys2Proof.Machine

/-! ### The close of a shift at a full figure (R164, R166) -/

/-- A product's figures at the start of a shift into which records are carried. -/
def freshFigures (carried : Nat) : ProductTotals := ⟨0, carried, 0, 0, 0, 0, 0, 0, 0, 0, 0, 0, 0, 0⟩

theorem closeShift_products (p : ProductIx) (automatic : Bool) (s : State) :
    (s.closeShift automatic).totals.products[p] = freshFigures (s.inFlight p) := by
  simp [State.closeShift, State.notify, freshFigures, ProductTotals.zero]

/-- The state `u` with the totals and notices of a shift closed, and a product's figures counted in the new shift. -/
def State.countedIn (u shut : State) (p : ProductIx) (figures : ProductTotals) : State :=
  { u with totals := { shut.totals with products := shut.totals.products.set p figures }, notices := shut.notices }

theorem countLoaf_full {p : ProductIx} {atLimit : ProductTotals → Bool} {bump : ProductTotals → ProductTotals} {s u : State}
    (hheld : u.held = s.held) (htotals : u.totals = s.totals) (hnotices : u.notices = s.notices)
    (hfull : atLimit s.totals.products[p] = true) :
    u.countLoaf p atLimit bump = u.countedIn (s.closeShift true) p (bump (freshFigures (s.inFlight p))) := by
  have hshut : u.closeShift true = { u with totals := (s.closeShift true).totals, notices := (s.closeShift true).notices } := by
    simp only [State.closeShift, State.notify, State.inFlight, hheld, htotals, hnotices]
  have hproducts : (u.closeShift true).totals.products[p] = freshFigures (s.inFlight p) := by
    rw [hshut]; exact closeShift_products p true s
  rw [State.countLoaf, htotals, if_pos hfull, State.modProductTotals, hproducts, hshut]
  rfl

theorem full32_of_eq {n : Nat} (h : n = 4294967295) : full32 n = true := by subst h; rfl

/-- The figures of a new shift in which one loaf of the record's kind is counted. -/
def figuresWith (carried : Nat) (r : LoafRecord) : ProductTotals :=
  ⟨0, carried, 0, 0, 0, 0, 0, 0, 0, 0, 0, 0, if r.marked then 1 else 0, 0⟩

theorem countMarked_of_zero (x : ProductTotals) (h : x.marked = 0) (marked : Bool) :
    x.countMarked marked = { x with marked := if marked then 1 else 0 } := by
  obtain ⟨_, _, _, _, _, _, _, _, _, _, _, _, m, _⟩ := x
  subst h
  cases marked <;> rfl

theorem bumpRejected_marked (x : ProductTotals) (reason : Reason) : (x.bumpRejected reason).marked = x.marked := by
  cases reason <;> rfl

section
variable {r : LoafRecord} {s u : State}

theorem countRejected_full {reason : Reason} (hheld : u.held = s.held) (htotals : u.totals = s.totals) (hnotices : u.notices = s.notices)
    (hfull : s.totals.products[r.product].rejected reason = 4294967295) :
    u.countRejected r reason = u.countedIn (s.closeShift true) r.product ((figuresWith (s.inFlight r.product) r).bumpRejected reason) := by
  rw [State.countRejected, countLoaf_full hheld htotals hnotices (full32_of_eq hfull), countMarked_of_zero _ (bumpRejected_marked _ _)]
  cases reason <;> rfl

theorem countCleared_full (hfull : s.totals.products[r.product].cleared = 4294967295) :
    s.countCleared r = s.countedIn (s.closeShift true) r.product { figuresWith (s.inFlight r.product) r with cleared := 1 } := by
  rw [State.countCleared, countLoaf_full rfl rfl rfl (full32_of_eq hfull), countMarked_of_zero _ rfl]
  rfl

theorem countBagged_full (hheld : u.held = s.held) (htotals : u.totals = s.totals) (hnotices : u.notices = s.notices)
    (hfull : s.totals.products[r.product].bagged = 4294967295 ∨
      (s.totals.products[r.product].baggedWhole = 4294967295 ∧ r.plan.map Plan.outcome = some .noSpan) ∨
      (s.totals.products[r.product].baggedUnchecked = 4294967295 ∧ r.tie = some .unchecked)) :
    u.countBagged r = u.countedIn (s.closeShift true) r.product { figuresWith (s.inFlight r.product) r with
      bagged := 1
      baggedWhole := if decide (r.plan.map Plan.outcome = some .noSpan) then 1 else 0
      baggedUnchecked := if decide (r.tie = some .unchecked) then 1 else 0 } := by
  have hlimit : (full32 s.totals.products[r.product].bagged || (r.whole && full32 s.totals.products[r.product].baggedWhole) ||
      (r.tiedUnchecked && full32 s.totals.products[r.product].baggedUnchecked)) = true := by
    rw [Bool.or_eq_true, Bool.or_eq_true, or_assoc]
    rcases hfull with h | ⟨h, hp⟩ | ⟨h, hp⟩
    · exact .inl (full32_of_eq h)
    · exact .inr (.inl (by rw [full32_of_eq h, LoafRecord.whole, decide_eq_true hp]; rfl))
    · exact .inr (.inr (by rw [full32_of_eq h, LoafRecord.tiedUnchecked, decide_eq_true hp]; rfl))
  rw [State.countBagged, countLoaf_full hheld htotals hnotices hlimit, countMarked_of_zero _ rfl]
  simp only [freshFigures, figuresWith, Nat.zero_add]
  rfl

end

theorem rejectGateEvent_of {l : Lane} {n : Nat} {s : State} {r : LoafRecord} {reason : Reason} (hq : s.queued l n = some r)
    (hd : r.disposition = some reason) : s.rejectGateEvent l n =
      ((((s.modLane l fun q => { q with diverter := some 300 }).countRejected r reason).dequeue l n).modSlicer l (Slicer.dropCuts n)).report
        r .rejectGate none none := by
  unfold State.rejectGateEvent
  rw [hq]
  simp only [hd]
  rfl

theorem held_modLane {l : Lane} {f : LaneState → LaneState} {s : State} (h : (f (s.lanes.get l)).queue = (s.lanes.get l).queue) :
    (s.modLane l f).held = s.held := by
  cases l
  · exact congrArg (fun q => q ++ s.lanes.b.queue ++ s.heads.one.record.toList ++ s.heads.two.record.toList) h
  · exact congrArg (fun q => s.lanes.a.queue ++ q ++ s.heads.one.record.toList ++ s.heads.two.record.toList) h

/-! ### The place of a held record (R41) -/

theorem findIdx_of_split {p : LoafRecord → Bool} {ahead behind : List LoafRecord} {r : LoafRecord} (hahead : ∀ x ∈ ahead, p x = false)
    (hr : p r = true) : (ahead ++ r :: behind).findIdx p = ahead.length := by
  induction ahead with
  | nil => simp [List.findIdx_cons, hr]
  | cons x xs ih =>
    have hx : p x = false := hahead x List.mem_cons_self
    rw [List.cons_append, List.findIdx_cons, hx, ih fun y hy => hahead y (List.mem_cons_of_mem x hy)]
    rfl

/-- The record stands first of its number in this queue. -/
theorem find?_number {n : Nat} {q : List LoafRecord} {r : LoafRecord} (h : q.find? (fun x => x.number == n) = some r) :
    ∃ ahead behind, q = ahead ++ r :: behind ∧ (∀ x ∈ ahead, x.number ≠ n) ∧ q.any (fun x => x.number == n) = true ∧
      q.findIdx (fun x => x.number == n) = ahead.length := by
  obtain ⟨hr, ahead, behind, hsplit, hahead⟩ := List.find?_eq_some_iff_append.1 h
  have hno : ∀ x ∈ ahead, (x.number == n) = false := fun x hx => by simpa using hahead x hx
  refine ⟨ahead, behind, hsplit, fun x hx => by simpa using hahead x hx, List.any_eq_true.2 ⟨r, by rw [hsplit]; simp, hr⟩, ?_⟩
  rw [hsplit]
  exact findIdx_of_split hno hr

theorem find?_number_none {n : Nat} {q : List LoafRecord} (h : q.find? (fun x => x.number == n) = none) :
    (∀ x ∈ q, x.number ≠ n) ∧ q.any (fun x => x.number == n) = false := by
  have hno : ∀ x ∈ q, ¬ (x.number == n) = true := List.find?_eq_none.1 h
  exact ⟨fun x hx => by simpa using hno x hx, List.any_eq_false.2 hno⟩

theorem head_holds {n : Nat} {o : Option LoafRecord} {r : LoafRecord} (h : o.toList.find? (fun x => x.number == n) = some r) : o = some r := by
  simpa using List.mem_of_find?_eq_some h

theorem whereHeld_cases {n : Nat} {s : State} {r : LoafRecord} (h : s.findRecord n = some r) :
    let absent := fun (q : List LoafRecord) => ∀ x ∈ q, x.number ≠ n
    let stands := fun (q ahead : List LoafRecord) => absent ahead ∧ ∃ behind, q = ahead ++ r :: behind
    (∃ ahead, stands s.lanes.a.queue ahead ∧ s.whereHeld n = [0, BitVec.ofNat 8 ahead.length]) ∨
    (absent s.lanes.a.queue ∧ ∃ ahead, stands s.lanes.b.queue ahead ∧ s.whereHeld n = [1, BitVec.ofNat 8 ahead.length]) ∨
    (absent s.lanes.a.queue ∧ absent s.lanes.b.queue ∧ s.heads.one.record = some r ∧ s.whereHeld n = [2, 0]) ∨
    (absent s.lanes.a.queue ∧ absent s.lanes.b.queue ∧ (∀ x, s.heads.one.record = some x → x.number ≠ n) ∧
      s.heads.two.record = some r ∧ s.whereHeld n = [3, 0]) := by
  intro absent stands
  unfold State.findRecord State.held at h
  unfold State.whereHeld
  rw [List.find?_append, List.find?_append, List.find?_append] at h
  cases ha : s.lanes.a.queue.find? (fun x => x.number == n) with
  | some x =>
    rw [ha] at h; cases h
    obtain ⟨ahead, behind, hsplit, hahead, hany, hidx⟩ := find?_number ha
    exact .inl ⟨ahead, ⟨hahead, behind, hsplit⟩, by simp only [hany, hidx, if_true, beBytes_one]⟩
  | none =>
    obtain ⟨hnota, hanya⟩ := find?_number_none ha
    right
    cases hb : s.lanes.b.queue.find? (fun x => x.number == n) with
    | some x =>
      rw [ha, hb] at h; cases h
      obtain ⟨ahead, behind, hsplit, hahead, hany, hidx⟩ := find?_number hb
      exact .inl ⟨hnota, ahead, ⟨hahead, behind, hsplit⟩, by simp [hanya, hany, hidx]⟩
    | none =>
      obtain ⟨hnotb, hanyb⟩ := find?_number_none hb
      right
      rw [ha, hb] at h
      simp only [hanya, hanyb, Bool.false_eq_true, if_false]
      cases hone : s.heads.one.record with
      | none =>
        rw [hone] at h
        exact .inr ⟨hnota, hnotb, by simp, head_holds h, rfl⟩
      | some x =>
        rw [hone] at h
        by_cases hx : x.number = n
        · simp only [Option.toList_some, List.find?_cons, hx, beq_self_eq_true, Option.none_or, Option.some_or, Option.some.injEq] at h
          exact .inl ⟨hnota, hnotb, by rw [h], by simp [hx]⟩
        · simp only [Option.toList_some, List.find?_cons, beq_eq_false_iff_ne.2 hx, List.find?_nil, Option.none_or] at h
          exact .inr ⟨hnota, hnotb, by simpa using hx, head_holds h, by simp [hx]⟩

/-! ### The statement -/

theorem fourFrom_mem (p q : ProductIx) : q ∈ fourFrom p ↔ p.val ≤ q.val ∧ q.val < p.val + 4 := by
  simp [fourFrom, List.mem_finRange]

theorem fourFrom_rises (p : ProductIx) : (fourFrom p).Pairwise (fun a b => a.val < b.val) := by
  revert p; decide

theorem fourFrom_length (p : ProductIx) : (fourFrom p).length = min 4 (16 - p.val) := by
  revert p; decide

theorem carriedOutBytes_eq (s : State) : s.carriedOutBytes = ((Vector.ofFn fun p : Fin 16 => s.inFlight p).toList.map (beBytes 1)).flatten := by
  rw [State.carriedOutBytes, Vector.toList_ofFn, List.ofFn_eq_map, List.map_map]
  rfl

theorem laneHeader_bytes (l : Lane) (s : State) :
    let q := s.lanes.get l
    let h := s.holdSources l
    let b2 := fun (n : Nat) => [BitVec.ofNat 8 (n / 256), BitVec.ofNat 8 n]
    let b4 := fun (n : Nat) =>
      [BitVec.ofNat 8 (n / 16777216), BitVec.ofNat 8 (n / 65536), BitVec.ofNat 8 (n / 256), BitVec.ofNat 8 n]
    s.laneHeader l = b4 q.position.toNat ++ [BitVec.ofNat 8 q.queue.length] ++
      (match q.window with
        | .clear => [0, 0, 0, 0, 0, 0xFF]
        | .span lead _ product => [1] ++ b4 lead.toNat ++ [productCode product]
        | .void => [2, 0, 0, 0, 0, 0xFF]) ++
      [BitVec.ofNat 8 (q.queue.countP fun r => decide (r.stage = .waiting))] ++
      (match q.gateHeld with
        | none => [0, 0]
        | some n => b2 n) ++
      [boolCode (decide (q.gateHeld ≠ none)), placesByte [h.line, h.product, h.fill, h.laneHold, h.crumb], boolCode q.holdInEffect] := by
  intro q h b2 b4
  have hsources : h.byte = placesByte [h.line, h.product, h.fill, h.laneHold, h.crumb] := by
    obtain ⟨a, b, c, d, e⟩ := h
    revert a b c d e; decide
  unfold State.laneHeader
  simp only [beBytes_one, beBytes_two, beBytes_four, ← hsources, State.laneHold]
  cases (s.lanes.get l).window <;> cases (s.lanes.get l).gateHeld <;> simp [q] <;> rfl

theorem record_bytes (r : LoafRecord) :
     let b2 := fun (n : Nat) => [BitVec.ofNat 8 (n / 256), BitVec.ofNat 8 n]
     let b4 := fun (n : Nat) =>
       [BitVec.ofNat 8 (n / 16777216), BitVec.ofNat 8 (n / 65536), BitVec.ofNat 8 (n / 256), BitVec.ofNat 8 n]
     let f := r.flags
     let plan := match r.plan with
       | none => [0xFF, 0xFF]
       | some x => [PlanOutcome.code x.outcome, BitVec.ofNat 8 x.slices]
     r.bytes = b2 r.number ++ [BitVec.ofNat 8 r.product.val] ++ b4 r.lead.toNat ++ b2 r.length ++ b2 r.height ++ b2 r.gapBefore ++
       [placesByte [f.closeGap, f.overlong, f.lateCut, f.miscut, f.uncheckedTie], Stage.code r.stage] ++ plan ++
       [BitVec.ofNat 8 r.cutsDone, dispositionCode r.disposition, boolCode r.marked] := by
  intro b2 b4 f plan
  have hflags : f.byte = placesByte [f.closeGap, f.overlong, f.lateCut, f.miscut, f.uncheckedTie] := flags_byte f
  unfold LoafRecord.bytes
  cases hp : r.plan <;> simp [f, ← hflags, plan, hp, productCode, b2, b4]

theorem record_bytes_length (r : LoafRecord) : r.bytes.length = 20 := by
  rw [record_bytes]
  cases r.plan <;> rfl

theorem laneHeader_length (l : Lane) (s : State) : (s.laneHeader l).length = 17 := by
  rw [laneHeader_bytes]
  cases (s.lanes.get l).window <;> cases (s.lanes.get l).gateHeld <;> rfl

theorem productOrNoneOf_large {b : Byte} (h : 15 < b.toNat) (hb : b ≠ 0xFF) : productOrNoneOf b = none := by
  rw [productOrNoneOf, if_neg hb, productOf, finOf_eq_none h]
  rfl

theorem productOrNoneOf_of {b : Byte} {p : ProductIx} (h : b.toNat = p.val) : productOrNoneOf b = some (some p) := by
  have hb : b ≠ 0xFF := by
    rintro rfl
    have hp : p.val < 16 := p.isLt
    have h255 : (0xFF : Byte).toNat = 255 := rfl
    omega
  rw [productOrNoneOf, if_neg hb, productOf, finOf_of_eq h]
  rfl

theorem doReadSnapshot_of {b : Byte} {p : Option ProductIx} {x : Snapshot} {s : State} (hb : productOrNoneOf b = some p)
    (hx : s.totals.snapshot = some x) : doReadSnapshot b s = served s (beBytes 2 x.shift ++ [boolCode x.automatic] ++ x.part p) := by
  simp only [doReadSnapshot, hb, hx]

theorem doReadSnapshot_absent {b : Byte} {s : State} (hb : b.toNat ≤ 15 ∨ b = 0xFF) (hx : s.totals.snapshot = none) :
    doReadSnapshot b s = refuse s .notPresent := by
  have hpart : ∃ p, productOrNoneOf b = some p := by
    rcases hb with h | rfl
    · exact ⟨_, productOrNoneOf_of (p := ⟨b.toNat, by omega⟩) rfl⟩
    · exact ⟨none, rfl⟩
  obtain ⟨p, hp⟩ := hpart
  simp only [doReadSnapshot, hp, hx]

theorem doReadLoaf_of {n : Half} {r : LoafRecord} {s : State} (hn : n ≠ 0) (hr : s.findRecord n.toNat = some r) :
    doReadLoaf n s = served s (s.whereHeld n.toNat ++ r.block ++ (match r.plan with
      | none => [0]
      | some p => 1 :: p.block)) := by
  unfold doReadLoaf
  rw [if_neg hn]
  cases hp : r.plan <;> simp only [hr, hp]

theorem doReadLoaf_unknown {n : Half} {s : State} (hn : n ≠ 0) (hr : s.findRecord n.toNat = none) : doReadLoaf n s = refuse s .notPresent := by
  unfold doReadLoaf
  rw [if_neg hn]
  simp only [hr]

/-- Settles O60. -/
theorem shiftsCloseAndReadsReport : Obligations.ShiftsCloseAndReadsReport := by
  unfold Obligations.ShiftsCloseAndReadsReport
  refine ⟨fun tag s hfree => ?_, fun l h r s => ?_, fun tag b c l n p s hfree => ?_, fun p => ⟨fourFrom_mem p, fourFrom_rises p, fourFrom_length p⟩,
    laneHeader_bytes, fun r => ⟨record_bytes r, ?_⟩, fun index last t x y => ?_⟩
  · intro t new carried closed
    refine ⟨accepts_of_served doCloseShift rfl hfree ?_, fun p hp => ?_⟩
    · rw [doCloseShift, carriedOutBytes_eq]; rfl
    · have hcount : s.countAdmitted p = s.countedIn (s.closeShift true) p { freshFigures (s.inFlight p) with admitted := 1 } :=
        countLoaf_full rfl rfl rfl (full32_of_eq hp)
      rw [hcount]
      refine ⟨rfl, by simp [State.countedIn], ?_, rfl⟩
      simp [State.countedIn, freshFigures, carried, State.inFlight]
  · intro t p new carried shut one shows fresh figure rejected bagged
    have hcarried : carried[p] = s.inFlight p := by simp [carried, State.inFlight]
    have hfresh : fresh = figuresWith (s.inFlight p) r := by rw [figuresWith, ← hcarried]
    have hrejected (reason : Reason) : (figuresWith (s.inFlight p) r).bumpRejected reason = rejected reason := by
      rw [← hfresh]; cases reason <;> rfl
    have hfigure (reason : Reason) : t.products[p].rejected reason = figure reason := by cases reason <;> rfl
    have hcountRejected (reason : Reason) (hfull : figure reason = 4294967295) (u : State) (hheld : u.held = s.held)
        (htotals : u.totals = s.totals) (hnotices : u.notices = s.notices) : u.countRejected r reason = shows (rejected reason) u := by
      rw [countRejected_full hheld htotals hnotices ((hfigure reason).trans hfull), hrejected]; rfl
    have hcountBagged (hfull : t.products[p].bagged = 4294967295 ∨ (t.products[p].baggedWhole = 4294967295 ∧ r.plan.map Plan.outcome = some .noSpan) ∨
        (t.products[p].baggedUnchecked = 4294967295 ∧ r.tie = some .unchecked)) (u : State) (hheld : u.held = s.held)
        (htotals : u.totals = s.totals) (hnotices : u.notices = s.notices) : u.countBagged r = shows bagged u := by
      rw [countBagged_full hheld htotals hnotices hfull, ← hfresh]; rfl
    refine ⟨fun hr => ?_, fun hc => ?_, fun reason hc hd => ⟨hcountRejected reason hc s rfl rfl rfl, fun hq hruns hblade hgate => ?_⟩,
      fun hc => hcountBagged hc s rfl rfl rfl, ?_⟩
    · rw [hcarried, State.inFlight, Nat.one_le_iff_ne_zero, ← Nat.pos_iff_ne_zero, List.countP_pos_iff]
      exact ⟨r, hr, by simp [p]⟩
    · rw [countCleared_full hc, ← hfresh]; rfl
    · intro q point
      refine congrArg Host.Outcome.next ((reach_of_due hq hruns (by simp [Positional.due, hblade, hgate])).trans ?_)
      have hheld (d : Quad) : ((s.advanceTo l d).modLane l fun q => { q with diverter := some 300 }).held = s.held :=
        (held_modLane rfl).trans (held_modLane rfl)
      rw [State.positionalEvent, rejectGateEvent_of ((queued_advanceTo l l _ _ s).trans hq) hd, hcountRejected reason hc _ (hheld _) rfl rfl]
      simp only [State.dequeue, State.modLane, State.advanceTo, shows, PerLane.get_set, PerLane.set_set]
      rfl
    · intro x src idle hstep hr hline hclear empties answers
      have htaken : exec (.dischargeClear h .rises) s = .next (State.finish s none
          ((s.setHeadInputs h fun i => { i with dischargeClear := true }).takeDischargeClear h)) :=
        if_pos ((completes_rises _ _ _ _).mpr ⟨hclear, hstep, hline⟩)
      let seen := s.setHeadInputs h fun i => { i with dischargeClear := true }
      have hfreed (figures : ProductTotals) : (shows figures seen).freeHead h r =
          (let freed := (shows figures idle).report r .head (some h) r.tie
           (if empties then freed.raise (.clipEmpty h) else freed).attemptReleases) := freeHead_eq h r _
      refine ⟨fun reason hd hfull => ?_, fun hd hfull => ?_⟩
      · refine htaken.trans ?_
        rw [takeDischargeClear_rejected (r := r) (by exact hr) hd, hcountRejected reason hfull seen rfl rfl rfl, hfreed]
      · refine htaken.trans ?_
        rw [takeDischargeClear_bagged (r := r) (by exact hr) hd, hcountBagged hfull seen rfl rfl rfl, hfreed]
  · refine ⟨fun hb hc => ⟨laneHeader_length l s, ?_⟩, fun r hr hn => ⟨?_, s.whereHeld n.toNat, ?_, whereHeld_cases hr⟩, fun hb hc => ?_, fun hb => ?_, ?_,
      fun hn hr => ?_, fun hb => ?_, ?_, fun x hx => ⟨fun hb => ?_, ?_⟩, fun hx hb => ?_, fun hb => ⟨?_, fun hne => ?_⟩⟩
    · subst hb
      refine accepts_of_served (doReadQueue _ c) rfl hfree ?_
      rw [doReadQueue, onLane_code]
      exact if_pos hc
    · rw [LoafRecord.block, List.length_append, record_bytes_length]; rfl
    · exact accepts_of_served (doReadLoaf n) rfl hfree (doReadLoaf_of hn hr)
    · subst hb
      refine rejects_of_refuse (doReadQueue _ c) rfl hfree ?_
      rw [doReadQueue, onLane_code]
      exact if_neg (by omega)
    · exact rejects_of_laneByte rfl hb hfree
    · exact rejects_of_refuse (doReadLoaf 0) rfl hfree rfl
    · exact rejects_of_refuse (doReadLoaf n) rfl hfree (doReadLoaf_unknown hn hr)
    · exact accepts_of_served (doReadTotals b) rfl hfree (onProduct_of_toNat hb s _)
    · refine accepts_of_served doReadLaneTotals rfl hfree ?_
      simp only [doReadLaneTotals, laneAndHeadBlocks, List.append_assoc]
    · exact accepts_of_served (doReadSnapshot b) rfl hfree (doReadSnapshot_of (productOrNoneOf_of hb) hx)
    · refine accepts_of_served (doReadSnapshot 0xFF) rfl hfree ((doReadSnapshot_of (p := none) rfl hx).trans ?_)
      simp only [Snapshot.part, laneAndHeadBlocks]
    · exact rejects_of_refuse (doReadSnapshot b) rfl hfree (doReadSnapshot_absent hb hx)
    · exact rejects_of_refuse (doReadTotals b) rfl hfree (onProduct_of_large hb s _)
    · refine rejects_of_refuse (doReadSnapshot b) rfl hfree ?_
      simp only [doReadSnapshot, productOrNoneOf_large hb hne]
  · rw [LoafRecord.block, fourBits_places]; rfl
  · intro b4
    refine ⟨?_, ?_, ?_⟩
    · simp [ProductTotals.block, b4]
    · simp [LaneTotals.block, b4, beBytes]
    · simp [HeadTotals.block, b4]

end Sys2Proof.Machine
end

section
/-! START (O56), with the homing of the blades, the crumb controllers' entry into RUNNING and what an attempt of releases
leaves of the busy heads. -/
namespace Sys2Proof.Machine

/-! ### The blades homed (R71) -/

/-- A HOMING blade starts its move, or is HOME at once where blade-home is asserted. -/
def Slicer.homed (seen : Bool) (x : Slicer) : Slicer :=
  match x.blade with
  | .homing _ => if seen then { x with blade := .home, timer := none } else { x with blade := .homing true, timer := some 150 }
  | .home => x
  | .stroking _ => x

/-- No pending cut waits for a blade that is HOMING under an asserted blade-home. -/
def Slicer.FreeToHome (seen : Bool) (x : Slicer) : Prop := ∀ m, x.blade = .homing m → seen = true → x.pending = none

theorem startHoming_eq {l : Lane} {s : State} (h : (s.slicers.get l).FreeToHome (s.inputs.bladeHome.get l)) :
    s.startHoming l = { s with slicers := s.slicers.set l ((s.slicers.get l).homed (s.inputs.bladeHome.get l)) } := by
  have hkept : s = { s with slicers := s.slicers.set l (s.slicers.get l) } := by rw [PerLane.set_get]
  cases hb : (s.slicers.get l).blade with
  | homing m =>
    simp only [State.startHoming, Slicer.homed, hb]
    cases hseen : s.inputs.bladeHome.get l with
    | true => exact freeBlade_none (h m hb hseen)
    | false => rfl
  | home => simp only [State.startHoming, Slicer.homed, hb]; exact hkept
  | stroking c => simp only [State.startHoming, Slicer.homed, hb]; exact hkept

theorem homed_home {x : Slicer} (h : x.blade = .home) (seen : Bool) : x.homed seen = x := by simp only [Slicer.homed, h]

theorem homed_moves {x : Slicer} {m : Bool} (h : x.blade = .homing m) : x.homed false = { x with blade := .homing true, timer := some 150 } := by
  simp only [Slicer.homed, h]; rfl

theorem homed_at_once {x : Slicer} {m : Bool} (h : x.blade = .homing m) : x.homed true = { x with blade := .home, timer := none } := by
  simp only [Slicer.homed, h]; rfl

theorem startHoming_other {l k : Lane} (h : l ≠ k) (s : State) : (s.startHoming k).slicers.get l = s.slicers.get l := by
  unfold State.startHoming
  split
  · split
    · cases hp : (s.slicers.get k).pending with
      | none => rw [freeBlade_none hp]; exact PerLane.get_set_ne _ _ h
      | some c =>
        rw [freeBlade_some hp]
        exact PerLane.get_set_ne _ _ h
    · exact PerLane.get_set_ne _ _ h
  · rfl
  · rfl

theorem homeBlades_slicer {l : Lane} {s : State} (h : (s.slicers.get l).FreeToHome (s.inputs.bladeHome.get l)) :
    s.homeBlades.slicers.get l = (s.slicers.get l).homed (s.inputs.bladeHome.get l) := by
  unfold State.homeBlades
  cases l with
  | a => rw [startHoming_other (by decide), startHoming_eq h, PerLane.get_set]
  | b =>
    have hother : (s.startHoming .a).slicers.get .b = s.slicers.get .b := startHoming_other (by decide) s
    have hinputs : (s.startHoming .a).inputs = s.inputs := by simp
    rw [startHoming_eq (by rw [hother, hinputs]; exact h), PerLane.get_set, hother, hinputs]

/-! ### The crumb controllers' entry into RUNNING (R142, R143) -/

theorem abortManual_eq (l : Lane) (s : State) : s.abortManual l =
    (let c := s.crumb.get l
     if c.mode = .manual ∧ (c.step = .purging ∨ c.step = .settling) then
       { s with crumb := s.crumb.set l { c with step := .watching, last := c.step, phase := none, single := false, manual := false }
                air := s.air.release l, notices := s.notices.place (.purgeAborted l c.step c.load false) }
     else s) := by
  unfold State.abortManual
  dsimp only
  split
  · rename_i h
    have hcycle : (s.crumb.get l).step.inCycle = true := by rcases h.2 with hs | hs <;> rw [hs] <;> rfl
    have hmode : ¬ (s.crumb.get l).mode = .disabled := by rw [h.1]; decide
    rw [abortPurge_eq, Crumb.aborted, if_pos hcycle, if_pos hcycle, if_pos hcycle, if_neg hmode]
  · rfl

theorem takeSingle_eq (l : Lane) (s : State) : s.takeSingle l =
    (let c := s.crumb.get l
     if c.single = true then
       { s with crumb := s.crumb.set l { c with step := .gapWait, last := if c.step = .gapWait then c.last else c.step,
                                                phase := some 10000, single := false, manual := false }
                air := s.air.request l }
     else s) := by
  unfold State.takeSingle State.enterGapWait
  refine if_congr Iff.rfl ?_ rfl
  simp only [State.modCrumb, goTo_eq, PerLane.get_set, PerLane.set_set]
  rfl

/-! ### What an attempt leaves of a busy head -/

/-- A head without its record. -/
def HeadState.bare (x : HeadState) : HeadState := { x with record := none }

theorem eq_of_bare {x y : HeadState} (h : x.bare = y.bare) : x = { y with record := x.record } := by
  obtain ⟨⟩ := x; obtain ⟨⟩ := y
  simp only [HeadState.bare, HeadState.mk.injEq] at h ⊢
  simp only [h, and_self]

theorem updateRecord_bare (n : Nat) (f : LoafRecord → LoafRecord) (h : Head) (s : State) :
    ((s.updateRecord n f).heads.get h).bare = (s.heads.get h).bare := by
  cases h <;> rfl

theorem promote_bare (l : Lane) (h : Head) (s : State) : ((s.promote l).heads.get h).bare = (s.heads.get h).bare := by
  unfold State.promote
  split
  · rfl
  · exact updateRecord_bare _ _ h _

theorem releaseTo_bare {h k : Head} (hk : h ≠ k) (n : Nat) (l : Lane) (s : State) : ((s.releaseTo k n l).heads.get h).bare = (s.heads.get h).bare := by
  unfold State.releaseTo
  split
  · rfl
  · dsimp only
    rw [State.modHead, PerHead.get_set_ne _ _ hk, promote_bare]
    rfl

theorem offerTo_bare {h k : Head} (hk : h ≠ k) (s : State) : ((s.offerTo k).heads.get h).bare = (s.heads.get h).bare := by
  obtain he | ⟨w, -, he⟩ := offerTo_cases s k
  · rw [he]
  · rw [he, releaseTo_bare hk]

theorem offers_bare {h : Head} {heads : List Head} (hno : h ∉ heads) (s : State) :
    ((heads.foldl State.offerTo s).heads.get h).bare = (s.heads.get h).bare := by
  induction heads generalizing s with
  | nil => rfl
  | cons k ks ih =>
    rw [List.mem_cons, not_or] at hno
    rw [List.foldl_cons, ih hno.2, offerTo_bare hno.1]

theorem attemptReleases_bare {h : Head} {s : State} (hno : h ∉ s.router.idleOrder) :
    (s.attemptReleases.heads.get h).bare = (s.heads.get h).bare := by
  unfold State.attemptReleases
  split
  · exact offers_bare hno s
  · rfl

theorem startHoming_bare (l : Lane) (h : Head) (s : State) : ((s.startHoming l).heads.get h).bare = (s.heads.get h).bare := by
  unfold State.startHoming
  split
  · split
    · cases hp : (s.slicers.get l).pending with
      | none => rw [freeBlade_none hp]
      | some c => rw [freeBlade_some hp]; exact updateRecord_bare _ _ h _
    · rfl
  · rfl
  · rfl

theorem homeBlades_bare (h : Head) (s : State) : (s.homeBlades.heads.get h).bare = (s.heads.get h).bare := by
  rw [State.homeBlades, startHoming_bare, startHoming_bare]

/-! ### The statement -/

/-- Settles O56. -/
theorem startRunsTheLine : Obligations.StartRunsTheLine := by
  unfold Obligations.StartRunsTheLine
  refine ⟨fun tag s hfree => ?_, fun s => ?_⟩
  · intro forbidden
    have hforbidden : forbidden ↔ (s.line.state ≠ .stopped ∨ s.startForbidden = true) := by
      simp only [forbidden, State.startForbidden, Bool.or_eq_true, Bool.and_eq_true, Option.isNone_iff_eq_none, or_assoc]
      rfl
    refine ⟨fun h => rejects_of_refuse doStart rfl hfree (if_pos (hforbidden.1 h)), fun h => ?_⟩
    have hstopped : s.line.state = .stopped := by
      by_contra hne; exact h (.inl hne)
    let u : State := { s with line := { s.line with state := .running }, notices := s.notices.place (.lineState .stopped .running s.line.latched) }
    have hu : s.setLine .running = u := by rw [State.setLine, hstopped]; rfl
    let v := u.homeBlades.crumbsRun.attemptReleases
    have hv : v.line = u.line := by simp [v]
    have hline : (State.finish s none v).line = u.line := by
      rw [(finish_drain s v none).1, drainTest_of_not, hv]
      rw [hv]
      exact fun hc => LineState.noConfusion hc.1
    have hserved : doStart s = served (State.finish s none v) [1] := by
      refine (if_neg (mt hforbidden.2 h)).trans ?_
      rw [State.startLine, hu]
      dsimp only
      rw [hline]
      rfl
    have hslicers : ∀ l, (s.slicers.get l).FreeToHome (s.inputs.bladeHome.get l) →
        (State.finish s none v).slicers.get l = (s.slicers.get l).homed (s.inputs.bladeHome.get l) := fun l hl => by
      have hkept : (State.finish s none v).slicers = u.homeBlades.slicers := by simp [v]
      rw [hkept, homeBlades_slicer (s := u) hl]
    refine ⟨State.finish s none v, accepts_of_served doStart rfl hfree hserved, by rw [hline], rfl, by rw [hline], by rw [hline], by rw [hline],
      fun l hb => ?_, fun l m hb hseen => ?_, fun l m hb hseen hpending => ?_, fun k hk => ?_, ?_⟩
    · rw [hslicers l (fun m hm => by rw [hb] at hm; cases hm), homed_home hb]
    · rw [hslicers l (fun m _ h1 => by rw [hseen] at h1; cases h1), hseen, homed_moves hb]
    · rw [hslicers l fun _ _ _ => hpending, hseen, homed_at_once hb]
    · refine eq_of_bare ?_
      have hidle : k ∉ u.homeBlades.crumbsRun.router.idleOrder := by simpa [u] using hk
      have hkept : (State.finish s none v).heads = v.heads := by simp
      have hcrumbs : u.homeBlades.crumbsRun.heads = u.homeBlades.heads := by simp
      rw [hkept, attemptReleases_bare hidle, hcrumbs, homeBlades_bare]
    · simp [v, u]
  · intro aborts singles
    have ha : ∀ l u, aborts l u = u.abortManual l := fun l u => (abortManual_eq l u).symm
    have hs : ∀ l u, singles l u = u.takeSingle l := fun l u => (takeSingle_eq l u).symm
    rw [ha, ha, hs, hs]
    rfl

end Sys2Proof.Machine
end

section
/-! RESUME (O57). -/
namespace Sys2Proof.Machine

/-! ### A head that neither hands off nor discharges (R110) -/

/-- The head's completion of GATHERING or DISCHARGING is not asserted. -/
def Calm (step : HeadStep) (i : HeadInputs) : Prop :=
  ¬(step = .gathering ∧ i.gatherDone = true) ∧ ¬(step = .discharging ∧ i.dischargeClear = true)

/-- R110: what the resume makes of such a head. -/
def HeadState.resumed (step : HeadStep) (i : HeadInputs) (x : HeadState) : HeadState :=
  match step with
  | .idle => x
  | .bagOut => { x.feedBag with misses := 0 }
  | .opening => if i.bagOpen then { x.enter .loading with misses := 0 } else x.enter .opening
  | .loading => if i.loafIn then x.enter .gathering else x.enter .loading
  | .gathering => x.enter .gathering
  | .tying => x.enter .tying
  | .discharging => x.enter .discharging

theorem resumed_opening (i : HeadInputs) : HeadState.resumed .opening i =
    fun x => if i.bagOpen then { x.enter .loading with misses := 0 } else x.enter .opening := rfl

theorem resumed_loading (i : HeadInputs) : HeadState.resumed .loading i =
    fun x => if i.loafIn then x.enter .gathering else x.enter .loading := rfl

theorem resumeHead_calm {step : HeadStep} {h : Head} {s : State} (hcalm : Calm step (s.inputs.heads.get h)) :
    s.resumeHead step h = s.modHead h (HeadState.resumed step (s.inputs.heads.get h)) := by
  cases step with
  | idle =>
    show s = { s with heads := s.heads.set h (s.heads.get h) }
    rw [PerHead.set_get]
  | bagOut => rfl
  | opening =>
    rw [resumed_opening]
    show (if (s.inputs.heads.get h).bagOpen then s.takeBagOpen h else s.modHead h (HeadState.enter .opening)) = _
    cases (s.inputs.heads.get h).bagOpen <;> rfl
  | loading =>
    rw [resumed_loading]
    show (if (s.inputs.heads.get h).loafIn then s.takeLoafIn h else s.modHead h (HeadState.enter .loading)) = _
    cases (s.inputs.heads.get h).loafIn <;> rfl
  | gathering => exact if_neg fun hdone => hcalm.1 ⟨rfl, hdone⟩
  | tying => rfl
  | discharging => exact if_neg fun hclear => hcalm.2 ⟨rfl, hclear⟩

theorem resumed_bare (step : HeadStep) (i : HeadInputs) {x y : HeadState} (h : x.bare = y.bare) :
    (x.resumed step i).bare = (y.resumed step i).bare := by
  rw [eq_of_bare h]
  cases step with
  | opening => simp only [HeadState.resumed]; split <;> rfl
  | loading => simp only [HeadState.resumed]; split <;> rfl
  | idle | bagOut | gathering | tying | discharging => rfl

/-! ### What stays empty or not (R160) -/

section
variable {s t : State}

theorem complete_congr (hlanes : t.lanes = s.lanes) (hheads : t.heads = s.heads) : t.Complete ↔ s.Complete := by
  rw [State.Complete, State.Complete, hlanes, hheads]

theorem complete_updateRecord (n : Nat) (f : LoafRecord → LoafRecord) : (s.updateRecord n f).Complete ↔ s.Complete := by
  simp only [State.Complete, updateRecord_lane, updateRecord_head, List.map_eq_nil_iff, Option.map_eq_none_iff]

theorem complete_startHoming (l : Lane) : (s.startHoming l).Complete ↔ s.Complete := by
  unfold State.startHoming
  split
  · split
    · cases hp : (s.slicers.get l).pending with
      | none => rw [freeBlade_none hp]; exact Iff.rfl
      | some c => rw [freeBlade_some hp]; exact complete_updateRecord _ _
    · exact Iff.rfl
  · exact Iff.rfl
  · exact Iff.rfl

theorem complete_homeBlades : s.homeBlades.Complete ↔ s.Complete := (complete_startHoming .b).trans (complete_startHoming .a)

theorem not_complete_offerTo (hs : ¬ s.Complete) (h : Head) : ¬ (s.offerTo h).Complete := by
  obtain he | ⟨w, -, he⟩ := offerTo_cases s h
  · rwa [he]
  · rw [he]
    obtain he | ⟨r, -, he⟩ := releaseTo_eq s h w.1 w.2
    · rwa [he]
    · rw [he]
      intro hc
      have hrecord := hc.2 h
      rw [State.modHead, PerHead.get_set] at hrecord
      rw [take_record] at hrecord
      cases hrecord

theorem not_complete_attemptReleases (hs : ¬ s.Complete) : ¬ s.attemptReleases.Complete := by
  have hoffers : ∀ heads : List Head, ∀ u : State, ¬ u.Complete → ¬ (heads.foldl State.offerTo u).Complete := by
    intro heads
    induction heads with
    | nil => exact fun u hu => hu
    | cons h hs ih => exact fun u hu => ih _ (not_complete_offerTo hu h)
  unfold State.attemptReleases
  split
  · exact hoffers _ s hs
  · exact hs

end

theorem complete_line {u : State} {line : Line} {notices : Notices} : { u with line := line, notices := notices }.Complete ↔ u.Complete := Iff.rfl

theorem drainTest_of_incomplete {u : State} (h : ¬ u.Complete) : u.drainTest = u := drainTest_of_not fun hc => h hc.2

theorem complete_heads {u : State} {heads : PerHead HeadState} (h : ∀ k, (heads.get k).record = (u.heads.get k).record) :
    { u with heads := heads }.Complete ↔ u.Complete := by
  simp only [State.Complete, h]

/-! ### The sources stand through an attempt -/

theorem promote_active (l : Lane) (s : State) : (s.promote l).router.active = s.router.active := by
  unfold State.promote; split <;> rfl

theorem releaseTo_active (h : Head) (n : Nat) (l : Lane) (s : State) : (s.releaseTo h n l).router.active = s.router.active := by
  obtain he | ⟨r, -, he⟩ := releaseTo_eq s h n l
  · rw [he]
  · rw [he]
    exact promote_active l _

theorem attemptReleases_active (s : State) : s.attemptReleases.router.active = s.router.active := by
  have hoffers : ∀ heads : List Head, ∀ u : State, (heads.foldl State.offerTo u).router.active = u.router.active := by
    intro heads
    induction heads with
    | nil => exact fun u => rfl
    | cons h hs ih =>
      intro u
      rw [List.foldl_cons, ih]
      obtain he | ⟨w, -, he⟩ := offerTo_cases u h
      · rw [he]
      · rw [he, releaseTo_active]
  unfold State.attemptReleases
  split
  · exact hoffers _ s
  · rfl

/-! ### The resume window (R159) -/

theorem pendingCausePresent_congr {s t : State} (hactive : t.router.active = s.router.active) (htiers : t.tiers = s.tiers)
    (hcauses : t.line.causes.tieFault = s.line.causes.tieFault ∧ t.line.causes.watchStop = s.line.causes.watchStop ∧
      t.line.causes.commandStop = s.line.causes.commandStop) : t.pendingCausePresent = s.pendingCausePresent := by
  obtain ⟨htie, hwatch, hstop⟩ := hcauses
  simp only [State.pendingCausePresent, State.clipEmptyPresent, State.clipEmptyAt, hactive, htiers, htie, hwatch, hstop]

section
variable {s : State}

theorem openWindow_rest (h : s.line.state = .stopped ∨ s.line.state = .halted) : s.openWindow = s := by
  have hm : s.moving = false := (moving_false_iff s).2 h
  have hr : ¬ s.line.state = .running := by rcases h with h | h <;> rw [h] <;> decide
  unfold State.openWindow
  rw [hm]
  exact if_neg fun hc => hr hc.1

theorem openWindow_moving (h : s.moving = true) : s.openWindow =
    (let u := { s with line := { s.line with window := some 2000 } }
     if s.line.state = .running ∧ s.pendingCausePresent = true then u.enterDraining else u) := by
  unfold State.openWindow
  rw [h]
  rfl

theorem openWindow_runs (h : s.line.state = .draining ∨ (s.line.state = .running ∧ s.pendingCausePresent = false)) :
    s.openWindow = { s with line := { s.line with window := some 2000 } } := by
  rw [openWindow_moving ((moving_iff s).2 (h.symm.imp_left And.left))]
  refine if_neg fun hc => ?_
  rcases h with h | h
  · rw [hc.1] at h; cases h
  · rw [hc.2] at h; cases h.2

theorem openWindow_drains (h : s.line.state = .running) (hp : s.pendingCausePresent = true) (hd : ¬ s.Complete) :
    s.openWindow = { s with
      line := { s.line with window := some 2000, state := .draining }
      notices := s.notices.place (.lineState .running .draining s.line.latched) } := by
  rw [openWindow_moving ((moving_iff s).2 (.inl h))]
  refine (if_pos ⟨h, hp⟩).trans ?_
  rw [State.enterDraining, drainTest_of_not]
  · simp only [State.setLine, State.notify, h]
  · exact fun hc => hd hc.2

theorem openWindow_drained (h : s.line.state = .running) (hp : s.pendingCausePresent = true) (hd : s.Complete) :
    s.openWindow = { s with
      line := { s.line with
        state := .stopped, window := none
        causes := { s.line.causes with tieFault := ⟨false, false⟩, watchStop := Vector.replicate 4 false, commandStop := false } }
      notices := (s.notices.place (.lineState .running .draining s.line.latched)).place (.lineState .draining .stopped s.line.latched) } := by
  rw [openWindow_moving ((moving_iff s).2 (.inl h))]
  refine (if_pos ⟨h, hp⟩).trans ?_
  rw [State.enterDraining, drainTest_of_complete rfl (by exact hd)]
  simp only [State.setLine, State.notify, h]
  rfl

end

/-! ### RESUME with heads that neither hand off nor discharge -/

section
variable {s : State}

/-- R159: the line, blades and crumb controllers once the line is RUNNING again. -/
def State.restarted (s : State) : State :=
  { s with
    line := ⟨.running, s.line.causes.atResume, none, s.line.window⟩
    notices := s.notices.place (.lineState .halted .running none) }.homeBlades.crumbsRun

theorem endHalt_running (h : s.line.state = .halted) : (s.endHalt.setLine .running).homeBlades.crumbsRun = s.restarted := by
  simp only [State.setLine, State.endHalt, State.notify, h, State.restarted]

theorem resumeForbidden_iff (s : State) : (s.line.state ≠ .halted ∨ s.resumeForbidden = true) ↔
    (s.line.state ≠ .halted ∨ s.inputs.eStop = true ∨ (∃ g : Fin 4, s.inputs.guards[g] = true) ∨ s.line.causes.repeatFault = true) := by
  have hsafe : s.safetyPresent = true ↔ s.inputs.eStop = true ∨ ∃ g : Fin 4, s.inputs.guards[g] = true := by
    rw [← not_iff_not, Bool.not_eq_true, safetyPresent_eq_false, not_or, not_exists]
    simp only [Bool.not_eq_true]
  rw [State.resumeForbidden, Bool.or_eq_true, ← or_assoc (a := s.inputs.eStop = true), ← hsafe]
  rfl

/-- R159: the state a RESUME leaves that is carried out. -/
def State.resumeEnd (s : State) : State :=
  State.finish s none ((s.restarted.resumeHead s.heads.one.step .one).resumeHead s.heads.two.step .two).attemptReleases.openWindow

theorem doResume_of (hhalted : s.line.state = .halted) (h : s.resumeForbidden = false) :
    doResume s = served s.resumeEnd [LineState.code s.resumeEnd.line.state] := by
  unfold doResume
  rw [if_neg (by rw [hhalted, h]; simp), State.resumeLine, endHalt_running hhalted]
  rfl

theorem restarted_bare (h : Head) : (s.restarted.heads.get h).bare = (s.heads.get h).bare := by
  have hcrumbs : s.restarted.heads = (State.homeBlades { s with
      line := ⟨.running, s.line.causes.atResume, none, s.line.window⟩
      notices := s.notices.place (.lineState .halted .running none) }).heads := by
    simp [State.restarted]
  rw [hcrumbs, homeBlades_bare]

theorem restarted_complete : s.restarted.Complete ↔ s.Complete :=
  (complete_congr (by simp [State.restarted]) (by simp [State.restarted])).trans
    (complete_homeBlades (s := { s with
      line := ⟨.running, s.line.causes.atResume, none, s.line.window⟩
      notices := s.notices.place (.lineState .halted .running none) }))

theorem resumed_record (step : HeadStep) (i : HeadInputs) (x : HeadState) : (x.resumed step i).record = x.record := by
  cases step with
  | opening => simp only [HeadState.resumed]; split <;> rfl
  | loading => simp only [HeadState.resumed]; split <;> rfl
  | idle | bagOut | gathering | tying | discharging => rfl

/-- The heads' steps of a calm resume, head 1 first. -/
def State.headsResumed (s : State) : State :=
  { s.restarted with heads := ⟨(s.restarted.heads.get .one).resumed s.heads.one.step (s.restarted.inputs.heads.get .one),
                               (s.restarted.heads.get .two).resumed s.heads.two.step (s.restarted.inputs.heads.get .two)⟩ }

theorem modHead_both (f g : HeadState → HeadState) (u : State) :
    (u.modHead .one f).modHead .two g = { u with heads := ⟨f (u.heads.get .one), g (u.heads.get .two)⟩ } := rfl

theorem resumeHead_both {one two : HeadStep} {u : State} (h1 : Calm one (u.inputs.heads.get .one)) (h2 : Calm two (u.inputs.heads.get .two)) :
    (u.resumeHead one .one).resumeHead two .two = { u with
      heads := ⟨(u.heads.get .one).resumed one (u.inputs.heads.get .one), (u.heads.get .two).resumed two (u.inputs.heads.get .two)⟩ } := by
  rw [resumeHead_calm h1, resumeHead_calm (s := u.modHead .one _) h2]
  exact modHead_both _ _ u

theorem restarted_inputs : s.restarted.inputs = s.inputs := by simp [State.restarted]

theorem restarted_resumed (hcalm : ∀ h, Calm (s.heads.get h).step (s.inputs.heads.get h)) :
    (s.restarted.resumeHead s.heads.one.step .one).resumeHead s.heads.two.step .two = s.headsResumed := by
  exact resumeHead_both (u := s.restarted) (by rw [restarted_inputs]; exact hcalm .one) (by rw [restarted_inputs]; exact hcalm .two)

theorem headsResumed_bare (h : Head) : (s.headsResumed.heads.get h).bare =
    ((s.heads.get h).resumed (s.heads.get h).step (s.inputs.heads.get h)).bare := by
  rw [← restarted_inputs (s := s)]
  cases h <;> exact resumed_bare _ _ (restarted_bare _)

theorem headsResumed_complete : s.headsResumed.Complete ↔ s.Complete := by
  refine (complete_heads fun h => ?_).trans restarted_complete
  cases h <;> exact resumed_record _ _ _

/-- The state in which the resume window opens. -/
def State.resumedLine (s : State) : State := s.headsResumed.attemptReleases

theorem resumedLine_line : s.resumedLine.line = ⟨.running, s.line.causes.atResume, none, s.line.window⟩ := by
  simp [State.resumedLine, State.headsResumed, State.restarted]

theorem resumedLine_pending : s.resumedLine.pendingCausePresent = s.pendingCausePresent := by
  refine pendingCausePresent_congr ?_ (by simp [State.resumedLine, State.headsResumed, State.restarted]) (by rw [resumedLine_line]; exact ⟨rfl, rfl, rfl⟩)
  rw [State.resumedLine, attemptReleases_active]
  simp [State.headsResumed, State.restarted]

/-- The line once the resume window is open, where the line is not drained. -/
theorem resumedLine_openWindow (hd : ¬ s.Complete) : ∃ notices, s.resumedLine.openWindow = { s.resumedLine with
    line := ⟨if s.pendingCausePresent = true then .draining else .running, s.line.causes.atResume, none, some 2000⟩
    notices := notices } := by
  have hnot : ¬ s.resumedLine.Complete := not_complete_attemptReleases (mt headsResumed_complete.1 hd)
  have hrunning : s.resumedLine.line.state = .running := by rw [resumedLine_line]
  by_cases hp : s.pendingCausePresent = true
  · have hdrains := openWindow_drains hrunning (by rw [resumedLine_pending, hp]) hnot
    rw [resumedLine_line] at hdrains
    rw [if_pos hp]
    exact ⟨_, hdrains⟩
  · refine ⟨s.resumedLine.notices, (openWindow_runs (.inr ⟨hrunning, by rw [resumedLine_pending]; simpa using hp⟩)).trans ?_⟩
    rw [resumedLine_line, if_neg hp]

theorem resumeEnd_calm (hcalm : ∀ h, Calm (s.heads.get h).step (s.inputs.heads.get h)) :
    s.resumeEnd = State.finish s none s.resumedLine.openWindow := by
  rw [State.resumeEnd, restarted_resumed hcalm, State.resumedLine]

theorem resumeEnd_line (hcalm : ∀ h, Calm (s.heads.get h).step (s.inputs.heads.get h)) (hd : ¬ s.Complete) : s.resumeEnd.line =
    ⟨if s.pendingCausePresent = true then .draining else .running, s.line.causes.atResume, none, some 2000⟩ := by
  obtain ⟨notices, hopen⟩ := resumedLine_openWindow hd
  have hnot : ¬ s.resumedLine.Complete := not_complete_attemptReleases (mt headsResumed_complete.1 hd)
  rw [resumeEnd_calm hcalm, (finish_drain s _ none).1, hopen, drainTest_of_incomplete (mt complete_line.1 hnot)]

theorem resumeEnd_kept (hcalm : ∀ h, Calm (s.heads.get h).step (s.inputs.heads.get h)) (hd : ¬ s.Complete) :
    s.resumeEnd.heads = s.resumedLine.heads ∧ s.resumeEnd.slicers = s.resumedLine.slicers ∧ s.resumeEnd.products = s.products ∧
      s.resumeEnd.assign = s.assign ∧ s.resumeEnd.totals = s.totals ∧ s.resumeEnd.tiers = s.tiers ∧ s.resumeEnd.watch = s.watch := by
  obtain ⟨notices, hopen⟩ := resumedLine_openWindow hd
  rw [resumeEnd_calm hcalm, hopen]
  simp [State.resumedLine, State.headsResumed, State.restarted]

theorem resumeEnd_bare (hcalm : ∀ h, Calm (s.heads.get h).step (s.inputs.heads.get h)) (hd : ¬ s.Complete) {h : Head}
    (hidle : h ∉ s.router.idleOrder) : (s.resumeEnd.heads.get h).bare =
      ((s.heads.get h).resumed (s.heads.get h).step (s.inputs.heads.get h)).bare := by
  have hrouter : s.headsResumed.router = s.router := by simp [State.headsResumed, State.restarted]
  have hno : h ∉ s.headsResumed.router.idleOrder := by rw [hrouter]; exact hidle
  obtain ⟨hheads, -⟩ := resumeEnd_kept hcalm hd
  rw [hheads]
  exact (attemptReleases_bare hno).trans (headsResumed_bare h)

theorem resumedLine_slicer {l : Lane} (h : (s.slicers.get l).FreeToHome (s.inputs.bladeHome.get l)) :
    s.resumedLine.slicers.get l = (s.slicers.get l).homed (s.inputs.bladeHome.get l) := by
  have hkept : s.resumedLine.slicers = (State.homeBlades { s with
      line := ⟨.running, s.line.causes.atResume, none, s.line.window⟩
      notices := s.notices.place (.lineState .halted .running none) }).slicers := by
    simp [State.resumedLine, State.headsResumed, State.restarted]
  rw [hkept]
  exact homeBlades_slicer (s := { s with
      line := ⟨.running, s.line.causes.atResume, none, s.line.window⟩
      notices := s.notices.place (.lineState .halted .running none) }) h

/-- R110: the step, miss count and timer of a timed head that goes on or takes a completion already asserted. -/
theorem resumed_timed {x z : HeadState} {i : HeadInputs} (hbare : z.bare = (x.resumed x.step i).bare) (htimed : x.step.timed = true) :
    if x.step = .opening ∧ i.bagOpen = true then z.step = .loading ∧ z.misses = 0 ∧ z.timer = some x.timeouts.loading
    else if x.step = .loading ∧ i.loafIn = true then z.step = .gathering ∧ z.misses = x.misses ∧ z.timer = some x.timeouts.gathering
    else z.step = x.step ∧ z.misses = x.misses ∧ z.timer = x.timeouts.of x.step := by
  rw [eq_of_bare hbare]
  cases hx : x.step with
  | idle => rw [hx] at htimed; cases htimed
  | bagOut => rw [hx] at htimed; cases htimed
  | opening =>
    rw [resumed_opening]
    cases hb : i.bagOpen <;> simp [HeadState.enter, Timeouts.of]
  | loading =>
    rw [resumed_loading]
    cases hb : i.loafIn <;> simp [HeadState.enter, Timeouts.of]
  | gathering => simp [HeadState.resumed, HeadState.enter]
  | tying => simp [HeadState.resumed, HeadState.enter]
  | discharging => simp [HeadState.resumed, HeadState.enter]

end

/-! ### The statement -/

/-- Settles O57. -/
theorem resumeRestartsTheLine : Obligations.ResumeRestartsTheLine := by
  unfold Obligations.ResumeRestartsTheLine
  refine ⟨fun tag s hfree => ?_, fun h s => ?_, fun s => ?_⟩
  · intro forbidden
    refine ⟨fun h => rejects_of_refuse doResume rfl hfree (if_pos ((resumeForbidden_iff s).2 h)), fun h => ?_⟩
    intro v t
    have hhalted : s.line.state = .halted := by
      by_contra hne; exact h (.inl hne)
    have hallowed : s.resumeForbidden = false := by
      by_contra hno; exact h ((resumeForbidden_iff s).1 (.inr (by simpa using hno)))
    have ht : t = s.resumeEnd := rfl
    rw [ht]
    refine ⟨accepts_of_served doResume rfl hfree (doResume_of hhalted hallowed), fun hcalm hidle hdrained => ?_⟩
    have hd : ¬ s.Complete := by rw [← drained_iff, hdrained]; decide
    have hline := resumeEnd_line hcalm hd
    obtain ⟨-, hslicers, hkept⟩ := resumeEnd_kept hcalm hd
    refine ⟨by rw [hline], by rw [hline], by rw [hline], by rw [hline]; rfl, fun k hk => ?_, fun k hk => ?_, fun l m hb hseen => ?_, hkept⟩
    · have hbare := resumeEnd_bare hcalm hd (hidle k (by rw [hk]; decide))
      rw [eq_of_bare hbare, hk]
      exact ⟨rfl, rfl, rfl, rfl⟩
    · exact resumed_timed (resumeEnd_bare hcalm hd (hidle k fun he => by rw [he] at hk; cases hk)) hk
    · rw [hslicers, resumedLine_slicer (fun m _ h1 => by rw [hseen] at h1; cases h1), hseen, homed_moves hb]
  · intro x i enters figures
    refine ⟨rfl, rfl, fun hb => if_pos hb, fun hb => if_neg (by rw [hb]; decide), fun hb => if_pos hb, fun hb => if_neg (by rw [hb]; decide),
      fun hb => if_neg (by rw [hb]; decide), fun r hr hb => ⟨fun hm => (if_pos hb).trans (takeGatherDone_tie hr hm),
        fun hm => (if_pos hb).trans (takeGatherDone_empty hr hm)⟩, rfl, fun hb => if_neg (by rw [hb]; decide), fun hb => if_pos hb,
      fun hline hstep hb => if_pos ((completes_rises _ _ _ _).mpr ⟨hb, hstep, hline⟩), fun r hr => ?_⟩
    intro t src counted
    have hcounted (u : ProductTotals) : (s.modProductTotals r.product fun _ => u.countMarked r.marked).freeHead h r = counted u := by
      rw [freeHead_eq, countMarked_eq]
      rfl
    refine ⟨fun hd hbagged hwhole hunchecked => ?_, fun reason hd hroom => ?_⟩
    · rw [takeDischargeClear_bagged hr hd, countBagged_of_room hbagged hwhole hunchecked]
      exact hcounted _
    · rw [takeDischargeClear_rejected hr hd, countRejected_of_room hroom]
      exact hcounted _
  · intro homed opened drains
    refine ⟨fun hfree => ?_, openWindow_rest, openWindow_runs, fun h hp hd => openWindow_drains h hp ?_, fun h hp hd => openWindow_drained h hp ?_⟩
    · have hhomed : ∀ l, (s.slicers.get l).homed (s.inputs.bladeHome.get l) = homed l := fun l => by
        cases hb : (s.slicers.get l).blade <;> simp only [homed, Slicer.homed, hb]
      rw [State.homeBlades, startHoming_eq (l := .a) (hfree .a), startHoming_eq (l := .b), ← hhomed, ← hhomed]
      · rfl
      · exact hfree .b
    · rw [← drained_iff, hd]; decide
    · exact (drained_iff s).1 hd

end Sys2Proof.Machine
end

section
/-! CLEAR (O58): the line clear written out. -/
namespace Sys2Proof.Machine

/-! ### The figures and notices of cleared records -/

/-- A record counted cleared, with room for it (R39, R162). -/
def Totals.clear (t : Totals) (r : LoafRecord) : Totals :=
  let u := t.products[r.product]
  { t with products := t.products.set r.product (ProductTotals.countMarked r.marked { u with cleared := u.cleared + 1 }) }

/-- R180: a loaf report placed as the mode requires. -/
def Notices.tell (q : Notices) (n : Notice) : Notices :=
  match q.reports with
  | .off => q
  | .every => q.place n
  | .once => { q.place n with reports := .off }

/-- The loaf report of a line clear. -/
def LoafRecord.clearReport (head : Option Head) (tie : Option TieResult) (r : LoafRecord) : Notice :=
  .loafReport ⟨r.number, r.lane, r.product, r.flags, r.marked, r.disposition, .lineClear, head, tie⟩

/-- No cleared figure can overflow while these records are counted. -/
def RoomFor (rs : List LoafRecord) (t : Totals) : Prop := ∀ p : ProductIx, t.products[p].cleared + rs.length ≤ 4294967295

/-- Where there is room, the records are counted in this order, and the notices placed are these. -/
def ClearedTo (rs : List LoafRecord) (places : Notices → Notices) (t : Totals) (n : Notices) (t' : Totals) (n' : Notices) : Prop :=
  RoomFor rs t → t' = rs.foldl Totals.clear t ∧ n' = places n

theorem cleared_bound (t : Totals) (r : LoafRecord) (p : ProductIx) : (t.clear r).products[p].cleared ≤ t.products[p].cleared + 1 := by
  simp only [Totals.clear, Fin.getElem_fin, Vector.getElem_set, countMarked_eq]
  split
  · rename_i hp
    simp only [hp]
    split <;> exact le_rfl
  · exact Nat.le_succ _

theorem cleared_foldl_bound (rs : List LoafRecord) (t : Totals) (p : ProductIx) :
    (rs.foldl Totals.clear t).products[p].cleared ≤ t.products[p].cleared + rs.length := by
  induction rs generalizing t with
  | nil => exact le_rfl
  | cons r rs ih =>
    have h := ih (t.clear r)
    have hr := cleared_bound t r p
    rw [List.foldl_cons, List.length_cons]
    omega

theorem ClearedTo.trans {rs rs' : List LoafRecord} {f g : Notices → Notices} {t u v : Totals} {n m k : Notices}
    (h : ClearedTo rs f t n u m) (h' : ClearedTo rs' g u m v k) : ClearedTo (rs ++ rs') (fun q => g (f q)) t n v k := by
  intro hroom
  have hlength : (rs ++ rs').length = rs.length + rs'.length := List.length_append
  obtain ⟨rfl, rfl⟩ := h fun p => by have := hroom p; omega
  obtain ⟨rfl, rfl⟩ := h' fun p => by have := hroom p; have := cleared_foldl_bound rs t p; omega
  rw [List.foldl_append]
  exact ⟨rfl, rfl⟩

theorem ClearedTo.places {rs : List LoafRecord} {f : Notices → Notices} {t u : Totals} {n m : Notices} (h : ClearedTo rs f t n u m)
    (g : Notices → Notices) : ClearedTo rs (fun q => g (f q)) t n u (g m) := fun hroom => by
  obtain ⟨rfl, rfl⟩ := h hroom
  exact ⟨rfl, rfl⟩

theorem countCleared_parts (r : LoafRecord) (s : State) : ∃ t n, s.countCleared r = { s with totals := t, notices := n } ∧
    ClearedTo [r] id s.totals s.notices t n := by
  rcases countLoaf_cases r.product (fun t => full32 t.cleared) (fun t => { t with cleared := t.cleared + 1 }.countMarked r.marked) s with
    ⟨-, h⟩ | ⟨hfull, h⟩
  · exact ⟨_, _, h, fun _ => ⟨rfl, rfl⟩⟩
  · refine ⟨_, _, h, fun hroom => ?_⟩
    have hp := hroom r.product
    rw [full32_eq_false (by rw [List.length_singleton] at hp; omega)] at hfull
    cases hfull

theorem report_clear (r : LoafRecord) (head : Option Head) (tie : Option TieResult) (s : State) :
    s.report r .lineClear head tie = { s with notices := s.notices.tell (r.clearReport head tie) } := by
  cases hr : s.notices.reports <;> simp only [State.report, Notices.tell, hr, State.notify, LoafRecord.clearReport]

/-! ### The lanes -/

theorem clearRecord_parts (l : Lane) (r : LoafRecord) (s : State) : ∃ queue t n,
    s.clearRecord l r = { s with lanes := s.lanes.set l { s.lanes.get l with queue := queue }, totals := t, notices := n } ∧
      ClearedTo [r] (fun q => q.tell (r.clearReport none none)) s.totals s.notices t n := by
  obtain ⟨t, n, hcount, hcleared⟩ := countCleared_parts r s
  refine ⟨(s.lanes.get l).queue.filter (fun x => x.number != r.number), t, n.tell (r.clearReport none none), ?_,
    hcleared.places fun q => q.tell (r.clearReport none none)⟩
  rw [State.clearRecord, report_clear, hcount]
  rfl

/-- The reports of the records of a queue, in order. -/
def tellQueue (rs : List LoafRecord) (q : Notices) : Notices := rs.foldl (fun q r => q.tell (r.clearReport none none)) q

theorem clearRecords_parts (l : Lane) (rs : List LoafRecord) (s : State) : ∃ queue t n,
    rs.foldl (State.clearRecord l) s = { s with lanes := s.lanes.set l { s.lanes.get l with queue := queue }, totals := t, notices := n } ∧
      ClearedTo rs (tellQueue rs) s.totals s.notices t n := by
  induction rs generalizing s with
  | nil =>
    refine ⟨(s.lanes.get l).queue, s.totals, s.notices, ?_, fun _ => ⟨rfl, rfl⟩⟩
    show s = { s with lanes := s.lanes.set l (s.lanes.get l) }
    rw [PerLane.set_get]
  | cons r rs ih =>
    obtain ⟨queue, t, n, hone, hcleared⟩ := clearRecord_parts l r s
    obtain ⟨queue', t', n', hrest, hcleared'⟩ := ih (s.clearRecord l r)
    rw [hone] at hcleared'
    refine ⟨queue', t', n', ?_, hcleared.trans hcleared'⟩
    rw [List.foldl_cons, hrest, hone]
    simp only [PerLane.get_set, PerLane.set_set]

theorem clearLane_parts (l : Lane) (s : State) : ∃ t n,
    s.clearLane l = { s with lanes := s.lanes.set l ((s.lanes.get l).cleared (s.inputs.curtain.get l)), totals := t, notices := n } ∧
      ClearedTo (s.lanes.get l).queue (tellQueue (s.lanes.get l).queue) s.totals s.notices t n := by
  obtain ⟨queue, t, n, hall, hcleared⟩ := clearRecords_parts l (s.lanes.get l).queue s
  refine ⟨t, n, ?_, hcleared⟩
  rw [State.clearLane, hall, State.modLane]
  simp only [PerLane.get_set, PerLane.set_set]
  rfl

/-- R161 step 1. -/
theorem clearLanes_parts (s : State) : ∃ t n,
    s.clearLanes = { s with
      lanes := ⟨s.lanes.a.cleared s.inputs.curtain.a, s.lanes.b.cleared s.inputs.curtain.b⟩
      planner := s.planner.withdrawAll, router := { s.router with waitingOrder := [] }, totals := t, notices := n } ∧
    ClearedTo (s.lanes.a.queue ++ s.lanes.b.queue) (fun q => tellQueue s.lanes.b.queue (tellQueue s.lanes.a.queue q)) s.totals s.notices t n := by
  obtain ⟨t, n, ha, hcleared⟩ := clearLane_parts .a s
  obtain ⟨t', n', hb, hcleared'⟩ := clearLane_parts .b (s.clearLane .a)
  rw [ha] at hcleared'
  refine ⟨t', n', ?_, hcleared.trans hcleared'⟩
  rw [State.clearLanes, hb, ha]
  rfl

/-! ### The heads -/

/-- R111: a head at a line clear. -/
def HeadState.cleared (x : HeadState) : HeadState :=
  { x with step := .idle, record := none, direct := false, misses := 0, timer := none, feedPulse := none }

/-- The router once a head is cleared: idle at the tail, its pending source applied. -/
def Router.cleared (h : Head) (x : Router) : Router :=
  { x with active := x.active.set h ((x.pending.get h).getD (x.active.get h)), pending := x.pending.set h none
           idleOrder := x.idleOrder.filter (fun y => y != h) ++ [h] }

/-- The notices of one cleared head of a line at rest. -/
def State.tellHead (h : Head) (s : State) (q : Notices) : Notices :=
  let reported := match (s.heads.get h).record with
    | none => q
    | some r => q.tell (r.clearReport (some h) r.tie)
  match s.router.pending.get h with
  | none => reported
  | some src => if src ≠ .none ∧ (s.tiers.get h).magazine = 0 then reported.place (.stopCause (.clipEmpty h) s.line.state) else reported

theorem moving_congr {s t : State} (h : t.line.state = s.line.state) : t.moving = s.moving := by
  unfold State.moving
  rw [h]

theorem raise_at_rest {h : Head} {s : State} (hrest : s.moving = false) : ∃ line, line.state = s.line.state ∧
    s.raise (.clipEmpty h) = { s with line := line, notices := s.notices.place (.stopCause (.clipEmpty h) s.line.state) } := by
  have hr : ¬ s.line.state = .running := by
    rcases (moving_false_iff s).1 hrest with h | h <;> rw [h] <;> decide
  refine ⟨s.lineWithPending (.clipEmpty h), ?_, ?_⟩
  · rw [State.lineWithPending, if_neg hr]
  · rw [raise_pending rfl, State.noticesWithPending, if_neg hr]

/-- R111: the head's record, if any, counted and reported, and the head IDLE. -/
def State.emptyHead (h : Head) (s : State) : State :=
  let s := s.modHead h fun x => { x with feedPulse := none, timer := none }
  match (s.heads.get h).record with
  | none => s.goIdle h
  | some r => ((s.countCleared r).goIdle h).report r .lineClear (some h) r.tie

theorem clearHead_eq (h : Head) (s : State) : s.clearHead h = (s.emptyHead h).applyPendingSource h := rfl

/-- The report of a cleared head's record. -/
def HeadState.tellCleared (h : Head) (x : HeadState) (q : Notices) : Notices :=
  match x.record with
  | none => q
  | some r => q.tell (r.clearReport (some h) r.tie)

theorem emptyHead_parts (h : Head) (s : State) : ∃ t n,
    s.emptyHead h = { s with
      heads := s.heads.set h (s.heads.get h).cleared
      router := { s.router with idleOrder := s.router.idleOrder.filter (fun y => y != h) ++ [h] }, totals := t, notices := n } ∧
    ClearedTo (s.heads.get h).record.toList ((s.heads.get h).tellCleared h) s.totals s.notices t n := by
  have hrecord : ((s.modHead h fun x => { x with feedPulse := none, timer := none }).heads.get h).record = (s.heads.get h).record := by
    rw [State.modHead, PerHead.get_set]
  unfold State.emptyHead
  dsimp only
  rw [hrecord]
  cases hr : (s.heads.get h).record with
  | none =>
    refine ⟨s.totals, s.notices, ?_, fun _ => ⟨rfl, by rw [HeadState.tellCleared, hr]⟩⟩
    simp only [State.goIdle, State.modHead, PerHead.get_set, PerHead.set_set]
    rfl
  | some r =>
    obtain ⟨t, n, hcount, hcleared⟩ := countCleared_parts r (s.modHead h fun x => { x with feedPulse := none, timer := none })
    refine ⟨t, n.tell (r.clearReport (some h) r.tie), ?_, ?_⟩
    · dsimp only
      rw [report_clear, hcount]
      simp only [State.goIdle, State.modHead, PerHead.get_set, PerHead.set_set]
      rfl
    · have htells : (s.heads.get h).tellCleared h = fun q => q.tell (r.clearReport (some h) r.tie) := by
        funext q; rw [HeadState.tellCleared, hr]
      rw [htells]
      exact hcleared.places fun q => q.tell (r.clearReport (some h) r.tie)

/-- R97 at a cleared head of a line at rest. -/
theorem applyPendingSource_parts {h : Head} {s : State} (hrest : s.moving = false) : ∃ line, line.state = s.line.state ∧
    s.applyPendingSource h = { s with
      router := { s.router with active := s.router.active.set h ((s.router.pending.get h).getD (s.router.active.get h))
                                pending := s.router.pending.set h none }
      line := line
      notices := match s.router.pending.get h with
        | none => s.notices
        | some src =>
          if src ≠ .none ∧ (s.tiers.get h).magazine = 0 then s.notices.place (.stopCause (.clipEmpty h) s.line.state) else s.notices } := by
  rw [applyPendingSource_eq]
  dsimp only
  cases hp : s.router.pending.get h with
  | none => exact ⟨s.line, rfl, if_neg fun hc => hc.1 rfl⟩
  | some src =>
    by_cases he : src ≠ .none ∧ (s.tiers.get h).magazine = 0
    · obtain ⟨line, hstate, hraise⟩ := raise_at_rest (h := h) (s := { s with
        router := { s.router with active := s.router.active.set h src, pending := s.router.pending.set h none } }) hrest
      refine ⟨line, hstate, (if_pos ⟨by simp, he⟩).trans ?_⟩
      simp only [Option.getD_some, if_pos he]
      exact hraise
    · refine ⟨s.line, rfl, (if_neg fun hc => he hc.2).trans ?_⟩
      simp only [Option.getD_some, if_neg he]

theorem clearHead_parts {h : Head} {s : State} (hrest : s.moving = false) : ∃ line t n, line.state = s.line.state ∧
    s.clearHead h = { s with
      heads := s.heads.set h (s.heads.get h).cleared, router := s.router.cleared h, line := line, totals := t, notices := n } ∧
    ClearedTo (s.heads.get h).record.toList (s.tellHead h) s.totals s.notices t n := by
  obtain ⟨t, n, hempty, hcleared⟩ := emptyHead_parts h s
  have hmoving : (s.emptyHead h).moving = false := by rw [hempty]; exact hrest
  obtain ⟨line, hstate, happly⟩ := applyPendingSource_parts (h := h) hmoving
  rw [clearHead_eq, happly]
  rw [hempty] at hstate ⊢
  exact ⟨line, t, _, hstate, rfl, hcleared.places fun q => match s.router.pending.get h with
    | none => q
    | some src => if src ≠ .none ∧ (s.tiers.get h).magazine = 0 then q.place (.stopCause (.clipEmpty h) s.line.state) else q⟩

/-- R161 step 3. -/
theorem clearHeads_parts {s : State} (hrest : s.moving = false) : ∃ line t n, line.state = s.line.state ∧
    s.clearHeads = { s with
      heads := ⟨s.heads.one.cleared, s.heads.two.cleared⟩, tiers := ⟨s.tiers.one.cleared, s.tiers.two.cleared⟩
      router := (s.router.cleared .one).cleared .two, line := line, totals := t, notices := n } ∧
    ClearedTo (s.heads.one.record.toList ++ s.heads.two.record.toList) (fun q => s.tellHead .two (s.tellHead .one q)) s.totals s.notices t n := by
  obtain ⟨line, t, n, hstate, hone, hcleared⟩ := clearHead_parts (h := .one) (s := s.modTier .one Tier.cleared) hrest
  have hmoving : (((s.modTier .one Tier.cleared).clearHead .one).modTier .two Tier.cleared).moving = false := by
    rw [hone]
    exact (moving_congr hstate).trans hrest
  obtain ⟨line', t', n', hstate', htwo, hcleared'⟩ := clearHead_parts (h := .two) hmoving
  rw [State.clearHeads, htwo]
  rw [hone] at hstate' hcleared' ⊢
  have htell : State.tellHead .two s = State.tellHead .two (State.modTier .two Tier.cleared { s.modTier .one Tier.cleared with
      heads := s.heads.set .one s.heads.one.cleared, router := s.router.cleared .one, line := line, totals := t, notices := n }) := by
    funext q
    unfold State.tellHead
    dsimp only [State.modTier]
    rw [hstate]
    rfl
  refine ⟨line', t', n', hstate'.trans hstate, rfl, ?_⟩
  rw [htell]
  exact hcleared.trans hcleared'

/-! ### The controllers -/

/-- R145 at a line clear: the controller at rest, its waiting single purge dropped. -/
def Crumb.clearedLine (c : Crumb) : Crumb := { c.aborted with single := false }

/-- The notice of a purge that a line clear aborts. -/
def Crumb.tellAborted (l : Lane) (c : Crumb) (q : Notices) : Notices :=
  if c.step.inCycle then q.place (.purgeAborted l c.step c.load true) else q

theorem clearCrumbs_eq {s : State} (h : s.AirOrdered) : s.clearCrumbs = { s with
    crumb := ⟨s.crumb.a.clearedLine, s.crumb.b.clearedLine⟩, air := ⟨none, none⟩
    notices := s.crumb.b.tellAborted .b (s.crumb.a.tellAborted .a s.notices) } := by
  have hair : ((s.abortPurge true .a).abortPurge true .b).air = ⟨none, none⟩ := by
    rw [← air_of_aborts h]
    simp only [abortPurge_eq]
  have hparts : (s.abortPurge true .a).abortPurge true .b = { s with
      crumb := ⟨s.crumb.a.aborted, s.crumb.b.aborted⟩, air := ((s.abortPurge true .a).abortPurge true .b).air
      notices := s.crumb.b.tellAborted .b (s.crumb.a.tellAborted .a s.notices) } := by
    simp only [abortPurge_eq, Crumb.tellAborted]
    rfl
  rw [State.clearCrumbs, hparts, hair]
  rfl

/-! ### The line -/

theorem clearLine_eq (s : State) : s.clearLine = { s with
    line := ⟨.stopped, EventCauses.none, none, none⟩
    notices := if s.line.state = .stopped then s.notices else s.notices.place (.lineState s.line.state .stopped none) } := by
  unfold State.clearLine
  dsimp only
  split
  · rename_i h; rw [h]
  · rfl

/-- R161: what a line clear makes of a line at rest. -/
theorem lineClear_parts {s : State} (hrest : s.moving = false) (hair : s.AirOrdered) : ∃ t n,
    s.lineClear = { s with
      lanes := ⟨s.lanes.a.cleared s.inputs.curtain.a, s.lanes.b.cleared s.inputs.curtain.b⟩
      planner := s.planner.withdrawAll, slicers := ⟨s.slicers.a.cleared, s.slicers.b.cleared⟩
      heads := ⟨s.heads.one.cleared, s.heads.two.cleared⟩, tiers := ⟨s.tiers.one.cleared, s.tiers.two.cleared⟩
      router := (({ s.router with waitingOrder := [] } : Router).cleared .one).cleared .two
      crumb := ⟨s.crumb.a.clearedLine, s.crumb.b.clearedLine⟩, air := ⟨none, none⟩
      watch := { s.watch with chains := Vector.replicate 2 none }, line := ⟨.stopped, EventCauses.none, none, none⟩, totals := t, notices := n } ∧
    ClearedTo s.held (fun q =>
      let q := tellQueue s.lanes.b.queue (tellQueue s.lanes.a.queue q)
      let q := s.crumb.b.tellAborted .b (s.crumb.a.tellAborted .a (s.tellHead .two (s.tellHead .one q)))
      if s.line.state = .halted then q.place (.lineState .halted .stopped none) else q) s.totals s.notices t n := by
  obtain ⟨t, n, hlanes, hcleared⟩ := clearLanes_parts s
  have hmoving : s.clearLanes.clearSlicers.moving = false := by rw [hlanes]; exact hrest
  obtain ⟨line, t', n', hstate, hheads, hcleared'⟩ := clearHeads_parts hmoving
  have hordered : s.clearLanes.clearSlicers.clearHeads.AirOrdered := by rw [hheads, hlanes]; exact hair
  rw [State.lineClear, clearLine_eq, State.disarmChains, clearCrumbs_eq hordered, hheads]
  rw [hlanes] at hstate hcleared' ⊢
  have hheld : s.held = s.lanes.a.queue ++ s.lanes.b.queue ++ (s.heads.one.record.toList ++ s.heads.two.record.toList) := by
    rw [State.held, List.append_assoc]
  have hend (q : Notices) : (if s.line.state = .halted then q.place (.lineState .halted .stopped none) else q) =
      if line.state = .stopped then q else q.place (.lineState line.state .stopped none) := by
    have hsame : line.state = s.line.state := hstate
    rcases (moving_false_iff s).1 hrest with hs | hs <;> simp [hsame, hs]
  refine ⟨t', _, rfl, ?_⟩
  rw [hheld]
  simp only [hend]
  exact ((hcleared.trans hcleared').places fun q => s.crumb.b.tellAborted .b (s.crumb.a.tellAborted .a q)).places
    fun q => if line.state = .stopped then q else q.place (.lineState line.state .stopped none)

/-! ### The figures of each product -/

/-- One product's figures with so many records cleared, so many of them marked. -/
def ProductTotals.clearedBy (removed marked : Nat) (u : ProductTotals) : ProductTotals :=
  { u with cleared := u.cleared + removed, marked := if marked = 0 then u.marked else min 4294967295 (u.marked + marked) }

theorem clearedBy_clearedBy (a b c d : Nat) (u : ProductTotals) : (u.clearedBy a b).clearedBy c d = u.clearedBy (a + c) (b + d) := by
  have hmarked : (if d = 0 then (if b = 0 then u.marked else min 4294967295 (u.marked + b))
      else min 4294967295 ((if b = 0 then u.marked else min 4294967295 (u.marked + b)) + d)) =
      if b + d = 0 then u.marked else min 4294967295 (u.marked + (b + d)) := by
    split_ifs <;> omega
  simp only [ProductTotals.clearedBy, hmarked, Nat.add_assoc]

theorem clear_product (t : Totals) (r : LoafRecord) (p : ProductIx) : (t.clear r).products[p] =
    if r.product = p then t.products[p].clearedBy 1 (if r.marked then 1 else 0) else t.products[p] := by
  by_cases hp : r.product = p
  · subst hp
    simp only [Totals.clear, Fin.getElem_fin, Vector.getElem_set_self, if_true, countMarked_eq, ProductTotals.clearedBy]
    cases r.marked <;> rfl
  · have hval : r.product.val ≠ p.val := fun h => hp (Fin.ext h)
    simp only [Totals.clear, Fin.getElem_fin, Vector.getElem_set_ne _ _ hval, if_neg hp]

theorem foldl_clear_product (rs : List LoafRecord) (t : Totals) (p : ProductIx) : (rs.foldl Totals.clear t).products[p] =
    t.products[p].clearedBy (rs.filter fun r => decide (r.product = p)).length
      ((rs.filter fun r => decide (r.product = p)).countP LoafRecord.marked) := by
  induction rs generalizing t with
  | nil => rfl
  | cons r rs ih =>
    rw [List.foldl_cons, ih, clear_product]
    by_cases hp : r.product = p
    · rw [if_pos hp, List.filter_cons_of_pos (by simpa using hp), clearedBy_clearedBy, List.length_cons, List.countP_cons, Nat.add_comm 1,
        Nat.add_comm (if r.marked = true then 1 else 0)]
    · rw [if_neg hp, List.filter_cons_of_neg (by simpa using hp)]

theorem foldl_clear_totals (rs : List LoafRecord) (t : Totals) :
    rs.foldl Totals.clear t = { t with products := (rs.foldl Totals.clear t).products } := by
  induction rs generalizing t with
  | nil => rfl
  | cons r rs ih => rw [List.foldl_cons, ih]; rfl

/-! ### The end of the event -/

theorem purgeTests_at_rest {before s : State} {asked : Option Lane} (hrest : s.moving = false) (hstep : ∀ l, (s.crumb.get l).step ≠ .gapWait) :
    State.purgeTests before asked s = s := by
  have hstart : ∀ l, s.startTest l = s := fun l => startTest_of_not fun hp => by rw [hp.2.2.1] at hrest; cases hrest
  have hpurge : ∀ l, s.beginPurge l = s := fun l => beginPurge_of_cannot fun hc => hstep l hc.1
  have htest : ∀ l, State.testAtEnd before asked s l s = s := fun l => by
    unfold State.testAtEnd
    rw [hstart, ite_self]
  rw [State.purgeTests, htest, htest, hpurge, hpurge]

theorem settleHold_at_rest {l : Lane} {s : State} (hrest : s.moving = false) :
    s.settleHold l = s.modLane l fun q => { q with holdInEffect := true } := by
  have hline : (s.holdSources l).line = true := by
    rcases (moving_false_iff s).1 hrest with h | h <;> simp [State.holdSources, h]
  have hruns : s.conveyorRuns l = false := by rw [State.conveyorRuns, hrest]; rfl
  unfold State.settleHold
  simp only [HoldSources.requested, hline, hruns, Bool.true_or, Bool.and_false, Bool.not_false, Bool.or_true, Bool.and_true]

theorem finish_at_rest {before s : State} {asked : Option Lane} (hrest : s.moving = false) (hstep : ∀ l, (s.crumb.get l).step ≠ .gapWait) :
    State.finish before asked s = { s with
      lanes := ⟨{ s.lanes.a with holdInEffect := true }, { s.lanes.b with holdInEffect := true }⟩ } := by
  have hd : ¬ (s.line.state = .draining ∧ s.Complete) := fun hc => by
    rcases (moving_false_iff s).1 hrest with h | h <;> rw [h] at hc <;> cases hc.1
  rw [State.finish, purgeTests_at_rest hrest hstep, drainTest_of_not hd, settleHold_at_rest hrest, settleHold_at_rest (by exact hrest)]
  rfl

/-! ### The parts of a cleared line -/

theorem Slicer.cleared_eq (x : Slicer) : x.cleared = { x with
    schedule := [], pending := none, timer := none, blade := if x.blade = .home then .home else .homing false } := by
  unfold Slicer.cleared Blade.abandoned
  cases x.blade <;> rfl

theorem Tier.cleared_eq (x : Tier) : x.cleared = { x with
    tie := none, warmUp := 2, streak := 0, learn := if x.learn = .none then .none else .armed } := by
  unfold Tier.cleared Learn.unbind
  cases x.learn <;> rfl

theorem Crumb.clearedLine_eq (c : Crumb) : c.clearedLine = if c.step = .disabled ∨ c.step = .watching then { c with single := false } else
    { c with step := if c.mode = .disabled then .disabled else .watching, last := c.step, phase := none, single := false, manual := false } := by
  rw [Crumb.clearedLine, Crumb.aborted]
  by_cases h : c.step = .disabled ∨ c.step = .watching
  · have hin : ¬ c.step.inCycle = true := by rw [(inCycle_eq_false _).2 h]; decide
    rw [if_pos h, if_neg hin]
  · have hin : c.step.inCycle = true := by rwa [inCycle_iff, ← not_or]
    rw [if_neg h, if_pos hin]

theorem Crumb.tellAborted_eq (l : Lane) (c : Crumb) (q : Notices) : c.tellAborted l q =
    if c.step = .disabled ∨ c.step = .watching then q else q.place (.purgeAborted l c.step c.load true) := by
  unfold Crumb.tellAborted
  cases c.step <;> rfl

theorem Router.cleared_idleOrder (x : Router) : ((x.cleared .one).cleared .two).idleOrder = [.one, .two] := by
  have hnone : (x.idleOrder.filter (fun y => y != .one)).filter (fun y => y != .two) = [] := by
    rw [List.filter_filter, List.filter_eq_nil_iff]
    intro y _
    cases y <;> decide
  show List.filter (fun y => y != Head.two) (x.idleOrder.filter (fun y => y != .one) ++ [.one]) ++ [.two] = _
  rw [List.filter_append, hnone]
  rfl

/-- Settles O58. -/
theorem clearEmptiesTheLine : Obligations.ClearEmptiesTheLine := by
  intro tag s hfree
  refine ⟨fun hm => rejects_of_refuse doClear rfl hfree (if_pos hm), fun hrest hair => ?_⟩
  obtain ⟨t, n, hclear, hcleared⟩ := lineClear_parts hrest hair
  have hdo : doClear s = served (State.finish s none s.lineClear) [BitVec.ofNat 8 s.lanes.a.queue.length, BitVec.ofNat 8 s.lanes.b.queue.length,
      boolCode s.heads.one.record.isSome, boolCode s.heads.two.record.isSome] := by
    rw [doClear, hrest, beBytes_one, beBytes_one]
    rfl
  have hstep : ∀ l, (s.lineClear.crumb.get l).step ≠ .gapWait := fun l he => by
    have hin : (s.crumb.get l).aborted.step.inCycle = false := aborted_inCycle _
    rw [hclear] at he
    have hgap : (s.crumb.get l).aborted.step = .gapWait := by cases l <;> exact he
    rw [hgap] at hin
    cases hin
  have hend := finish_at_rest (before := s) (asked := none) (s := s.lineClear) (by rw [hclear]; rfl) hstep
  refine ⟨_, accepts_of_served doClear rfl hfree hdo, ?_⟩
  rw [hend, hclear]
  refine ⟨rfl, rfl, fun l => ?_, fun l => ?_, fun h => ?_, ?_, rfl, rfl, fun h => ?_, fun h => ?_, fun l => ?_, rfl, rfl, rfl, fun hroom => ?_, rfl, rfl, rfl, rfl, rfl, rfl, rfl, rfl⟩
  · cases l <;> rfl
  · cases l <;> exact Slicer.cleared_eq _
  · cases h <;> rfl
  · exact Router.cleared_idleOrder _
  · cases h <;> rfl
  · cases h <;> exact Tier.cleared_eq _
  · cases l <;> exact Crumb.clearedLine_eq _
  · obtain ⟨rfl, rfl⟩ := hcleared hroom
    refine ⟨fun p => foldl_clear_product s.held s.totals p, foldl_clear_totals s.held s.totals, ?_⟩
    intro tell report lane head aborted q
    have hlane : ∀ l q, lane l q = tellQueue (s.lanes.get l).queue q := fun l q => rfl
    have hhead : ∀ h q, head h q = s.tellHead h q := fun h q => rfl
    have haborted : ∀ l q, aborted l q = (s.crumb.get l).tellAborted l q := fun l q => (Crumb.tellAborted_eq l _ q).symm
    have hq : q = s.crumb.b.tellAborted .b (s.crumb.a.tellAborted .a (s.tellHead .two (s.tellHead .one
        (tellQueue s.lanes.b.queue (tellQueue s.lanes.a.queue s.notices))))) := by
      simp only [q, hlane, hhead, haborted]
      rfl
    rw [hq]

end Sys2Proof.Machine
end

section
/-! The Quality Watch's evaluation of a record, entry by entry (O43). -/
namespace Sys2Proof.Machine

/-! ### A firing's STOP (R87, R89) -/

/-- The line after the raise of WATCH_STOP, with a record still held. -/
def Line.watchStopped (x : Line) (i : Fin 4) : Line :=
  { x with
    state := if x.state = .running then .draining else x.state
    latched := latchOf (.watchStop i) x.latched
    causes := if x.state = .stopped then x.causes else { x.causes with watchStop := x.causes.watchStop.set i true } }

/-- The notices of that raise. -/
def Line.stopNotices (x : Line) (i : Fin 4) : List Notice :=
  if x.state = .running then [.stopCause (.watchStop i) .running, .lineState .running .draining (latchOf (.watchStop i) x.latched)]
  else [.stopCause (.watchStop i) x.state]

/-- Notices placed one after the other. -/
def Notices.placeAll (ns : List Notice) (q : Notices) : Notices := ns.foldl (fun q x => q.place x) q

theorem raise_watchStop {i : Fin 4} {s : State} (hd : ¬ s.Complete) : s.raise (.watchStop i) = { s with
    line := s.line.watchStopped i, notices := s.notices.placeAll (s.line.stopNotices i) } := by
  have hdrained : s.drained = false := by
    rw [← Bool.not_eq_true, drained_iff]; exact hd
  rw [raise_pending rfl]
  unfold State.lineWithPending State.noticesWithPending State.causesWith Line.watchStopped Line.stopNotices
  rw [hdrained]
  by_cases hr : s.line.state = .running
  · simp [hr, EventCauses.add, Notices.placeAll]
  · simp [hr, EventCauses.add, Notices.placeAll]

/-! ### One entry's turn -/

/-- R84: what an entry does at an evaluation is decided by the entries and chains as it began. -/
def Watch.firesOn (w : Watch) (r : LoafRecord) (i : Fin 4) : Bool :=
  entryFires i (w.pairChained (pairOf i)) (w.entries[i].matchesLoaf r) w.chains[pairOf i].isSome

/-- R85: a first entry of a chained pair that matches arms its chain, and so adds its hit without firing. -/
def Watch.armsOn (w : Watch) (r : LoafRecord) (i : Fin 4) : Bool :=
  w.pairChained (pairOf i) && isFirst i && w.entries[i].matchesLoaf r

/-- R87, R88: the record after an entry's turn. -/
def Watch.turnRecord (w : Watch) (r : LoafRecord) (i : Fin 4) (y : LoafRecord) : LoafRecord :=
  { y with
    hits := if w.firesOn r i || w.armsOn r i then y.hits.set i true else y.hits
    marked := y.marked || (w.firesOn r i && w.entries[i].actions.mark)
    disposition := if w.firesOn r i && w.entries[i].actions.reject then some (y.disposition.getD .watch) else y.disposition }

/-- R87: the line after an entry's turn. -/
def Watch.turnLine (w : Watch) (r : LoafRecord) (i : Fin 4) (x : Line) : Line :=
  if w.firesOn r i && w.entries[i].actions.stop then x.watchStopped i else x

/-- R87: the notices of an entry's turn. -/
def Watch.turnNotices (w : Watch) (r : LoafRecord) (i : Fin 4) (x : Line) : List Notice :=
  if w.firesOn r i then (if w.entries[i].actions.stop then x.stopNotices i else []) ++ [.watchFired i r.number r.lane] else []

theorem updateRecord_id (n : Nat) (s : State) : s.updateRecord n (fun y => y) = s := by
  have hid : onNumber n (fun y => y) = id := by
    funext y; unfold onNumber; split <;> rfl
  rw [updateRecord_eq_mapRecords, hid, mapRecords_id]

theorem rejectIf_eq (b : Bool) (n : Nat) (s : State) : s.rejectIf b n =
    s.updateRecord n fun y => { y with disposition := if b then some (y.disposition.getD .watch) else y.disposition } := by
  unfold State.rejectIf
  cases b with
  | true => rfl
  | false => exact (updateRecord_id n s).symm

theorem markIf_eq (b : Bool) (n : Nat) (s : State) : s.markIf b n = s.updateRecord n fun y => { y with marked := y.marked || b } := by
  unfold State.markIf
  cases b with
  | true => simp only [if_true, Bool.or_true]
  | false => simp only [Bool.or_false]; exact (updateRecord_id n s).symm

theorem stopIf_eq {b : Bool} {i : Fin 4} {s : State} (hd : ¬ s.Complete) : s.stopIf b i = { s with
    line := if b then s.line.watchStopped i else s.line
    notices := s.notices.placeAll (if b then s.line.stopNotices i else []) } := by
  unfold State.stopIf
  cases b with
  | true => exact raise_watchStop hd
  | false => rfl

theorem placeAll_append (xs ys : List Notice) (q : Notices) : q.placeAll (xs ++ ys) = (q.placeAll xs).placeAll ys := by
  rw [Notices.placeAll, List.foldl_append]; rfl

theorem fireEntry_parts {i : Fin 4} {n : Nat} {l : Lane} {t : State} (hd : ¬ t.Complete) : t.fireEntry i n l =
    { t.updateRecord n (fun y => { y with
        hits := y.hits.set i true
        marked := y.marked || t.watch.entries[i].actions.mark
        disposition := if t.watch.entries[i].actions.reject then some (y.disposition.getD .watch) else y.disposition }) with
      watch := t.watch.fire i
      line := if t.watch.entries[i].actions.stop then t.line.watchStopped i else t.line
      notices := t.notices.placeAll ((if t.watch.entries[i].actions.stop then t.line.stopNotices i else []) ++ [.watchFired i n l]) } := by
  rw [fireEntry_eq, rejectIf_eq, markIf_eq, updateRecord_updateRecord, updateRecord_updateRecord, stopIf_eq, placeAll_append]
  · rfl
  · rw [complete_updateRecord]; exact hd
  · exact fun _ => rfl
  · exact fun _ => rfl

/-- A state in the course of an evaluation: its records, entries, chains, line and notices as the turns so far leave them. -/
def State.evaluating (n : Nat) (mark : LoafRecord → LoafRecord) (entries : Vector WatchEntry 4) (chains : Vector (Option Nat) 2) (line : Line)
    (notices : Notices) (s : State) : State :=
  { s.updateRecord n mark with watch := { s.watch with entries := entries, chains := chains }, line := line, notices := notices }

/-- The entries have at most counted firings. -/
def SameEntries (entries : Vector WatchEntry 4) (w : Watch) : Prop :=
  ∀ i : Fin 4, ∃ count, entries[i] = { w.entries[i] with fireCount := count }

/-- R85: the chains after an entry's turn. -/
def Watch.turnChains (w : Watch) (r : LoafRecord) (i : Fin 4) (chains : Vector (Option Nat) 2) : Vector (Option Nat) 2 :=
  if w.pairChained (pairOf i) && !isFirst i then chains.set (pairOf i) (w.chainTurn r w.chains[pairOf i] i) else chains

/-- R76: the entries after an entry's turn. -/
def Watch.turnEntries (w : Watch) (r : LoafRecord) (i : Fin 4) (entries : Vector WatchEntry 4) : Vector WatchEntry 4 :=
  if w.firesOn r i then entries.set i entries[i].fired else entries

section
variable {w : Watch} {r : LoafRecord} {i : Fin 4} {mark : LoafRecord → LoafRecord} {entries : Vector WatchEntry 4} {chains : Vector (Option Nat) 2}
  {line : Line} {notices : Notices} {s : State}

theorem sameEntries_reads (h : SameEntries entries w) (v : Watch) (hv : v.entries = entries) (i : Fin 4) :
    v.entries[i].matchesLoaf r = w.entries[i].matchesLoaf r ∧ v.entries[i].actions = w.entries[i].actions ∧
      v.entries[i].armWindow = w.entries[i].armWindow ∧ v.entries[i].chained = w.entries[i].chained := by
  obtain ⟨count, hi⟩ := h i
  rw [hv, hi]
  exact ⟨rfl, rfl, rfl, rfl⟩

theorem SameEntries.turn (h : SameEntries entries w) : SameEntries (w.turnEntries r i entries) w := by
  intro j
  obtain ⟨count, hj⟩ := h j
  unfold Watch.turnEntries
  split
  · by_cases hij : i = j
    · subst hij
      refine ⟨entries[i].fired.fireCount, ?_⟩
      simp only [Fin.getElem_fin, Vector.getElem_set_self, WatchEntry.fired] at hj ⊢
      rw [hj]
    · have hval : i.val ≠ j.val := fun hv => hij (Fin.ext hv)
      exact ⟨count, by simp only [Fin.getElem_fin, Vector.getElem_set_ne _ _ hval] at hj ⊢; exact hj⟩
  · exact ⟨count, hj⟩

theorem evaluating_pairChained (hsame : SameEntries entries w) (n : Nat) (p : Fin 2) :
    (s.evaluating n mark entries chains line notices).watch.pairChained p = w.pairChained p := by
  obtain ⟨count, h⟩ := hsame (secondEntry p)
  show entries[secondEntry p].chained = _
  rw [h]
  rfl

theorem evaluating_updateRecord (hmark : ∀ y, (mark y).number = y.number) (n : Nat) (f : LoafRecord → LoafRecord) :
    (s.evaluating n mark entries chains line notices).updateRecord n f = s.evaluating n (fun y => f (mark y)) entries chains line notices := by
  show { (s.updateRecord n mark).updateRecord n f with
    watch := { s.watch with entries := entries, chains := chains }, line := line, notices := notices } = _
  rw [updateRecord_updateRecord hmark]
  rfl

theorem evaluating_complete (n : Nat) : (s.evaluating n mark entries chains line notices).Complete ↔ s.Complete :=
  Iff.trans Iff.rfl (complete_updateRecord n mark)

theorem entryTurn_evaluating (hs : ¬ s.Complete) (hmark : ∀ y, (mark y).number = y.number) (hsame : SameEntries entries w) :
    (s.evaluating r.number mark entries chains line notices).entryTurn r w.chains i =
      s.evaluating r.number (fun y => w.turnRecord r i (mark y)) (w.turnEntries r i entries) chains (w.turnLine r i line)
        (notices.placeAll (w.turnNotices r i line)) := by
  obtain ⟨hmatch, hactions, -, -⟩ := sameEntries_reads (r := r) hsame (s.evaluating r.number mark entries chains line notices).watch rfl i
  unfold State.entryTurn
  rw [evaluating_pairChained hsame, hmatch]
  show (if w.firesOn r i then _ else if w.armsOn r i then _ else _) = _
  cases hf : w.firesOn r i with
  | true =>
    rw [if_pos rfl, fireEntry_parts (mt (evaluating_complete _).1 hs), evaluating_updateRecord hmark, hactions]
    simp only [Watch.turnRecord, Watch.turnEntries, Watch.turnLine, Watch.turnNotices, hf, if_true, Bool.true_or, Bool.true_and]
    rfl
  | false =>
    rw [if_neg Bool.false_ne_true]
    simp only [Watch.turnRecord, Watch.turnEntries, Watch.turnLine, Watch.turnNotices, hf, Bool.false_eq_true, if_false, Bool.false_or,
      Bool.false_and, Bool.or_false]
    cases ha : w.armsOn r i with
    | true =>
      rw [if_pos rfl, evaluating_updateRecord hmark]
      rfl
    | false => rfl

theorem settleEntry_evaluating (hs : ¬ s.Complete) (hmark : ∀ y, (mark y).number = y.number) (hsame : SameEntries entries w) :
    (s.evaluating r.number mark entries chains line notices).settleEntry r w.chains i =
      s.evaluating r.number (fun y => w.turnRecord r i (mark y)) (w.turnEntries r i entries) (w.turnChains r i chains) (w.turnLine r i line)
        (notices.placeAll (w.turnNotices r i line)) := by
  have hreads := fun j => sameEntries_reads (r := r) hsame (s.evaluating r.number mark entries chains line notices).watch rfl j
  have hchain : (s.evaluating r.number mark entries chains line notices).watch.chainTurn r w.chains[pairOf i] i =
      w.chainTurn r w.chains[pairOf i] i := by
    obtain ⟨hmatch, -, hwindow, -⟩ := hreads i
    obtain ⟨hfirst, -⟩ := hreads (if pairOf i = 0 then 0 else 2)
    rw [Watch.chainTurn, Watch.chainTurn, hmatch, hwindow, hfirst]
  rw [settleEntry_eq, entryTurn_evaluating hs hmark hsame, evaluating_pairChained hsame, hchain]
  unfold Watch.turnChains
  split <;> rfl

end

/-! ### The turns in index order -/

/-- R87: the notices of the turns, each on the line the earlier ones leave. -/
def Watch.turnsNotices (w : Watch) (r : LoafRecord) : List (Fin 4) → Line → List Notice
  | [], _ => []
  | i :: turns, x => w.turnNotices r i x ++ w.turnsNotices r turns (w.turnLine r i x)

theorem turns_evaluating {w : Watch} {r : LoafRecord} {s : State} (hs : ¬ s.Complete) (turns : List (Fin 4)) :
    ∀ {mark : LoafRecord → LoafRecord} {entries : Vector WatchEntry 4} {chains : Vector (Option Nat) 2} {line : Line} {notices : Notices},
      (∀ y, (mark y).number = y.number) → SameEntries entries w →
      turns.foldl (fun t i => t.settleEntry r w.chains i) (s.evaluating r.number mark entries chains line notices) =
        s.evaluating r.number (fun y => turns.foldl (fun y i => w.turnRecord r i y) (mark y)) (turns.foldl (fun es i => w.turnEntries r i es) entries)
          (turns.foldl (fun cs i => w.turnChains r i cs) chains) (turns.foldl (fun x i => w.turnLine r i x) line)
          (notices.placeAll (w.turnsNotices r turns line)) := by
  induction turns with
  | nil => intros; rfl
  | cons i turns ih =>
    intro mark entries chains line notices hmark hsame
    have hrest := ih (mark := fun y => w.turnRecord r i (mark y)) (entries := w.turnEntries r i entries) (chains := w.turnChains r i chains)
      (line := w.turnLine r i line) (notices := notices.placeAll (w.turnNotices r i line)) (fun y => hmark y) hsame.turn
    rw [List.foldl_cons, settleEntry_evaluating hs hmark hsame, hrest, Watch.turnsNotices, placeAll_append]
    rfl

/-- The evaluation's four turns from the state in which it begins. -/
def State.afterTurns (r : LoafRecord) (s : State) : State :=
  s.evaluating r.number (fun y => [0, 1, 2, 3].foldl (fun y i => s.watch.turnRecord r i y) y)
    ([0, 1, 2, 3].foldl (fun es i => s.watch.turnEntries r i es) s.watch.entries)
    ([0, 1, 2, 3].foldl (fun cs i => s.watch.turnChains r i cs) s.watch.chains)
    ([0, 1, 2, 3].foldl (fun x i => s.watch.turnLine r i x) s.line)
    (s.notices.placeAll (s.watch.turnsNotices r [0, 1, 2, 3] s.line))

theorem not_complete_of_found {n : Nat} {r : LoafRecord} {s : State} (h : s.findRecord n = some r) : ¬ s.Complete := by
  intro hc
  have hmem : r ∈ s.held := List.mem_of_find?_eq_some h
  obtain ⟨hlanes, hheads⟩ := hc
  have ha := (hlanes .a).1
  have hb := (hlanes .b).1
  have h1 := hheads .one
  have h2 := hheads .two
  simp only [PerLane.get, PerHead.get] at ha hb h1 h2
  simp [State.held, ha, hb, h1, h2] at hmem

theorem turns_of_found {n : Nat} {r : LoafRecord} {s : State} (h : s.findRecord n = some r) :
    [0, 1, 2, 3].foldl (fun t (i : Fin 4) => t.settleEntry r s.watch.chains i) s = s.afterTurns r := by
  have hself : s.evaluating r.number (fun y => y) s.watch.entries s.watch.chains s.line s.notices = s := by
    show { s.updateRecord r.number (fun y => y) with watch := s.watch, line := s.line, notices := s.notices } = s
    rw [updateRecord_id]
  have hturns := turns_evaluating (w := s.watch) (r := r) (not_complete_of_found h) [0, 1, 2, 3] (mark := fun y => y) (entries := s.watch.entries)
    (chains := s.watch.chains) (line := s.line) (notices := s.notices) (fun _ => rfl) fun i => ⟨s.watch.entries[i].fireCount, rfl⟩
  rw [hself] at hturns
  exact hturns

theorem held_mapRecords (f : LoafRecord → LoafRecord) (s : State) : (s.mapRecords f).held = s.held.map f := by
  cases h1 : s.heads.one.record <;> cases h2 : s.heads.two.record <;> simp [State.held, State.mapRecords, h1, h2]

theorem findRecord_updateRecord {n : Nat} {f : LoafRecord → LoafRecord} (hf : ∀ y, (f y).number = y.number) (s : State) :
    (s.updateRecord n f).findRecord n = (s.findRecord n).map f := by
  rw [State.findRecord, updateRecord_eq_mapRecords, held_mapRecords, find_map_onNumber hf]
  show (s.findRecord n).map (onNumber n f) = _
  cases h : s.findRecord n with
  | none => rfl
  | some r =>
    have hnumber : r.number = n := by simpa using List.find?_some h
    simp only [Option.map_some, onNumber, hnumber, if_true]

theorem evaluate_of_found {n : Nat} {r : LoafRecord} {s : State} (h : s.findRecord n = some r) : s.evaluate n =
    (match r.plan with
      | none => s.afterTurns r
      | some p => (s.afterTurns r).captureDecision n (([0, 1, 2, 3].foldl (fun y i => s.watch.turnRecord r i y) r).summary p)
        ([0, 1, 2, 3].any fun i => s.watch.firesOn r i && s.watch.entries[i].actions.captureStart)
        ([0, 1, 2, 3].any fun i => s.watch.firesOn r i && s.watch.entries[i].actions.captureStop)) := by
  have hnumber : r.number = n := by simpa using List.find?_some h
  have hmark : ∀ y : LoafRecord, ([0, 1, 2, 3].foldl (fun y i => s.watch.turnRecord r i y) y).number = y.number := fun y => rfl
  have hfound : (s.afterTurns r).findRecord n = some ([0, 1, 2, 3].foldl (fun y i => s.watch.turnRecord r i y) r) := by
    have hupdate := findRecord_updateRecord (n := n) hmark s
    rw [h] at hupdate
    rw [State.afterTurns, hnumber]
    exact hupdate
  unfold State.evaluate
  rw [h]
  simp only [turns_of_found h, hfound]
  cases hp : r.plan with
  | none =>
    have hplan : ([0, 1, 2, 3].foldl (fun y i => s.watch.turnRecord r i y) r).plan = none := hp
    simp only [hplan]
  | some p =>
    have hplan : ([0, 1, 2, 3].foldl (fun y i => s.watch.turnRecord r i y) r).plan = some p := hp
    simp only [hplan]
    rfl

end Sys2Proof.Machine
end

section
/-! What an evaluation makes of chains, entries, record, line, notices and capture log (O43). -/
namespace Sys2Proof.Machine

/-! ### The turns in closed form -/

section
variable (w : Watch) (r : LoafRecord)

theorem turnEntries_foldl (turns : List (Fin 4)) (hnodup : turns.Nodup) (entries : Vector WatchEntry 4) (j : Fin 4) :
    (turns.foldl (fun es i => w.turnEntries r i es) entries)[j] = if j ∈ turns ∧ w.firesOn r j = true then entries[j].fired else entries[j] := by
  induction turns generalizing entries with
  | nil => simp
  | cons i turns ih =>
    rw [List.nodup_cons] at hnodup
    have hturn : (w.turnEntries r i entries)[j] = if i = j ∧ w.firesOn r j = true then entries[j].fired else entries[j] := by
      unfold Watch.turnEntries
      by_cases hij : i = j
      · subst hij
        cases hf : w.firesOn r i <;> simp
      · have hval : i.val ≠ j.val := fun hv => hij (Fin.ext hv)
        split
        · simp only [Fin.getElem_fin, Vector.getElem_set_ne _ _ hval, hij, false_and, if_false]
        · simp only [hij, false_and, if_false]
    rw [List.foldl_cons, ih hnodup.2, hturn]
    by_cases hij : i = j
    · subst hij
      simp [hnodup.1]
    · have hji : ¬ j = i := fun h => hij h.symm
      simp [hij, hji]

theorem turnChains_foldl (chains : Vector (Option Nat) 2) (p : Fin 2) :
    (([0, 1, 2, 3] : List (Fin 4)).foldl (fun cs i => w.turnChains r i cs) chains)[p] =
      if w.pairChained p = true then w.chainTurn r w.chains[p] (secondEntry p) else chains[p] := by
  have h0 : ∀ cs, w.turnChains r 0 cs = cs := fun cs => if_neg (by simp [isFirst])
  have h2 : ∀ cs, w.turnChains r 2 cs = cs := fun cs => if_neg (by simp [isFirst])
  have h1 : ∀ cs : Vector (Option Nat) 2, w.turnChains r 1 cs = if w.pairChained 0 then cs.set 0 (w.chainTurn r w.chains[0] 1) else cs := fun cs => by
    simp [Watch.turnChains, pairOf, isFirst]
  have h3 : ∀ cs : Vector (Option Nat) 2, w.turnChains r 3 cs = if w.pairChained 1 then cs.set 1 (w.chainTurn r w.chains[1] 3) else cs := fun cs => by
    simp [Watch.turnChains, pairOf, isFirst]
  simp only [List.foldl_cons, List.foldl_nil, h0, h1, h2, h3]
  have hp : p = 0 ∨ p = 1 := by omega
  by_cases hc0 : w.pairChained 0 = true <;> by_cases hc1 : w.pairChained 1 = true <;> rcases hp with rfl | rfl <;>
    simp [secondEntry, hc0, hc1]

theorem turnRecord_foldl (turns : List (Fin 4)) (y : LoafRecord) : turns.foldl (fun y i => w.turnRecord r i y) y = { y with
    hits := Vector.ofFn fun j : Fin 4 => y.hits[j] || turns.any fun i => decide (i = j) && (w.firesOn r i || w.armsOn r i)
    marked := y.marked || turns.any fun i => w.firesOn r i && w.entries[i].actions.mark
    disposition := if turns.any (fun i => w.firesOn r i && w.entries[i].actions.reject) then some (y.disposition.getD .watch) else y.disposition } := by
  induction turns generalizing y with
  | nil =>
    have hhits : (Vector.ofFn fun j : Fin 4 => y.hits[j] || ([] : List (Fin 4)).any fun i => decide (i = j) && (w.firesOn r i || w.armsOn r i)) = y.hits := by
      ext j hj; simp
    rw [hhits]
    simp
  | cons i turns ih =>
    have hhits : ∀ j : Fin 4, ((w.turnRecord r i y).hits[j] || turns.any fun i => decide (i = j) && (w.firesOn r i || w.armsOn r i)) =
        (y.hits[j] || (i :: turns).any fun i => decide (i = j) && (w.firesOn r i || w.armsOn r i)) := fun j => by
      rw [List.any_cons, ← Bool.or_assoc]
      refine congrArg (· || _) ?_
      unfold Watch.turnRecord
      by_cases hij : i = j
      · subst hij
        cases w.firesOn r i || w.armsOn r i <;> simp
      · have hval : i.val ≠ j.val := fun hv => hij (Fin.ext hv)
        simp only [hij, decide_false, Bool.false_and, Bool.or_false]
        split
        · simp only [Fin.getElem_fin, Vector.getElem_set_ne _ _ hval]
        · rfl
    have hmarked : ((w.turnRecord r i y).marked || turns.any fun i => w.firesOn r i && w.entries[i].actions.mark) =
        (y.marked || (i :: turns).any fun i => w.firesOn r i && w.entries[i].actions.mark) := by
      rw [List.any_cons, ← Bool.or_assoc]; rfl
    have hdisposition : (if turns.any (fun i => w.firesOn r i && w.entries[i].actions.reject) then
          some ((w.turnRecord r i y).disposition.getD .watch) else (w.turnRecord r i y).disposition) =
        if (i :: turns).any (fun i => w.firesOn r i && w.entries[i].actions.reject) then some (y.disposition.getD .watch)
          else y.disposition := by
      rw [List.any_cons]
      unfold Watch.turnRecord
      cases w.firesOn r i && w.entries[i].actions.reject <;>
        cases turns.any (fun i => w.firesOn r i && w.entries[i].actions.reject) <;> simp
    rw [List.foldl_cons, ih]
    simp only [hhits, hmarked, hdisposition]
    rfl

theorem turnLine_foldl (turns : List (Fin 4)) (x : Line) : turns.foldl (fun x i => w.turnLine r i x) x =
    ((turns.filter (w.firesOn r)).filter fun i => w.entries[i].actions.stop).foldl Line.watchStopped x := by
  induction turns generalizing x with
  | nil => rfl
  | cons i turns ih =>
    rw [List.foldl_cons, ih, Watch.turnLine]
    cases hf : w.firesOn r i with
    | false => rw [List.filter_cons_of_neg (by simp [hf])]; rfl
    | true =>
      rw [List.filter_cons_of_pos hf, List.filter_cons]
      cases w.entries[i].actions.stop <;> rfl

end

/-! ### The line and the notices of the firings that stop it -/

/-- R149 step 2: the latch after these entries' raises; the first of them alone can change it. -/
def latchedBy (stops : List (Fin 4)) (latched : Option Cause) : Option Cause :=
  stops.head?.elim latched fun i => latchOf (.watchStop i) latched

theorem latchOf_watchStop (i j : Fin 4) (latched : Option Cause) :
    latchOf (.watchStop j) (latchOf (.watchStop i) latched) = latchOf (.watchStop i) latched := by
  cases latched with
  | none => rfl
  | some old =>
    by_cases h : (Cause.watchStop i).priority < old.priority
    · have htaken : latchOf (.watchStop i) (some old) = some (.watchStop i) := if_pos h
      rw [htaken]
      show (if (Cause.watchStop j).priority < (Cause.watchStop i).priority then some (Cause.watchStop j) else some (Cause.watchStop i)) = _
      exact if_neg (Nat.lt_irrefl (Cause.watchStop i).priority)
    · have hkept : latchOf (.watchStop i) (some old) = some old := if_neg h
      rw [hkept]
      exact if_neg h

theorem watchStopped_not_running (x : Line) (i : Fin 4) : ¬ (x.watchStopped i).state = .running := by
  show ¬ (if x.state = .running then LineState.draining else x.state) = .running
  split
  · decide
  · assumption

theorem watchStopped_foldl (stops : List (Fin 4)) (x : Line) : stops.foldl Line.watchStopped x = { x with
    state := if stops ≠ [] ∧ x.state = .running then .draining else x.state
    latched := latchedBy stops x.latched
    causes := if x.state = .stopped then x.causes else { x.causes with
      watchStop := Vector.ofFn fun i : Fin 4 => x.causes.watchStop[i] || decide (i ∈ stops) } } := by
  induction stops generalizing x with
  | nil =>
    have hsame : (Vector.ofFn fun i : Fin 4 => x.causes.watchStop[i] || decide (i ∈ ([] : List (Fin 4)))) = x.causes.watchStop := by
      ext j hj; simp
    rw [hsame]
    simp [latchedBy]
  | cons i stops ih =>
    have hlatched : latchedBy stops (latchOf (.watchStop i) x.latched) = latchOf (.watchStop i) x.latched := by
      cases stops with
      | nil => rfl
      | cons j rest => exact latchOf_watchStop i j _
    have hset : (Vector.ofFn fun j : Fin 4 => (x.causes.watchStop.set i true)[j] || decide (j ∈ stops)) =
        Vector.ofFn fun j : Fin 4 => x.causes.watchStop[j] || decide (j ∈ i :: stops) := by
      refine congrArg Vector.ofFn (funext fun j => ?_)
      by_cases hij : i = j
      · subst hij; simp
      · have hval : i.val ≠ j.val := fun hv => hij (Fin.ext hv)
        have hji : ¬ j = i := fun h => hij h.symm
        simp [Vector.getElem_set_ne _ _ hval, hji]
    have hstate : (if stops ≠ [] ∧ (x.watchStopped i).state = .running then LineState.draining else (x.watchStopped i).state) =
        if i :: stops ≠ [] ∧ x.state = .running then .draining else x.state := by
      rw [if_neg fun hc => watchStopped_not_running x i hc.2]
      simp [Line.watchStopped]
    have hcauses : (if (x.watchStopped i).state = .stopped then (x.watchStopped i).causes else { (x.watchStopped i).causes with
          watchStop := Vector.ofFn fun j : Fin 4 => (x.watchStopped i).causes.watchStop[j] || decide (j ∈ stops) }) =
        if x.state = .stopped then x.causes else { x.causes with
          watchStop := Vector.ofFn fun j : Fin 4 => x.causes.watchStop[j] || decide (j ∈ i :: stops) } := by
      rw [← hset]
      by_cases hs : x.state = .stopped
      · simp [Line.watchStopped, hs]
      · have hnot : ¬ (x.watchStopped i).state = .stopped := by
          show ¬ (if x.state = .running then LineState.draining else x.state) = .stopped
          split
          · decide
          · exact hs
        rw [if_neg hs, if_neg hnot]
        simp only [Line.watchStopped, if_neg hs]
    rw [List.foldl_cons, ih, hstate, hcauses, show (x.watchStopped i).latched = latchOf (.watchStop i) x.latched from rfl, hlatched]
    rfl

/-- The notices of one entry's firing, by the line as the evaluation found it and the firings that stop it. -/
def Watch.placedBy (w : Watch) (r : LoafRecord) (x : Line) (stops : List (Fin 4)) (i : Fin 4) : List Notice :=
  (if w.entries[i].actions.stop = true then
    (if stops.head? = some i ∧ x.state = .running then
      [.stopCause (.watchStop i) .running, .lineState .running .draining (latchedBy stops x.latched)]
    else [.stopCause (.watchStop i) (if x.state = .running then .draining else x.state)])
  else []) ++ [.watchFired i r.number r.lane]

theorem placedBy_later {w : Watch} {r : LoafRecord} {x : Line} {i j : Fin 4} {stops : List (Fin 4)} (h : i ≠ j) :
    w.placedBy r x (i :: stops) j = w.placedBy r (x.watchStopped i) stops j := by
  have hnot : ¬ ((i :: stops).head? = some j ∧ x.state = .running) := fun hc => h (by simpa using hc.1)
  have hstate := watchStopped_not_running x i
  have hlater : (x.watchStopped i).state = if x.state = .running then .draining else x.state := rfl
  unfold Watch.placedBy
  rw [if_neg hnot, if_neg (show ¬ (stops.head? = some j ∧ (x.watchStopped i).state = .running) from fun hc => hstate hc.2), if_neg hstate, hlater]

theorem turnsNotices_eq (w : Watch) (r : LoafRecord) (turns : List (Fin 4)) (hnodup : turns.Nodup) (x : Line) :
    w.turnsNotices r turns x = ((turns.filter (w.firesOn r)).map
      (w.placedBy r x ((turns.filter (w.firesOn r)).filter fun i => w.entries[i].actions.stop))).flatten := by
  induction turns generalizing x with
  | nil => rfl
  | cons i turns ih =>
    obtain ⟨hi, hnodup⟩ := List.nodup_cons.1 hnodup
    rw [Watch.turnsNotices, ih hnodup]
    cases hf : w.firesOn r i with
    | false =>
      rw [List.filter_cons_of_neg (by simp [hf])]
      simp only [Watch.turnNotices, Watch.turnLine, hf]
      rfl
    | true =>
      rw [List.filter_cons_of_pos hf, List.map_cons, List.flatten_cons]
      cases hs : w.entries[i].actions.stop with
      | false =>
        rw [List.filter_cons_of_neg (p := fun i : Fin 4 => w.entries[i].actions.stop) (show ¬ w.entries[i].actions.stop = true by rw [hs]; decide)]
        simp only [Watch.turnNotices, Watch.turnLine, Watch.placedBy, hf, hs]
        rfl
      | true =>
        rw [List.filter_cons_of_pos (p := fun i : Fin 4 => w.entries[i].actions.stop) (show w.entries[i].actions.stop = true from hs)]
        have hline : w.turnLine r i x = x.watchStopped i := by
          rw [Watch.turnLine, hf, hs]; rfl
        have hfirst : ∀ stops, w.turnNotices r i x = w.placedBy r x (i :: stops) i := fun stops => by
          simp only [Watch.turnNotices, Watch.placedBy, hf, hs, Line.stopNotices, latchedBy, List.head?_cons, Option.elim_some, if_true, true_and]
          by_cases hr : x.state = .running
          · simp only [hr, if_true]
          · simp only [hr, if_false]
        have hlater : ∀ stops, (turns.filter (w.firesOn r)).map (w.placedBy r (x.watchStopped i) stops) =
            (turns.filter (w.firesOn r)).map (w.placedBy r x (i :: stops)) := fun stops =>
          List.map_congr_left fun j hj => (placedBy_later fun he => hi (by rw [he]; exact List.mem_of_mem_filter hj)).symm
        rw [hline, hfirst _, hlater]

/-! ### The evaluation's parts -/

theorem captureDecision_watch (n : Nat) (c : Summary) (start stop : Bool) (s : State) :
    (s.captureDecision n c start stop).watch.chains = s.watch.chains ∧ (s.captureDecision n c start stop).watch.entries = s.watch.entries := by
  unfold State.captureDecision
  dsimp only
  repeat' split
  all_goals exact ⟨rfl, rfl⟩

theorem evaluate_watch {n : Nat} {r : LoafRecord} {s : State} (h : s.findRecord n = some r) :
    (s.evaluate n).watch.chains = (s.afterTurns r).watch.chains ∧ (s.evaluate n).watch.entries = (s.afterTurns r).watch.entries := by
  rw [evaluate_of_found h]
  cases r.plan with
  | none => exact ⟨rfl, rfl⟩
  | some p => exact captureDecision_watch _ _ _ _ _

end Sys2Proof.Machine
end

section
/-! The evaluation: chains, firings, record, line, notices and the capture decision (O43). -/
namespace Sys2Proof.Machine

/-! ### Chains and fire counts of a pair (R85) -/

section
variable {n : Nat} {r : LoafRecord} {s : State}

theorem evaluate_chain (h : s.findRecord n = some r) (p : Fin 2) : (s.evaluate n).watch.chains[p] =
    if s.watch.pairChained p = true then s.watch.chainTurn r s.watch.chains[p] (secondEntry p) else s.watch.chains[p] := by
  rw [(evaluate_watch h).1]
  exact turnChains_foldl s.watch r s.watch.chains p

theorem evaluate_entry (h : s.findRecord n = some r) (i : Fin 4) : (s.evaluate n).watch.entries[i] =
    if s.watch.firesOn r i = true then s.watch.entries[i].fired else s.watch.entries[i] := by
  have hall : i ∈ ([0, 1, 2, 3] : List (Fin 4)) := by revert i; decide
  rw [(evaluate_watch h).2]
  refine (turnEntries_foldl s.watch r [0, 1, 2, 3] (by decide) s.watch.entries i).trans ?_
  simp only [hall, true_and]

end

theorem isFirst_secondEntry (p : Fin 2) : isFirst (secondEntry p) = false := by revert p; decide

theorem firesOn_second (w : Watch) (r : LoafRecord) (p : Fin 2) (h : w.pairChained p = true) :
    w.firesOn r (secondEntry p) = (w.entries[secondEntry p].matchesLoaf r && w.chains[p].isSome) := by
  simp only [Watch.firesOn, pairOf_secondEntry, h, entryFires, isFirst_secondEntry, if_true, Bool.false_eq_true, if_false]

theorem evaluate_pair {n : Nat} {r : LoafRecord} {s : State} (h : s.findRecord n = some r) (p : Fin 2) (hc : s.watch.pairChained p = true) :
    (s.evaluate n).watch.chains[p] = chainAfter s.watch.chains[p] (s.watch.entries[if p = 0 then (0 : Fin 4) else 2].matchesLoaf r)
        (s.watch.entries[secondEntry p].matchesLoaf r) s.watch.entries[secondEntry p].armWindow ∧
      (s.evaluate n).watch.entries[secondEntry p].fireCount =
        if (s.watch.entries[secondEntry p].matchesLoaf r && s.watch.chains[p].isSome) = true
        then min 65535 (s.watch.entries[secondEntry p].fireCount + 1) else s.watch.entries[secondEntry p].fireCount := by
  constructor
  · rw [evaluate_chain h, if_pos hc]
    simp only [Watch.chainTurn, pairOf_secondEntry]
  · rw [evaluate_entry h, firesOn_second _ _ _ hc, apply_ite WatchEntry.fireCount]
    rfl

/-! ### Firings in the words of R84 -/

theorem firesOn_iff (w : Watch) (r : LoafRecord) (i : Fin 4) : w.firesOn r i = true ↔ w.entries[i].matchesLoaf r = true ∧
    ((if i.val < 2 then w.entries[1].chained else w.entries[3].chained) = true →
      (i = 1 ∨ i = 3) ∧ if i.val < 2 then w.chains[0] ≠ none else w.chains[1] ≠ none) := by
  have hchained : w.pairChained (pairOf i) = if i.val < 2 then w.entries[1].chained else w.entries[3].chained := by
    unfold pairOf; split <;> rfl
  have harmed : w.chains[pairOf i].isSome = true ↔ if i.val < 2 then w.chains[0] ≠ none else w.chains[1] ≠ none := by
    unfold pairOf; split <;> simp [Option.isSome_iff_ne_none]
  rw [Watch.firesOn, hchained, ← harmed, ← isFirst_iff, entryFires]
  cases (if i.val < 2 then w.entries[1].chained else w.entries[3].chained) <;> cases isFirst i <;> simp

theorem hitOn_iff (w : Watch) (r : LoafRecord) (i : Fin 4) : (w.firesOn r i || w.armsOn r i) = true ↔ w.firesOn r i = true ∨
    ((if i.val < 2 then w.entries[1].chained else w.entries[3].chained) = true ∧ ¬ (i = 1 ∨ i = 3) ∧ w.entries[i].matchesLoaf r = true) := by
  have hchained : w.pairChained (pairOf i) = if i.val < 2 then w.entries[1].chained else w.entries[3].chained := by
    unfold pairOf; split <;> rfl
  rw [Bool.or_eq_true, Watch.armsOn, hchained, ← isFirst_iff, Bool.and_eq_true, Bool.and_eq_true, and_assoc, Bool.not_eq_false]

/-! ### The state after the turns -/

theorem turnRecord_foldl_all (w : Watch) (r : LoafRecord) {fired : List (Fin 4)} (hfired : fired = ([0, 1, 2, 3] : List (Fin 4)).filter (w.firesOn r))
    (y : LoafRecord) : [0, 1, 2, 3].foldl (fun y i => w.turnRecord r i y) y = { y with
      hits := Vector.ofFn fun i : Fin 4 => y.hits[i] || (w.firesOn r i || w.armsOn r i)
      marked := y.marked || fired.any fun i => w.entries[i].actions.mark
      disposition := if fired.any (fun i => w.entries[i].actions.reject) then some (y.disposition.getD .watch) else y.disposition } := by
  have hall : ∀ i : Fin 4, i ∈ ([0, 1, 2, 3] : List (Fin 4)) := by decide
  have hhits : ∀ j : Fin 4, ([0, 1, 2, 3].any fun i => decide (i = j) && (w.firesOn r i || w.armsOn r i)) = (w.firesOn r j || w.armsOn r j) := fun j => by
    rw [Bool.eq_iff_iff, List.any_eq_true]
    constructor
    · rintro ⟨i, -, hi⟩
      simp only [Bool.and_eq_true, decide_eq_true_eq] at hi
      exact hi.1 ▸ hi.2
    · exact fun hj => ⟨j, hall j, by simp [hj]⟩
  rw [turnRecord_foldl]
  simp only [hhits, hfired, List.any_filter]

theorem afterTurns_eq (r : LoafRecord) (s : State) {fired stops : List (Fin 4)}
    (hfired : fired = ([0, 1, 2, 3] : List (Fin 4)).filter (s.watch.firesOn r))
    (hstops : stops = fired.filter fun i => s.watch.entries[i].actions.stop) : s.afterTurns r =
    { s.updateRecord r.number (fun y => { y with
        hits := Vector.ofFn fun i : Fin 4 => y.hits[i] || (s.watch.firesOn r i || s.watch.armsOn r i)
        marked := y.marked || fired.any fun i => s.watch.entries[i].actions.mark
        disposition := if fired.any (fun i => s.watch.entries[i].actions.reject) then some (y.disposition.getD .watch) else y.disposition }) with
      watch := { s.watch with
        entries := Vector.ofFn fun i : Fin 4 => if s.watch.firesOn r i = true then s.watch.entries[i].fired else s.watch.entries[i]
        chains := (s.afterTurns r).watch.chains }
      line := { s.line with
        state := if stops ≠ [] ∧ s.line.state = .running then .draining else s.line.state
        latched := latchedBy stops s.line.latched
        causes := if s.line.state = .stopped then s.line.causes else { s.line.causes with
          watchStop := Vector.ofFn fun i : Fin 4 => s.line.causes.watchStop[i] || decide (i ∈ stops) } }
      notices := (fired.map (s.watch.placedBy r s.line stops)).flatten.foldl (fun q x => q.place x) s.notices } := by
  have hall : ∀ i : Fin 4, i ∈ ([0, 1, 2, 3] : List (Fin 4)) := by decide
  have hrecord := funext (turnRecord_foldl_all s.watch r hfired)
  have hentries : [0, 1, 2, 3].foldl (fun es i => s.watch.turnEntries r i es) s.watch.entries =
      Vector.ofFn fun i : Fin 4 => if s.watch.firesOn r i = true then s.watch.entries[i].fired else s.watch.entries[i] := by
    ext1 j hj
    have hclosed := turnEntries_foldl s.watch r [0, 1, 2, 3] (by decide) s.watch.entries ⟨j, hj⟩
    simp only [hall, true_and] at hclosed
    rw [Vector.getElem_ofFn]
    exact hclosed
  have hline : [0, 1, 2, 3].foldl (fun x i => s.watch.turnLine r i x) s.line = stops.foldl Line.watchStopped s.line := by
    rw [turnLine_foldl, hstops, hfired]
  have hnotices : s.watch.turnsNotices r [0, 1, 2, 3] s.line = (fired.map (s.watch.placedBy r s.line stops)).flatten := by
    rw [turnsNotices_eq _ _ _ (by decide), hstops, hfired]
  show s.evaluating r.number _ _ (s.afterTurns r).watch.chains _ _ = _
  rw [hrecord, hentries, hline, hnotices, watchStopped_foldl]
  rfl

/-! ### The capture decision (R91, R92) -/

theorem captureDecision_off {n : Nat} {c : Summary} {stop : Bool} {s : State} (h : s.watch.recording = false) :
    s.captureDecision n c false stop = s := by
  unfold State.captureDecision
  rw [h]
  rfl

theorem captureDecision_on {n : Nat} {c : Summary} {start stop : Bool} {s : State} (h : s.watch.recording = true ∨ start = true) :
    (s.watch.capture.length < 15 →
      s.captureDecision n c start stop = { s with watch := { s.watch with capture := s.watch.capture ++ [c], recording := !stop } }) ∧
    (s.watch.capture.length = 15 → s.captureDecision n c start stop =
      { s with watch := { s.watch with capture := s.watch.capture ++ [c], recording := false } }.notify (.captureFull n)) ∧
    (16 ≤ s.watch.capture.length →
      s.captureDecision n c start stop = { s with watch := { s.watch with recording := false } }.notify (.captureFull n)) := by
  have hon : (s.watch.recording || start) = true := by rw [Bool.or_eq_true]; exact h
  unfold State.captureDecision
  simp only [hon, if_true, Bool.true_and, List.length_append, List.length_singleton, Limits.capturePlaces]
  refine ⟨fun hlen => ?_, fun hlen => ?_, fun hlen => ?_⟩
  · rw [if_pos (by omega), if_pos (by omega)]
  · rw [if_pos (by omega), if_neg (by omega)]
  · rw [if_neg (by omega)]

/-- Settles O43. The four turns are folded into closed forms over the entries that fire; the decisions are all taken on the
entries and chains as the evaluation began, so the turns do not see each other but in the line's raises and notices. -/
theorem evaluationsFireAndCapture : Obligations.EvaluationsFireAndCapture := by
  refine ⟨?_, ?_, ?_⟩
  · intro n r s h p first second m1 m2 W after fired
    refine ⟨fun hc => ?_, fun hc => ?_⟩
    · have hnot : ¬ s.watch.pairChained p = true := by rw [Bool.not_eq_true]; exact hc
      exact (evaluate_chain h p).trans (if_neg hnot)
    · obtain ⟨hafter, hcount⟩ := evaluate_pair h p hc
      replace hafter : after = chainAfter s.watch.chains[p] m1 m2 W := hafter
      refine ⟨fun h1 => ?_, fun hp h1 => ?_, fun w hp h1 h2 => ?_, fun w hp h1 h2 => ?_, fun w hp h2 => ?_, fun hoff => ?_⟩
      · rw [hafter, h1]; rfl
      · rw [hafter, h1, hp]; rfl
      · rw [hafter, h1, h2, hp]; rfl
      · rw [hafter, h1, h2, hp]; rfl
      · exact hcount.trans (if_pos (Bool.and_eq_true_iff.2 ⟨h2, by rw [hp]; rfl⟩))
      · refine hcount.trans (if_neg fun hboth => ?_)
        obtain ⟨h2, hsome⟩ := Bool.and_eq_true_iff.1 hboth
        rcases hoff with hp | hno
        · rw [hp] at hsome; cases hsome
        · exact Bool.false_ne_true (hno.symm.trans h2)
  · intro n r s h entry chained armed second fires hit fired stops marks latched placed
    have hnumber : r.number = n := by simpa using List.find?_some h
    have hfires : ∀ i, fires i ↔ s.watch.firesOn r i = true := fun i => (firesOn_iff s.watch r i).symm
    have hhit : ∀ i, decide (hit i) = (s.watch.firesOn r i || s.watch.armsOn r i) := fun i => by
      rw [Bool.eq_iff_iff, decide_eq_true_eq, hitOn_iff]
      exact or_congr_left (hfires i)
    have hfired : fired = ([0, 1, 2, 3] : List (Fin 4)).filter (s.watch.firesOn r) :=
      List.filter_congr fun i _ => by rw [Bool.eq_iff_iff, decide_eq_true_eq]; exact hfires i
    have hlatched : latched = latchedBy stops s.line.latched := by
      show (match stops with | [] => s.line.latched | i :: _ => latchOf (.watchStop i) s.line.latched) = _
      cases stops <;> rfl
    have hplaced : placed = s.watch.placedBy r s.line stops := by
      funext i
      show _ ++ [Notice.watchFired i n r.lane] = _
      rw [hlatched, ← hnumber]
      rfl
    have hmarks : marks = fun y : LoafRecord => { y with
        hits := Vector.ofFn fun i : Fin 4 => y.hits[i] || (s.watch.firesOn r i || s.watch.armsOn r i)
        marked := y.marked || fired.any fun i => s.watch.entries[i].actions.mark
        disposition := if fired.any (fun i => s.watch.entries[i].actions.reject) then some (y.disposition.getD .watch) else y.disposition } := by
      funext y
      show ({ y with hits := Vector.ofFn fun i : Fin 4 => y.hits[i] || decide (hit i), marked := _, disposition := _ } : LoafRecord) = _
      simp only [hhit]
      rfl
    have hentries : (Vector.ofFn fun i : Fin 4 => if fires i then { entry i with fireCount := min 65535 ((entry i).fireCount + 1) } else entry i) =
        Vector.ofFn fun i : Fin 4 => if s.watch.firesOn r i = true then s.watch.entries[i].fired else s.watch.entries[i] := by
      refine congrArg Vector.ofFn (funext fun i => ?_)
      by_cases hi : s.watch.firesOn r i = true
      · rw [if_pos hi, if_pos ((hfires i).2 hi)]; rfl
      · rw [if_neg hi, if_neg (mt (hfires i).1 hi)]
    have hafter := afterTurns_eq r s hfired (stops := stops) rfl
    refine ⟨s.afterTurns r, ?_, fun hp => ?_, fun p hp => ?_⟩
    · rw [hmarks, hentries, hlatched, hplaced, (evaluate_watch h).1, ← hnumber]
      exact hafter
    · rw [evaluate_of_found h, hp]
    · have hany : ∀ f : Fin 4 → Bool, ([0, 1, 2, 3].any fun i => s.watch.firesOn r i && f i) = fired.any f := fun f => by
        rw [hfired, List.any_filter]
      rw [evaluate_of_found h, hp, hmarks, turnRecord_foldl_all s.watch r hfired]
      simp only [hany]
      rfl
  · intro n c start stop s log t
    refine ⟨fun hr hs => ?_, fun hon => captureDecision_on hon⟩
    show s.captureDecision n c start stop = s
    rw [hs]
    exact captureDecision_off hr

end Sys2Proof.Machine
end

section
/-! A record at the tail of its queue, and the points a span has already reached at its admission (O28). -/
namespace Sys2Proof.Machine

/-! ### The tail record -/

/-- The record joins the lane's queue at its tail. -/
def State.withTail (l : Lane) (x : LoafRecord) (u : State) : State := u.modLane l fun q => { q with queue := q.queue ++ [x] }

theorem not_held_lane {n : Nat} {u : State} (hfree : n ∉ u.held.map LoafRecord.number) (l : Lane) :
    n ∉ (u.lanes.get l).queue.map LoafRecord.number := by
  intro hn
  refine hfree ?_
  simp only [State.held, List.map_append, List.mem_append]
  cases l with
  | a => exact .inl (.inl (.inl hn))
  | b => exact .inl (.inl (.inr hn))

theorem queued_of_not_held {n : Nat} {u : State} (hfree : n ∉ u.held.map LoafRecord.number) (l : Lane) : u.queued l n = none := by
  have hlane := not_held_lane hfree l
  unfold State.queued
  rw [List.find?_eq_none]
  intro r hr hn
  exact hlane (List.mem_map.2 ⟨r, hr, by simpa using hn⟩)

theorem onNumber_of_not_mem {n : Nat} {f : LoafRecord → LoafRecord} {rs : List LoafRecord} (h : n ∉ rs.map LoafRecord.number) :
    rs.map (onNumber n f) = rs := by
  refine (List.map_congr_left fun r hr => ?_).trans (List.map_id rs)
  exact if_neg fun hn => h (List.mem_map.2 ⟨r, hr, hn⟩)

section
variable {l : Lane} {n : Nat} {u : State} {x : LoafRecord}

theorem updateRecord_withTail (hfree : n ∉ u.held.map LoafRecord.number) (hx : x.number = n) (f : LoafRecord → LoafRecord) :
    (u.withTail l x).updateRecord n f = u.withTail l (f x) := by
  have hfree' := hfree
  simp only [State.held, List.map_append, List.mem_append, not_or] at hfree'
  obtain ⟨⟨⟨ha, hb⟩, h1⟩, h2⟩ := hfree'
  have hhead : ∀ o : Option LoafRecord, n ∉ o.toList.map LoafRecord.number → o.map (onNumber n f) = o := fun o ho => by
    cases o with
    | none => rfl
    | some y => exact congrArg some (if_neg fun hn => ho (by simp [hn]))
  have hf : onNumber n f x = f x := if_pos hx
  rw [updateRecord_eq_mapRecords]
  unfold State.mapRecords State.withTail
  cases l <;>
    simp only [State.modLane, PerLane.set, PerLane.get, List.map_append, List.map_cons, List.map_nil, hf, hhead _ h1, hhead _ h2, onNumber_of_not_mem ha,
      onNumber_of_not_mem hb]

theorem queued_withTail (hfree : n ∉ u.held.map LoafRecord.number) (hx : x.number = n) : (u.withTail l x).queued l n = some x := by
  have hnone := queued_of_not_held hfree l
  unfold State.queued at hnone ⊢
  simp only [State.withTail, State.modLane, PerLane.get_set]
  rw [List.find?_append, hnone]
  simp [hx]

theorem findRecord_withTail (hfree : n ∉ u.held.map LoafRecord.number) (hx : x.number = n) : (u.withTail l x).findRecord n = some x := by
  simp only [State.held, List.map_append, List.mem_append, not_or] at hfree
  obtain ⟨⟨⟨ha, hb⟩, -⟩, -⟩ := hfree
  have hnone : ∀ rs : List LoafRecord, n ∉ rs.map LoafRecord.number → rs.find? (fun r => r.number == n) = none := fun rs h =>
    List.find?_eq_none.2 fun r hr hn => h (List.mem_map.2 ⟨r, hr, by simpa using hn⟩)
  unfold State.findRecord State.held State.withTail
  cases l <;> simp [State.modLane, PerLane.set, PerLane.get, List.find?_append, hnone _ ha, hnone _ hb, hx]

theorem captureDecision_parts (n : Nat) (c : Summary) (start stop : Bool) (s : State) :
    ∃ w q, s.captureDecision n c start stop = { s with watch := w, notices := q } := by
  unfold State.captureDecision
  dsimp only
  repeat' split
  all_goals exact ⟨_, _, rfl⟩

theorem afterTurns_parts (r : LoafRecord) (t : State) : ∃ w line q, t.afterTurns r =
    { t.updateRecord r.number (fun y => [0, 1, 2, 3].foldl (fun y i => t.watch.turnRecord r i y) y) with watch := w, line := line, notices := q } :=
  ⟨_, _, _, rfl⟩

/-- R79: an evaluation of a record with a disposition changes no more of it than its hits and its mark. -/
theorem evaluate_withTail (hfree : n ∉ u.held.map LoafRecord.number) (hx : x.number = n) {reason : Reason} (hd : x.disposition = some reason) :
    ∃ hits marked w line q, (u.withTail l x).evaluate n =
      { u with watch := w, line := line, notices := q }.withTail l { x with hits := hits, marked := marked } := by
  subst hx
  have hturned : ∃ hits marked, [0, 1, 2, 3].foldl (fun y i => (u.withTail l x).watch.turnRecord x i y) x = { x with hits := hits, marked := marked } := by
    rw [turnRecord_foldl, hd]
    simp only [Option.getD_some, ite_self]
    exact ⟨_, _, rfl⟩
  obtain ⟨hits, marked, hturned⟩ := hturned
  have hafter : ∃ w line q, (u.withTail l x).afterTurns x =
      { u with watch := w, line := line, notices := q }.withTail l { x with hits := hits, marked := marked } := by
    obtain ⟨w, line, q, hparts⟩ := afterTurns_parts x (u.withTail l x)
    refine ⟨w, line, q, hparts.trans ?_⟩
    rw [updateRecord_withTail hfree rfl, hturned]
    rfl
  obtain ⟨w, line, q, hafter⟩ := hafter
  rw [evaluate_of_found (findRecord_withTail hfree rfl), hafter]
  cases x.plan with
  | none => exact ⟨_, _, _, _, _, rfl⟩
  | some p =>
    obtain ⟨w, q, hcapture⟩ := captureDecision_parts _ _ _ _ _
    exact ⟨hits, marked, w, line, q, hcapture⟩

/-! ### The positional events of the tail record -/

/-- R30, R58: the record given a late plan at the blade line. -/
def LoafRecord.late (x : LoafRecord) : LoafRecord :=
  { x with passed := { x.passed with bladeLine := true }, stage := .planned
           plan := some ⟨.latePlan, 0, 0, 0, x.length, [], 0, 0, false, false⟩, disposition := some (x.disposition.getD .latePlan) }

theorem bladeLineEvent_withTail (hfree : n ∉ u.held.map LoafRecord.number) (hx : x.number = n) (hp : x.plan = none) :
    (u.withTail l x).bladeLineEvent l n = { (u.withTail l x.late).evaluate n with planner := u.planner.withdraw n } := by
  rw [bladeLineEvent_late (queued_withTail hfree hx) hp]
  dsimp only
  rw [updateRecord_withTail hfree hx]
  rfl

theorem trailingEvent_withTail (hfree : n ∉ u.held.map LoafRecord.number) (hx : x.number = n) (hstage : x.stage = .planned) :
    (u.withTail l x).trailingEvent l n = u.withTail l { x with
      passed := { x.passed with trailing := true }, stage := if (u.slicers.get l).doneWith n = true then .sliced else x.stage } := by
  by_cases hdone : (u.slicers.get l).doneWith n = true
  · rw [trailingEvent_sliced (queued_withTail hfree hx) hstage hdone, updateRecord_withTail hfree hx, if_pos hdone, if_pos (.inl hstage)]
  · rw [trailingEvent_marked (queued_withTail hfree hx) fun h => hdone h.2, updateRecord_withTail hfree hx, if_neg hdone]

theorem rejectGateEvent_withTail (hfree : n ∉ u.held.map LoafRecord.number) (hx : x.number = n) {reason : Reason} (hd : x.disposition = some reason)
    (hroom : u.totals.products[x.product].rejected reason < 4294967295) : (u.withTail l x).rejectGateEvent l n =
      { u with
        lanes := u.lanes.set l { u.lanes.get l with diverter := some 300 }
        slicers := u.slicers.set l ((u.slicers.get l).dropCuts n)
        totals := { u.totals with
          products := u.totals.products.set x.product ((u.totals.products[x.product].bumpRejected reason).countMarked x.marked) } }.report
            x .rejectGate none none := by
  have hlane := not_held_lane hfree l
  have hfilter : ((u.lanes.get l).queue ++ [x]).filter (fun y => y.number != n) = (u.lanes.get l).queue := by
    have hkept : (u.lanes.get l).queue.filter (fun y => y.number != n) = (u.lanes.get l).queue :=
      List.filter_eq_self.2 fun y hy => bne_iff_ne.2 fun hn => hlane (List.mem_map.2 ⟨y, hy, hn⟩)
    rw [List.filter_append, hkept]
    simp [hx]
  rw [rejectGateEvent_diverted (queued_withTail hfree hx) hd hroom]
  simp only [State.withTail, State.modLane, PerLane.get_set, PerLane.set_set, hfilter]

end

/-! ### The points already reached (R27 step 5) -/

theorem reached_iff {position lead : Quad} {span d : Nat} (h : position - lead = BitVec.ofNat 32 span) (hspan : span < 2147483648)
    (hd : d ≤ 2147483647) : atOrBeyond position (lead + BitVec.ofNat 32 d) = true ↔ d ≤ span := by
  have hdiff : position - (lead + BitVec.ofNat 32 d) = BitVec.ofNat 32 span - BitVec.ofNat 32 d := by
    rw [← h]; ring
  rw [atOrBeyond, decide_eq_true_eq, hdiff]
  constructor <;> intro hle <;> bv_omega

/-- R27 step 5: the point at a distance is taken if the lane's position has reached it. -/
def State.takeAt (q : LaneState) (lead : Quad) (l : Lane) (n : Nat) (e : Positional) (d : Nat) (u : State) : State :=
  if atOrBeyond q.position (lead + BitVec.ofNat 32 d) = true then u.positionalEvent e l n else u

theorem belt_takeAt (q : LaneState) (lead : Quad) (l : Lane) (n : Nat) (e : Positional) (d : Nat) (u : State) :
    (u.takeAt q lead l n e d).lanes.belt l = u.lanes.belt l := by
  unfold State.takeAt
  split
  · exact belt_positionalEvent e l l n u
  · rfl

theorem takeReached_eq {l : Lane} {r : LoafRecord} {q : LaneState} {u : State} (h : u.lanes.belt l = (q.position, q.geometry)) (e : Positional) :
    u.takeReached l r e = u.takeAt q r.lead l r.number e (e.distance q.geometry r) := by
  have hp : (u.lanes.get l).position = q.position := congrArg Prod.fst h
  have hg : (u.lanes.get l).geometry = q.geometry := congrArg Prod.snd h
  simp only [State.takeReached, State.takeAt, hp, hg, pointAt]

theorem takeReached_foldl {l : Lane} {r : LoafRecord} {q : LaneState} (es : List Positional) {u : State} (h : u.lanes.belt l = (q.position, q.geometry)) :
    es.foldl (State.takeReached l r) u = es.foldl (fun u e => u.takeAt q r.lead l r.number e (e.distance q.geometry r)) u := by
  induction es generalizing u with
  | nil => rfl
  | cons e es ih =>
    rw [List.foldl_cons, List.foldl_cons, takeReached_eq h, ih ((belt_takeAt q r.lead l r.number e _ u).trans h)]

theorem admitLoaf_takes (l : Lane) (lead : Quad) (highest : Nat) (p : ProductIx) (span : Nat) (s : State) :
    let q := s.lanes.get l
    let past := q.geometry.dBlade + min span 16383
    let take := State.takeAt q lead l s.nextLoaf
    s.admitLoaf l lead highest p span =
      if past ≤ q.geometry.dReject then
        take .routerGate q.geometry.dRouter (take .rejectGate q.geometry.dReject (take .trailing past (take .bladeLine q.geometry.dBlade
          (s.admitted l lead highest p span))))
      else if past ≤ q.geometry.dRouter then
        take .routerGate q.geometry.dRouter (take .trailing past (take .rejectGate q.geometry.dReject (take .bladeLine q.geometry.dBlade
          (s.admitted l lead highest p span))))
      else
        take .trailing past (take .routerGate q.geometry.dRouter (take .rejectGate q.geometry.dReject (take .bladeLine q.geometry.dBlade
          (s.admitted l lead highest p span)))) := by
  intro q past take
  have hlane : (s.admitted l lead highest p span).lanes.get l = { q with queue := q.queue ++ [q.newRecord l s.nextLoaf lead highest p span] } := by
    rw [admitted_lanes, PerLane.get_set]
  have hbelt : (s.admitted l lead highest p span).lanes.belt l = (q.position, q.geometry) := by
    rw [show (s.admitted l lead highest p span).lanes.belt l = (((s.admitted l lead highest p span).lanes.get l).position,
      ((s.admitted l lead highest p span).lanes.get l).geometry) from rfl, hlane]
  rw [admitLoaf_eq, takeReached_foldl _ hbelt, hlane]
  unfold Positional.inOrder
  by_cases h1 : past ≤ q.geometry.dReject
  · rw [if_pos h1, if_pos (by exact h1)]; rfl
  · rw [if_neg h1, if_neg (by exact h1)]
    by_cases h2 : past ≤ q.geometry.dRouter
    · rw [if_pos h2, if_pos (by exact h2)]; rfl
    · rw [if_neg h2, if_neg (by exact h2)]; rfl

end Sys2Proof.Machine
end

section
/-! Admission: the record formed, and the points its span has already reached, each as its own event (O28). -/
namespace Sys2Proof.Machine

/-! ### The record admitted -/

/-- An admission beside the new record's place in its queue. -/
def State.admittedBase (l : Lane) (p : ProductIx) (s : State) : State :=
  let u := { s with lastLoaf := s.nextLoaf }.countAdmitted p
  { u with planner := { u.planner with issued := u.planner.issued ++ [⟨l, s.nextLoaf, false⟩] } }

theorem admitted_base (l : Lane) (lead : Quad) (highest : Nat) (p : ProductIx) (span : Nat) (s : State) : s.admitted l lead highest p span =
    (s.admittedBase l p).withTail l ((s.lanes.get l).newRecord l s.nextLoaf lead highest p span) := by
  unfold State.admitted State.admittedBase
  generalize { s with lastLoaf := s.nextLoaf }.countAdmitted p = u
  rfl

theorem admittedBase_held (l : Lane) (p : ProductIx) (s : State) : (s.admittedBase l p).held = s.held := by
  simp [State.admittedBase, State.held]

theorem admittedBase_issued (l : Lane) (p : ProductIx) (s : State) :
    (s.admittedBase l p).planner.issued = s.planner.issued ++ [⟨l, s.nextLoaf, false⟩] := by
  simp [State.admittedBase]

theorem countAdmitted_of_room {p : ProductIx} {s : State} (h : s.totals.products[p].admitted < 4294967295) :
    s.countAdmitted p = s.modProductTotals p fun t => { t with admitted := t.admitted + 1 } := by
  rcases countLoaf_cases p (fun t => full32 t.admitted) (fun t => { t with admitted := t.admitted + 1 }) s with ⟨-, h'⟩ | ⟨h', -⟩
  · exact h'
  · rw [full32_eq_false h] at h'; cases h'

theorem admittedBase_of_room {l : Lane} {p : ProductIx} {s : State} (h : s.totals.products[p].admitted < 4294967295) : s.admittedBase l p = { s with
    lastLoaf := s.nextLoaf
    planner := { s.planner with issued := s.planner.issued ++ [⟨l, s.nextLoaf, false⟩] }
    totals := { s.totals with
      products := s.totals.products.set p { s.totals.products[p] with admitted := s.totals.products[p].admitted + 1 } } } := by
  unfold State.admittedBase
  rw [countAdmitted_of_room (s := { s with lastLoaf := s.nextLoaf }) h]
  rfl

theorem geometry_ordered_iff (g : Geometry) : g.ordered = true ↔ g.dBlade < g.dReject ∧ g.dReject < g.dRouter := by
  simp [Geometry.ordered]

/-! ### The points taken -/

section
variable {l : Lane} {lead : Quad} {highest : Nat} {p : ProductIx} {span : Nat} {s : State}

theorem takeAt_absent {q : LaneState} {n : Nat} {u : State} (h : u.queued l n = none) (e : Positional) (d : Nat) : u.takeAt q lead l n e d = u := by
  unfold State.takeAt
  rw [positionalEvent_of_absent h, ite_self]

section
variable (hposition : (s.lanes.get l).position - lead = BitVec.ofNat 32 span) (hspan : span < 2147483648)
include hposition hspan

theorem takeAt_reached {d : Nat} (hd : d ≤ span) (n : Nat) (e : Positional) (u : State) :
    u.takeAt (s.lanes.get l) lead l n e d = u.positionalEvent e l n :=
  if_pos ((reached_iff hposition hspan (by omega)).2 hd)

theorem takeAt_ahead {d : Nat} (hd : span < d) (hmax : d ≤ 2147483647) (n : Nat) (e : Positional) (u : State) :
    u.takeAt (s.lanes.get l) lead l n e d = u :=
  if_neg fun h => absurd ((reached_iff hposition hspan hmax).1 h) (by omega)

variable (hreject : (s.lanes.get l).geometry.dBlade < (s.lanes.get l).geometry.dReject)
  (hrouter : (s.lanes.get l).geometry.dReject < (s.lanes.get l).geometry.dRouter) (hmax : (s.lanes.get l).geometry.dRouter ≤ 40000)
include hreject hrouter hmax

theorem admitLoaf_before_blade (hblade : span < (s.lanes.get l).geometry.dBlade) :
    s.admitLoaf l lead highest p span = s.admitted l lead highest p span := by
  have hahead := fun d hd hm => takeAt_ahead hposition hspan (d := d) hd hm s.nextLoaf
  rw [admitLoaf_takes]
  simp only [hahead _ hblade (by omega), hahead _ (show span < (s.lanes.get l).geometry.dReject by omega) (by omega),
    hahead _ (show span < (s.lanes.get l).geometry.dRouter by omega) (by omega),
    hahead _ (show span < (s.lanes.get l).geometry.dBlade + min span 16383 by omega) (by omega), ite_self]

theorem admitLoaf_at_blade (hblade : (s.lanes.get l).geometry.dBlade ≤ span) (hgate : span < (s.lanes.get l).geometry.dReject)
    (hpast : span < (s.lanes.get l).geometry.dBlade + min span 16383) :
    s.admitLoaf l lead highest p span = (s.admitted l lead highest p span).bladeLineEvent l s.nextLoaf := by
  have hahead := fun d hd hm => takeAt_ahead hposition hspan (d := d) hd hm s.nextLoaf
  rw [admitLoaf_takes]
  simp only [takeAt_reached hposition hspan hblade, hahead _ hgate (by omega), hahead _ hpast (by omega),
    hahead _ (show span < (s.lanes.get l).geometry.dRouter by omega) (by omega), ite_self, State.positionalEvent]

omit hreject in
theorem admitLoaf_past_trailing (hblade : (s.lanes.get l).geometry.dBlade ≤ span) (hgate : span < (s.lanes.get l).geometry.dReject)
    (hpast : (s.lanes.get l).geometry.dBlade + min span 16383 ≤ span) : s.admitLoaf l lead highest p span =
      ((s.admitted l lead highest p span).bladeLineEvent l s.nextLoaf).trailingEvent l s.nextLoaf := by
  have hahead := fun d hd hm => takeAt_ahead hposition hspan (d := d) hd hm s.nextLoaf
  rw [admitLoaf_takes]
  simp only [takeAt_reached hposition hspan hblade, hahead _ hgate (by omega), takeAt_reached hposition hspan hpast,
    hahead _ (show span < (s.lanes.get l).geometry.dRouter by omega) (by omega), ite_self, State.positionalEvent]

omit hrouter hmax in
/-- R32: from the reject gate on the record is gone, and no later point is taken. -/
theorem admitLoaf_at_reject (hgate : (s.lanes.get l).geometry.dReject ≤ span) {t : State} (habsent : t.queued l s.nextLoaf = none)
    (hmarked : (((s.admitted l lead highest p span).bladeLineEvent l s.nextLoaf).trailingEvent l s.nextLoaf).rejectGateEvent l s.nextLoaf = t)
    (hunmarked : ((s.admitted l lead highest p span).bladeLineEvent l s.nextLoaf).rejectGateEvent l s.nextLoaf = t) :
    s.admitLoaf l lead highest p span = t := by
  rw [admitLoaf_takes]
  simp only [takeAt_reached hposition hspan (show (s.lanes.get l).geometry.dBlade ≤ span by omega), takeAt_reached hposition hspan hgate,
    State.positionalEvent]
  split
  · rename_i hpast
    have htrailing := takeAt_reached hposition hspan (d := (s.lanes.get l).geometry.dBlade + min span 16383) (by omega) s.nextLoaf .trailing
    simp only [htrailing, State.positionalEvent, hmarked, takeAt_absent habsent]
  · simp only [hunmarked, takeAt_absent habsent, ite_self]

end
end

/-! ### The late record -/

section
variable {l : Lane} {n : Nat} {u : State} {x : LoafRecord}

theorem late_record (hfree : n ∉ u.held.map LoafRecord.number) (hx : x.number = n) (hplan : x.plan = none) :
    ∃ hits marked, ∃ c : State, c = { u with watch := c.watch, line := c.line, notices := c.notices, planner := u.planner.withdraw n } ∧
      ((u.withTail l x.late).evaluate n).queued l n = some { x.late with hits := hits, marked := marked } ∧
      { (u.withTail l x.late).evaluate n with planner := u.planner.withdraw n } = c.withTail l { x.late with hits := hits, marked := marked } ∧
      (u.withTail l x).bladeLineEvent l n = c.withTail l { x.late with hits := hits, marked := marked } := by
  obtain ⟨hits, marked, w, line, q, hevaluate⟩ := evaluate_withTail (l := l) (x := x.late) hfree hx rfl
  refine ⟨hits, marked, { u with watch := w, line := line, notices := q, planner := u.planner.withdraw n }, rfl, ?_, ?_, ?_⟩
  · rw [hevaluate]
    exact queued_withTail hfree hx
  · rw [hevaluate]
    rfl
  · rw [bladeLineEvent_withTail hfree hx hplan, hevaluate]
    rfl

/-- R32: a late record at the reject gate, its trailing edge past the blade or not. -/
theorem late_diverted (hfree : n ∉ u.held.map LoafRecord.number) (hx : x.number = n) (hstage : x.stage = .planned)
    (hd : x.disposition = some .latePlan) (hroom : u.totals.products[x.product].rejLatePlan < 4294967295) :
    ∃ t, t = { u with
        lanes := u.lanes.set l { u.lanes.get l with diverter := some 300 }
        slicers := u.slicers.set l ((u.slicers.get l).dropCuts n)
        totals := { u.totals with
          products := u.totals.products.set x.product ((u.totals.products[x.product].bumpRejected .latePlan).countMarked x.marked) } }.report x .rejectGate none none ∧
      t.queued l n = none ∧ ((u.withTail l x).trailingEvent l n).rejectGateEvent l n = t ∧ (u.withTail l x).rejectGateEvent l n = t := by
  refine ⟨_, rfl, ?_, ?_, rejectGateEvent_withTail hfree hx hd hroom⟩
  · have hnone := queued_of_not_held hfree l
    unfold State.queued at hnone ⊢
    simpa using hnone
  · rw [trailingEvent_withTail hfree hx hstage]
    exact rejectGateEvent_withTail (x := { x with
      passed := { x.passed with trailing := true }, stage := if (u.slicers.get l).doneWith n = true then .sliced else x.stage }) hfree hx hd hroom

end

theorem withTail_rest {l : Lane} {planner : Planner} {y : LoafRecord} {w c : State} (h : { w with planner := planner } = c.withTail l y)
    (lanes : PerLane LaneState) (slicers : PerLane Slicer) {totals totals' : Totals} (ht : totals = totals') :
    { c with lanes := lanes, slicers := slicers, totals := totals } =
      { w with planner := planner, lanes := lanes, slicers := slicers, totals := totals' } := by
  rw [ht]
  exact congrArg (fun v : State => { v with lanes := lanes, slicers := slicers, totals := totals' }) h.symm

/-! ### The number and the points of a moving belt -/

theorem advanceTo_reached {l : Lane} {point : Quad} {s : State} (h : atOrBeyond (s.lanes.get l).position point = true) : s.advanceTo l point = s := by
  have hlane : s.lanes.set l { s.lanes.get l with
      position := if atOrBeyond (s.lanes.get l).position point then (s.lanes.get l).position else point } = s.lanes := by
    rw [if_pos h]
    cases l <;> rfl
  exact congrArg (fun lanes => { s with lanes := lanes }) hlane

theorem nextLoaf_of_free {s : State} (h : nextNumber s.lastLoaf ∉ s.held.map LoafRecord.number) : s.nextLoaf = nextNumber s.lastLoaf := by
  unfold State.nextLoaf freeNumber
  rw [if_neg (by simpa using h)]

/-- Settles O28. The points are judged against the belt the admission found, which no positional event moves; the record, being
alone of its number and last in its queue, is followed through its events there. -/
theorem admissionFormsTheRecord : Obligations.AdmissionFormsTheRecord := by
  refine ⟨?_, ?_, ?_, ?_⟩
  · intro l lead highest p span s n q g gap r figures admitted past take hroom
    have hgap : gap = gapBefore lead q.previous := by
      show (match q.previous with | none => 65535 | some e => min 65535 (lead - e).toNat) = _
      cases q.previous <;> rfl
    have hrecord : q.newRecord l n lead highest p span = r := by
      unfold LaneState.newRecord
      rw [← hgap]
      rfl
    have hadmitted : s.admitted l lead highest p span = admitted := by
      rw [admitted_base, admittedBase_of_room hroom, hrecord]
      rfl
    refine ⟨?_, fun hposition hspan hordered hmax => ?_⟩
    · have htakes := admitLoaf_takes l lead highest p span s
      rw [hadmitted] at htakes
      exact htakes
    · obtain ⟨hreject, hrouter⟩ := (geometry_ordered_iff _).1 hordered
      refine ⟨fun hblade => (admitLoaf_before_blade hposition hspan hreject hrouter hmax hblade).trans hadmitted, ?_⟩
      intro hblade hlow hbooks late watched withdrawn sl noCut
      have hfree : n ∉ (s.admittedBase l p).held.map LoafRecord.number := by
        rw [admittedBase_held]
        exact nextLoaf_not_held hbooks
      rw [admittedBase_of_room hroom] at hfree
      obtain ⟨hits, marked, c, hc, hqueued, hwatched, hevent⟩ := late_record (l := l) (x := r) hfree rfl rfl
      replace hwatched : { watched with planner := withdrawn } = c.withTail l { late with hits := hits, marked := marked } := hwatched
      replace hevent : (s.admitted l lead highest p span).bladeLineEvent l n = c.withTail l { late with hits := hits, marked := marked } :=
        (congrArg (State.bladeLineEvent l n) hadmitted).trans hevent
      have hfreec : n ∉ c.held.map LoafRecord.number := by rw [hc]; exact hfree
      have hlanes : c.lanes = s.lanes := by rw [hc]
      have hslicers : c.slicers = s.slicers := by rw [hc]
      have htotals : c.totals = { s.totals with products := s.totals.products.set p { figures with admitted := figures.admitted + 1 } } := by rw [hc]
      refine ⟨{ late with hits := hits, marked := marked }, hqueued, rfl, fun hgate hpast => ?_, fun hgate hpast => ?_, fun hgate hfigure => ?_⟩
      · rw [admitLoaf_at_blade hposition hspan hreject hrouter hmax hblade hgate hpast, hevent, hwatched]
      · rw [admitLoaf_past_trailing hposition hspan hrouter hmax hblade hgate hpast, hevent, hwatched, trailingEvent_withTail hfreec rfl rfl,
          updateRecord_withTail hfreec rfl, hslicers]
        have hstage : (if (s.slicers.get l).doneWith n = true then Stage.sliced else Stage.planned) = if noCut then .sliced else .planned :=
          if_congr (doneWith_iff n sl) rfl rfl
        exact congrArg (fun stage => c.withTail l { late with
          hits := hits, marked := marked, passed := ⟨true, true, false, false⟩, stage := stage }) hstage
      · have hfigures : c.totals.products[p] = { figures with admitted := figures.admitted + 1 } := by
          rw [htotals]
          simp
        obtain ⟨t, ht, habsent, hmarkedEvent, hunmarked⟩ := late_diverted (l := l) (x := { late with hits := hits, marked := marked }) hfreec rfl rfl rfl
          (show c.totals.products[p].rejLatePlan < 4294967295 by rw [hfigures]; exact hfigure)
        rw [← hevent] at hmarkedEvent hunmarked
        rw [admitLoaf_at_reject hposition hspan hreject hgate habsent hmarkedEvent hunmarked, ht]
        have hcounted : { c.totals with products := c.totals.products.set p ((c.totals.products[p].bumpRejected .latePlan).countMarked marked) } =
            { s.totals with products := s.totals.products.set p { figures with
              admitted := figures.admitted + 1
              rejLatePlan := figures.rejLatePlan + 1
              marked := if marked then min 4294967295 (figures.marked + 1) else figures.marked } } := by
          rw [hfigures, bumpRejected_countMarked, htotals]
          simp only [Vector.set_set]
          rfl
        refine congrArg (State.report _ .rejectGate none none) ?_
        rw [hlanes, hslicers, dropCuts_eq]
        exact withTail_rest hwatched _ _ hcounted
  · intro e l n u
    refine ⟨positionalEvent_of_absent, ?_⟩
    intro r hq hruns g reached ends
    have hends : ∀ f : Positional, f.due r.passed = true → reached (f.distance g r) →
        u.reach f l n = State.finish u none (u.positionalEvent f l n) := fun f hdue hreached => by
      rw [reach_of_due hq hruns hdue, advanceTo_reached (point := pointAt r.lead (f.distance (u.lanes.get l).geometry r)) hreached]
    refine ⟨?_, ?_, ?_, ?_⟩
    · rintro rfl hpassed hreached
      exact congrArg Host.Outcome.next (hends .bladeLine (by simp [Positional.due, hpassed]) hreached)
    · rintro rfl hblade hpassed hreached
      exact congrArg Host.Outcome.next (hends .trailing (by simp [Positional.due, hblade, hpassed]) hreached)
    · rintro rfl hblade hpassed hreached
      exact congrArg Host.Outcome.next (hends .rejectGate (by simp [Positional.due, hblade, hpassed]) hreached)
    · rintro rfl hgate hpassed hreached
      exact congrArg Host.Outcome.next (hends .routerGate (by simp [Positional.due, hgate, hpassed]) hreached)
  · intro s hbooks
    obtain ⟨hlow, hhigh⟩ := nextLoaf_range s
    refine ⟨hlow, hhigh, fun r hr hn => nextLoaf_not_held hbooks (List.mem_map.2 ⟨r, hr, hn⟩), fun hnext => nextLoaf_of_free fun hmem => ?_⟩
    obtain ⟨r, hr, hn⟩ := List.mem_map.1 hmem
    exact hnext r hr hn
  · intro l lead highest p span s q t hbooks hposition hblade hgate hlength hlow hordered hmax
    obtain ⟨hreject, hrouter⟩ := (geometry_ordered_iff _).1 hordered
    have hfree : s.nextLoaf ∉ (s.admittedBase l p).held.map LoafRecord.number := by
      rw [admittedBase_held]
      exact nextLoaf_not_held hbooks
    obtain ⟨hits, marked, c, hc, -, -, hevent⟩ := late_record (l := l) hfree (x := q.newRecord l s.nextLoaf lead highest p span) rfl rfl
    have hfreec : s.nextLoaf ∉ c.held.map LoafRecord.number := by rw [hc]; exact hfree
    have hissued : c.planner.issued = ((s.admittedBase l p).planner.withdraw s.nextLoaf).issued := by rw [hc]
    have hpast : span < q.geometry.dBlade + min span 16383 := by omega
    have ht : t = _ := (admitLoaf_at_blade hposition (by omega) hreject hrouter hmax hblade hgate hpast).trans
      ((congrArg (State.bladeLineEvent l s.nextLoaf) (admitted_base l lead highest p span s)).trans hevent)
    rw [ht]
    refine ⟨_, queued_withTail hfreec rfl, rfl, rfl, rfl, rfl, ?_⟩
    rw [← admittedBase_issued l p s]
    exact hissued

end Sys2Proof.Machine
end
